-- ==== Sys2Proof/Word.lean ====
section
/-! DEFINITION. The machine's words and the plainest arithmetic on them (spec 00_scope.md R8 to R10).

Bits are numbered LSB-0, as in R9: bit 0 is the least significant. -/

namespace Sys2Proof

/-- A general register, an effective or physical address, an instruction word (R7: XLEN 32). -/
abbrev Word := BitVec 32

/-- One byte of memory (R100). -/
abbrev Byte := BitVec 8

/-- One lane of a floating-point register (R46). -/
abbrev Lane := BitVec 64

/-- `carry32(a, b, c)` of R10: bit 32 of the 33-bit sum. -/
def carry32 (a b : Word) (c : Bool) : Bool :=
  decide (2 ^ 32 ≤ a.toNat + b.toNat + c.toNat)

/-- `ovf32(a, b, c)` of R10: the exact signed sum lies outside [-2^31, 2^31 - 1]. -/
def ovf32 (a b : Word) (c : Bool) : Bool :=
  let sum := a.toInt + b.toInt + (c.toNat : Int)
  decide (sum < -2 ^ 31 ∨ 2 ^ 31 ≤ sum)

end Sys2Proof
end

