-- ==== Sys2Proof/Syntax.lean ====
section
/-! DEFINITION. The instruction set: one constructor for each row of spec/opcode_table.json (R180, R193).

Operand fields are those of 30_encoding.md R151, in the table's order. The suffix `_rc` spells the dot of a
mnemonic that always records (`addic.`, `andi.`, `andis.`, `stwcx.`). The extended mnemonics of R191 and R192 have
no constructor: their words are words of these instructions. -/

namespace Sys2Proof

/-- A general register number (rD, rS, rA, rB of R151). -/
abbrev Reg := BitVec 5

/-- A floating-point register number (frD, frS, frA, frB, frC of R151). -/
abbrev FReg := BitVec 5

/-- A condition register field number, 0 to 7 (crfD, crfS of R151). -/
abbrev CrField := BitVec 3

/-- A condition register bit in the PowerPC numbering, 0 the most significant (crbD, crbA, crbB, BI of R151). -/
abbrev CrBit := BitVec 5

/-- The instructions. `oe`, `rc`, `aa` and `lk` are the OE, Rc, AA and LK bits, `l` the L bit of a compare; `spr` and
`tbr` are register numbers with their halves already in order (R165 (j)); `cond` is the TO field; `single` and `gqr` are the W and I fields
of the quantized forms. -/
inductive Instr where
  -- Integer arithmetic (spec 40)
  /-- `add`, XO-form: R201. -/
  | add (rD rA rB : Reg) (oe rc : Bool)
  /-- `addc`, XO-form: R202. -/
  | addc (rD rA rB : Reg) (oe rc : Bool)
  /-- `adde`, XO-form: R203. -/
  | adde (rD rA rB : Reg) (oe rc : Bool)
  /-- `addi`, D-form: R204. -/
  | addi (rD rA : Reg) (simm : BitVec 16)
  /-- `addic`, D-form: R205. -/
  | addic (rD rA : Reg) (simm : BitVec 16)
  /-- `addic.`, D-form: R206. -/
  | addic_rc (rD rA : Reg) (simm : BitVec 16)
  /-- `addis`, D-form: R207. -/
  | addis (rD rA : Reg) (simm : BitVec 16)
  /-- `addme`, XO-form: R208. -/
  | addme (rD rA : Reg) (oe rc : Bool)
  /-- `addze`, XO-form: R209. -/
  | addze (rD rA : Reg) (oe rc : Bool)
  /-- `subf`, XO-form: R210. -/
  | subf (rD rA rB : Reg) (oe rc : Bool)
  /-- `subfc`, XO-form: R211. -/
  | subfc (rD rA rB : Reg) (oe rc : Bool)
  /-- `subfe`, XO-form: R212. -/
  | subfe (rD rA rB : Reg) (oe rc : Bool)
  /-- `subfic`, D-form: R213. -/
  | subfic (rD rA : Reg) (simm : BitVec 16)
  /-- `subfme`, XO-form: R214. -/
  | subfme (rD rA : Reg) (oe rc : Bool)
  /-- `subfze`, XO-form: R215. -/
  | subfze (rD rA : Reg) (oe rc : Bool)
  /-- `neg`, XO-form: R216. -/
  | neg (rD rA : Reg) (oe rc : Bool)
  /-- `mulhw`, XO-form: R217. -/
  | mulhw (rD rA rB : Reg) (rc : Bool)
  /-- `mulhwu`, XO-form: R218. -/
  | mulhwu (rD rA rB : Reg) (rc : Bool)
  /-- `mullw`, XO-form: R219. -/
  | mullw (rD rA rB : Reg) (oe rc : Bool)
  /-- `mulli`, D-form: R220. -/
  | mulli (rD rA : Reg) (simm : BitVec 16)
  /-- `divw`, XO-form: R221. -/
  | divw (rD rA rB : Reg) (oe rc : Bool)
  /-- `divwu`, XO-form: R222. -/
  | divwu (rD rA rB : Reg) (oe rc : Bool)
  -- Logical, shift and rotate (spec 41)
  /-- `and`, X-form: R251. -/
  | and (rS rA rB : Reg) (rc : Bool)
  /-- `andc`, X-form: R252. -/
  | andc (rS rA rB : Reg) (rc : Bool)
  /-- `andi.`, D-form: R253. -/
  | andi_rc (rS rA : Reg) (uimm : BitVec 16)
  /-- `andis.`, D-form: R254. -/
  | andis_rc (rS rA : Reg) (uimm : BitVec 16)
  /-- `or`, X-form: R255. -/
  | or (rS rA rB : Reg) (rc : Bool)
  /-- `orc`, X-form: R256. -/
  | orc (rS rA rB : Reg) (rc : Bool)
  /-- `ori`, D-form: R257. -/
  | ori (rS rA : Reg) (uimm : BitVec 16)
  /-- `oris`, D-form: R258. -/
  | oris (rS rA : Reg) (uimm : BitVec 16)
  /-- `xor`, X-form: R259. -/
  | xor (rS rA rB : Reg) (rc : Bool)
  /-- `xori`, D-form: R260. -/
  | xori (rS rA : Reg) (uimm : BitVec 16)
  /-- `xoris`, D-form: R261. -/
  | xoris (rS rA : Reg) (uimm : BitVec 16)
  /-- `nand`, X-form: R262. -/
  | nand (rS rA rB : Reg) (rc : Bool)
  /-- `nor`, X-form: R263. -/
  | nor (rS rA rB : Reg) (rc : Bool)
  /-- `eqv`, X-form: R264. -/
  | eqv (rS rA rB : Reg) (rc : Bool)
  /-- `slw`, X-form: R270. -/
  | slw (rS rA rB : Reg) (rc : Bool)
  /-- `srw`, X-form: R271. -/
  | srw (rS rA rB : Reg) (rc : Bool)
  /-- `sraw`, X-form: R272. -/
  | sraw (rS rA rB : Reg) (rc : Bool)
  /-- `srawi`, X-form: R273. -/
  | srawi (rS rA : Reg) (sh : BitVec 5) (rc : Bool)
  /-- `rlwimi`, M-form: R274. -/
  | rlwimi (rS rA : Reg) (sh mb me : BitVec 5) (rc : Bool)
  /-- `rlwinm`, M-form: R275. -/
  | rlwinm (rS rA : Reg) (sh mb me : BitVec 5) (rc : Bool)
  /-- `rlwnm`, M-form: R276. -/
  | rlwnm (rS rA rB : Reg) (mb me : BitVec 5) (rc : Bool)
  -- Compare and branch (spec 42)
  /-- `cmp`, X-form: R301. -/
  | cmp (crfD : CrField) (l : Bool) (rA rB : Reg)
  /-- `cmpi`, D-form: R302. -/
  | cmpi (crfD : CrField) (l : Bool) (rA : Reg) (simm : BitVec 16)
  /-- `cmpl`, X-form: R303. -/
  | cmpl (crfD : CrField) (l : Bool) (rA rB : Reg)
  /-- `cmpli`, D-form: R304. -/
  | cmpli (crfD : CrField) (l : Bool) (rA : Reg) (uimm : BitVec 16)
  /-- `b`, I-form: R310. -/
  | b (li : BitVec 24) (aa lk : Bool)
  /-- `bc`, B-form: R312. -/
  | bc (bo : BitVec 5) (bi : CrBit) (bd : BitVec 14) (aa lk : Bool)
  /-- `bclr`, XL-form: R313. -/
  | bclr (bo : BitVec 5) (bi : CrBit) (lk : Bool)
  /-- `bcctr`, XL-form: R314. -/
  | bcctr (bo : BitVec 5) (bi : CrBit) (lk : Bool)
  -- Integer loads and stores (spec 43)
  /-- `lbz`, D-form: R351. -/
  | lbz (rD rA : Reg) (d : BitVec 16)
  /-- `lbzu`, D-form: R352. -/
  | lbzu (rD rA : Reg) (d : BitVec 16)
  /-- `lbzx`, X-form: R353. -/
  | lbzx (rD rA rB : Reg)
  /-- `lbzux`, X-form: R354. -/
  | lbzux (rD rA rB : Reg)
  /-- `stb`, D-form: R355. -/
  | stb (rS rA : Reg) (d : BitVec 16)
  /-- `stbu`, D-form: R356. -/
  | stbu (rS rA : Reg) (d : BitVec 16)
  /-- `stbx`, X-form: R357. -/
  | stbx (rS rA rB : Reg)
  /-- `stbux`, X-form: R358. -/
  | stbux (rS rA rB : Reg)
  /-- `lhz`, D-form: R359. -/
  | lhz (rD rA : Reg) (d : BitVec 16)
  /-- `lhzu`, D-form: R360. -/
  | lhzu (rD rA : Reg) (d : BitVec 16)
  /-- `lhzx`, X-form: R361. -/
  | lhzx (rD rA rB : Reg)
  /-- `lhzux`, X-form: R362. -/
  | lhzux (rD rA rB : Reg)
  /-- `lha`, D-form: R363. -/
  | lha (rD rA : Reg) (d : BitVec 16)
  /-- `lhau`, D-form: R364. -/
  | lhau (rD rA : Reg) (d : BitVec 16)
  /-- `lhax`, X-form: R365. -/
  | lhax (rD rA rB : Reg)
  /-- `lhaux`, X-form: R366. -/
  | lhaux (rD rA rB : Reg)
  /-- `sth`, D-form: R367. -/
  | sth (rS rA : Reg) (d : BitVec 16)
  /-- `sthu`, D-form: R368. -/
  | sthu (rS rA : Reg) (d : BitVec 16)
  /-- `sthx`, X-form: R369. -/
  | sthx (rS rA rB : Reg)
  /-- `sthux`, X-form: R370. -/
  | sthux (rS rA rB : Reg)
  /-- `lhbrx`, X-form: R371. -/
  | lhbrx (rD rA rB : Reg)
  /-- `sthbrx`, X-form: R372. -/
  | sthbrx (rS rA rB : Reg)
  /-- `lwz`, D-form: R373. -/
  | lwz (rD rA : Reg) (d : BitVec 16)
  /-- `lwzu`, D-form: R374. -/
  | lwzu (rD rA : Reg) (d : BitVec 16)
  /-- `lwzx`, X-form: R375. -/
  | lwzx (rD rA rB : Reg)
  /-- `lwzux`, X-form: R376. -/
  | lwzux (rD rA rB : Reg)
  /-- `stw`, D-form: R377. -/
  | stw (rS rA : Reg) (d : BitVec 16)
  /-- `stwu`, D-form: R378. -/
  | stwu (rS rA : Reg) (d : BitVec 16)
  /-- `stwx`, X-form: R379. -/
  | stwx (rS rA rB : Reg)
  /-- `stwux`, X-form: R380. -/
  | stwux (rS rA rB : Reg)
  /-- `lwbrx`, X-form: R381. -/
  | lwbrx (rD rA rB : Reg)
  /-- `stwbrx`, X-form: R382. -/
  | stwbrx (rS rA rB : Reg)
  /-- `lmw`, D-form: R395. -/
  | lmw (rD rA : Reg) (d : BitVec 16)
  /-- `stmw`, D-form: R396. -/
  | stmw (rS rA : Reg) (d : BitVec 16)
  /-- `lswi`, X-form: R397. -/
  | lswi (rD rA : Reg) (nb : BitVec 5)
  /-- `lswx`, X-form: R398. -/
  | lswx (rD rA rB : Reg)
  /-- `stswi`, X-form: R399. -/
  | stswi (rS rA : Reg) (nb : BitVec 5)
  /-- `stswx`, X-form: R400. -/
  | stswx (rS rA rB : Reg)
  -- Floating-point arithmetic (spec 45)
  /-- `fadd`, A-form: R471. -/
  | fadd (frD frA frB : FReg) (rc : Bool)
  /-- `fadds`, A-form: R472. -/
  | fadds (frD frA frB : FReg) (rc : Bool)
  /-- `fsub`, A-form: R473. -/
  | fsub (frD frA frB : FReg) (rc : Bool)
  /-- `fsubs`, A-form: R474. -/
  | fsubs (frD frA frB : FReg) (rc : Bool)
  /-- `fmul`, A-form: R475. -/
  | fmul (frD frA frC : FReg) (rc : Bool)
  /-- `fmuls`, A-form: R476. -/
  | fmuls (frD frA frC : FReg) (rc : Bool)
  /-- `fdiv`, A-form: R477. -/
  | fdiv (frD frA frB : FReg) (rc : Bool)
  /-- `fdivs`, A-form: R478. -/
  | fdivs (frD frA frB : FReg) (rc : Bool)
  /-- `fmadd`, A-form: R479. -/
  | fmadd (frD frA frB frC : FReg) (rc : Bool)
  /-- `fmadds`, A-form: R480. -/
  | fmadds (frD frA frB frC : FReg) (rc : Bool)
  /-- `fmsub`, A-form: R481. -/
  | fmsub (frD frA frB frC : FReg) (rc : Bool)
  /-- `fmsubs`, A-form: R482. -/
  | fmsubs (frD frA frB frC : FReg) (rc : Bool)
  /-- `fnmadd`, A-form: R483. -/
  | fnmadd (frD frA frB frC : FReg) (rc : Bool)
  /-- `fnmadds`, A-form: R484. -/
  | fnmadds (frD frA frB frC : FReg) (rc : Bool)
  /-- `fnmsub`, A-form: R485. -/
  | fnmsub (frD frA frB frC : FReg) (rc : Bool)
  /-- `fnmsubs`, A-form: R486. -/
  | fnmsubs (frD frA frB frC : FReg) (rc : Bool)
  /-- `fabs`, X-form: R487. -/
  | fabs (frD frB : FReg) (rc : Bool)
  /-- `fnabs`, X-form: R488. -/
  | fnabs (frD frB : FReg) (rc : Bool)
  /-- `fneg`, X-form: R489. -/
  | fneg (frD frB : FReg) (rc : Bool)
  /-- `fres`, A-form: R490. -/
  | fres (frD frB : FReg) (rc : Bool)
  /-- `frsqrte`, A-form: R491. -/
  | frsqrte (frD frB : FReg) (rc : Bool)
  /-- `fsel`, A-form: R492. -/
  | fsel (frD frA frB frC : FReg) (rc : Bool)
  /-- `fsqrt`, A-form: R493. -/
  | fsqrt (frD frB : FReg) (rc : Bool)
  /-- `fsqrts`, A-form: R494. -/
  | fsqrts (frD frB : FReg) (rc : Bool)
  /-- `frsp`, X-form: R495. -/
  | frsp (frD frB : FReg) (rc : Bool)
  /-- `fctiw`, X-form: R496. -/
  | fctiw (frD frB : FReg) (rc : Bool)
  /-- `fctiwz`, X-form: R497. -/
  | fctiwz (frD frB : FReg) (rc : Bool)
  /-- `fcmpo`, X-form: R498. -/
  | fcmpo (crfD : CrField) (frA frB : FReg)
  /-- `fcmpu`, X-form: R499. -/
  | fcmpu (crfD : CrField) (frA frB : FReg)
  /-- `fmr`, X-form: R500. -/
  | fmr (frD frB : FReg) (rc : Bool)
  -- Floating-point loads and stores (spec 45)
  /-- `lfd`, D-form: R511. -/
  | lfd (frD : FReg) (rA : Reg) (d : BitVec 16)
  /-- `lfdu`, D-form: R512. -/
  | lfdu (frD : FReg) (rA : Reg) (d : BitVec 16)
  /-- `lfdx`, X-form: R513. -/
  | lfdx (frD : FReg) (rA rB : Reg)
  /-- `lfdux`, X-form: R514. -/
  | lfdux (frD : FReg) (rA rB : Reg)
  /-- `lfs`, D-form: R515. -/
  | lfs (frD : FReg) (rA : Reg) (d : BitVec 16)
  /-- `lfsu`, D-form: R516. -/
  | lfsu (frD : FReg) (rA : Reg) (d : BitVec 16)
  /-- `lfsx`, X-form: R517. -/
  | lfsx (frD : FReg) (rA rB : Reg)
  /-- `lfsux`, X-form: R518. -/
  | lfsux (frD : FReg) (rA rB : Reg)
  /-- `stfd`, D-form: R519. -/
  | stfd (frS : FReg) (rA : Reg) (d : BitVec 16)
  /-- `stfdu`, D-form: R520. -/
  | stfdu (frS : FReg) (rA : Reg) (d : BitVec 16)
  /-- `stfdx`, X-form: R521. -/
  | stfdx (frS : FReg) (rA rB : Reg)
  /-- `stfdux`, X-form: R522. -/
  | stfdux (frS : FReg) (rA rB : Reg)
  /-- `stfs`, D-form: R523. -/
  | stfs (frS : FReg) (rA : Reg) (d : BitVec 16)
  /-- `stfsu`, D-form: R524. -/
  | stfsu (frS : FReg) (rA : Reg) (d : BitVec 16)
  /-- `stfsx`, X-form: R525. -/
  | stfsx (frS : FReg) (rA rB : Reg)
  /-- `stfsux`, X-form: R526. -/
  | stfsux (frS : FReg) (rA rB : Reg)
  /-- `stfiwx`, X-form: R527. -/
  | stfiwx (frS : FReg) (rA rB : Reg)
  -- Cache blocks (spec 46)
  /-- `dcbf`, X-form: R551. -/
  | dcbf (rA rB : Reg)
  /-- `dcbi`, X-form: R552. -/
  | dcbi (rA rB : Reg)
  /-- `dcbst`, X-form: R553. -/
  | dcbst (rA rB : Reg)
  /-- `dcbt`, X-form: R554. -/
  | dcbt (rA rB : Reg)
  /-- `dcbtst`, X-form: R555. -/
  | dcbtst (rA rB : Reg)
  /-- `dcbz`, X-form: R556. -/
  | dcbz (rA rB : Reg)
  /-- `icbi`, X-form: R557. -/
  | icbi (rA rB : Reg)
  -- Special registers, FPSCR and condition register (spec 46)
  /-- `mtspr`, XFX-form: R562. -/
  | mtspr (rS : Reg) (spr : BitVec 10)
  /-- `mfspr`, XFX-form: R564. -/
  | mfspr (rD : Reg) (spr : BitVec 10)
  /-- `mtcrf`, XFX-form: R565. -/
  | mtcrf (rS : Reg) (crm : BitVec 8)
  /-- `mftb`, XFX-form: R566. -/
  | mftb (rD : Reg) (tbr : BitVec 10)
  /-- `mfcr`, X-form: R567. -/
  | mfcr (rD : Reg)
  /-- `mtmsr`, X-form: R568. -/
  | mtmsr (rS : Reg)
  /-- `mfmsr`, X-form: R569. -/
  | mfmsr (rD : Reg)
  /-- `mcrfs`, X-form: R580. -/
  | mcrfs (crfD crfS : CrField)
  /-- `mffs`, X-form: R581. -/
  | mffs (frD : FReg) (rc : Bool)
  /-- `mtfsb0`, X-form: R582. -/
  | mtfsb0 (crbD : CrBit) (rc : Bool)
  /-- `mtfsb1`, X-form: R583. -/
  | mtfsb1 (crbD : CrBit) (rc : Bool)
  /-- `mtfsf`, XFL-form: R584. -/
  | mtfsf (fm : BitVec 8) (frB : FReg) (rc : Bool)
  /-- `mtfsfi`, X-form: R585. -/
  | mtfsfi (crfD : CrField) (imm : BitVec 4) (rc : Bool)
  /-- `crand`, XL-form: R591. -/
  | crand (crbD crbA crbB : CrBit)
  /-- `crandc`, XL-form: R592. -/
  | crandc (crbD crbA crbB : CrBit)
  /-- `creqv`, XL-form: R593. -/
  | creqv (crbD crbA crbB : CrBit)
  /-- `crnand`, XL-form: R594. -/
  | crnand (crbD crbA crbB : CrBit)
  /-- `crnor`, XL-form: R595. -/
  | crnor (crbD crbA crbB : CrBit)
  /-- `cror`, XL-form: R596. -/
  | cror (crbD crbA crbB : CrBit)
  /-- `crorc`, XL-form: R597. -/
  | crorc (crbD crbA crbB : CrBit)
  /-- `crxor`, XL-form: R598. -/
  | crxor (crbD crbA crbB : CrBit)
  /-- `mcrf`, XL-form: R599. -/
  | mcrf (crfD crfS : CrField)
  -- System, traps, segments and TLB (spec 47)
  /-- `sync`, X-form: R621. -/
  | sync
  /-- `isync`, XL-form: R622. -/
  | isync
  /-- `eieio`, X-form: R623. -/
  | eieio
  /-- `tlbie`, X-form: R624. -/
  | tlbie (rB : Reg)
  /-- `tlbia`, X-form: R625. -/
  | tlbia
  /-- `tlbsync`, X-form: R626. -/
  | tlbsync
  /-- `mtsr`, X-form: R627. -/
  | mtsr (rS : Reg) (sr : BitVec 4)
  /-- `mfsr`, X-form: R628. -/
  | mfsr (rD : Reg) (sr : BitVec 4)
  /-- `mtsrin`, X-form: R629. -/
  | mtsrin (rS rB : Reg)
  /-- `mfsrin`, X-form: R630. -/
  | mfsrin (rD rB : Reg)
  /-- `sc`, SC-form: R640. -/
  | sc
  /-- `rfi`, XL-form: R641. -/
  | rfi
  /-- `tw`, X-form: R642. -/
  | tw (cond : BitVec 5) (rA rB : Reg)
  /-- `twi`, D-form: R643. -/
  | twi (cond : BitVec 5) (rA : Reg) (simm : BitVec 16)
  -- Quantized loads and stores (spec 48)
  /-- `psq_l`, DQ-form: R670. -/
  | psq_l (frD : FReg) (rA : Reg) (single : Bool) (gqr : BitVec 3) (d12 : BitVec 12)
  /-- `psq_lu`, DQ-form: R671. -/
  | psq_lu (frD : FReg) (rA : Reg) (single : Bool) (gqr : BitVec 3) (d12 : BitVec 12)
  /-- `psq_lx`, XQ-form: R672. -/
  | psq_lx (frD : FReg) (rA rB : Reg) (single : Bool) (gqr : BitVec 3)
  /-- `psq_lux`, XQ-form: R673. -/
  | psq_lux (frD : FReg) (rA rB : Reg) (single : Bool) (gqr : BitVec 3)
  /-- `psq_st`, DQ-form: R674. -/
  | psq_st (frS : FReg) (rA : Reg) (single : Bool) (gqr : BitVec 3) (d12 : BitVec 12)
  /-- `psq_stu`, DQ-form: R675. -/
  | psq_stu (frS : FReg) (rA : Reg) (single : Bool) (gqr : BitVec 3) (d12 : BitVec 12)
  /-- `psq_stx`, XQ-form: R676. -/
  | psq_stx (frS : FReg) (rA rB : Reg) (single : Bool) (gqr : BitVec 3)
  /-- `psq_stux`, XQ-form: R677. -/
  | psq_stux (frS : FReg) (rA rB : Reg) (single : Bool) (gqr : BitVec 3)
  -- Paired singles (spec 48)
  /-- `ps_add`, A-form: R680. -/
  | ps_add (frD frA frB : FReg) (rc : Bool)
  /-- `ps_sub`, A-form: R681. -/
  | ps_sub (frD frA frB : FReg) (rc : Bool)
  /-- `ps_mul`, A-form: R682. -/
  | ps_mul (frD frA frC : FReg) (rc : Bool)
  /-- `ps_div`, A-form: R683. -/
  | ps_div (frD frA frB : FReg) (rc : Bool)
  /-- `ps_abs`, X-form: R684. -/
  | ps_abs (frD frB : FReg) (rc : Bool)
  /-- `ps_neg`, X-form: R685. -/
  | ps_neg (frD frB : FReg) (rc : Bool)
  /-- `ps_nabs`, X-form: R686. -/
  | ps_nabs (frD frB : FReg) (rc : Bool)
  /-- `ps_madd`, A-form: R687. -/
  | ps_madd (frD frA frB frC : FReg) (rc : Bool)
  /-- `ps_madds0`, A-form: R688. -/
  | ps_madds0 (frD frA frB frC : FReg) (rc : Bool)
  /-- `ps_madds1`, A-form: R689. -/
  | ps_madds1 (frD frA frB frC : FReg) (rc : Bool)
  /-- `ps_msub`, A-form: R690. -/
  | ps_msub (frD frA frB frC : FReg) (rc : Bool)
  /-- `ps_nmadd`, A-form: R691. -/
  | ps_nmadd (frD frA frB frC : FReg) (rc : Bool)
  /-- `ps_nmsub`, A-form: R692. -/
  | ps_nmsub (frD frA frB frC : FReg) (rc : Bool)
  /-- `ps_mr`, X-form: R693. -/
  | ps_mr (frD frB : FReg) (rc : Bool)
  /-- `ps_res`, A-form: R694. -/
  | ps_res (frD frB : FReg) (rc : Bool)
  /-- `ps_rsqrte`, A-form: R695. -/
  | ps_rsqrte (frD frB : FReg) (rc : Bool)
  /-- `ps_sel`, A-form: R696. -/
  | ps_sel (frD frA frB frC : FReg) (rc : Bool)
  /-- `ps_sum0`, A-form: R697. -/
  | ps_sum0 (frD frA frB frC : FReg) (rc : Bool)
  /-- `ps_sum1`, A-form: R698. -/
  | ps_sum1 (frD frA frB frC : FReg) (rc : Bool)
  /-- `ps_muls0`, A-form: R699. -/
  | ps_muls0 (frD frA frC : FReg) (rc : Bool)
  /-- `ps_muls1`, A-form: R700. -/
  | ps_muls1 (frD frA frC : FReg) (rc : Bool)
  /-- `ps_merge00`, X-form: R701. -/
  | ps_merge00 (frD frA frB : FReg) (rc : Bool)
  /-- `ps_merge01`, X-form: R702. -/
  | ps_merge01 (frD frA frB : FReg) (rc : Bool)
  /-- `ps_merge10`, X-form: R703. -/
  | ps_merge10 (frD frA frB : FReg) (rc : Bool)
  /-- `ps_merge11`, X-form: R704. -/
  | ps_merge11 (frD frA frB : FReg) (rc : Bool)
  /-- `ps_cmpu0`, X-form: R705. -/
  | ps_cmpu0 (crfD : CrField) (frA frB : FReg)
  /-- `ps_cmpo0`, X-form: R706. -/
  | ps_cmpo0 (crfD : CrField) (frA frB : FReg)
  /-- `ps_cmpu1`, X-form: R707. -/
  | ps_cmpu1 (crfD : CrField) (frA frB : FReg)
  /-- `ps_cmpo1`, X-form: R708. -/
  | ps_cmpo1 (crfD : CrField) (frA frB : FReg)
  -- The supplement: instructions the source does not list (spec 49)
  /-- `extsb`, X-form: R741. -/
  | extsb (rS rA : Reg) (rc : Bool)
  /-- `extsh`, X-form: R742. -/
  | extsh (rS rA : Reg) (rc : Bool)
  /-- `lwarx`, X-form: R743. -/
  | lwarx (rD rA rB : Reg)
  /-- `stwcx.`, X-form: R744. -/
  | stwcx_rc (rS rA rB : Reg)
  /-- `cntlzw`, X-form: R745. -/
  | cntlzw (rS rA : Reg) (rc : Bool)
  /-- `eciwx`, X-form: R746. -/
  | eciwx (rD rA rB : Reg)
  /-- `ecowx`, X-form: R747. -/
  | ecowx (rS rA rB : Reg)
  /-- `mcrxr`, X-form: R748. -/
  | mcrxr (crfD : CrField)
  /-- `dcbz_l`, X-form: R749. -/
  | dcbz_l (rA rB : Reg)
deriving DecidableEq, Repr

end Sys2Proof
end

