-- ==== Sys2Proof/WellFormed.lean ====
section
/-! DEFINITION. The invalid forms of 30_encoding.md R185 that an instruction's fields alone show.

The forms that depend on the state are checked where it is at hand: the register range of `lswx` (it depends on
XER, R398), the GQR type of the quantized forms (R666) and the special register numbers, which raise an exception (R563). -/

namespace Sys2Proof

/-- The branch options R311 gives a meaning: 0000y, 0001y, 0010y, 0100y, 0101y, 0110y, 1000y, 1001y and 10100. -/
def boDefined (bo : BitVec 5) : Bool :=
  bif bo.getLsbD 4 then !bo.getLsbD 3 && !(bo.getLsbD 2 && (bo.getLsbD 1 || bo.getLsbD 0))
  else !(bo.getLsbD 2 && bo.getLsbD 1)

/-- `reg` is one of the `count` registers that follow `first` in the order of a string load, 31 being followed by 0
(R397, R398). -/
def inLoadRange (first reg : Reg) (count : Nat) : Bool := decide ((reg - first).toNat < count)

/-- The registers a string load of `bytes` bytes writes: one for each started word (R397). -/
def stringRegs (bytes : Nat) : Nat := (bytes + 3) / 4

/-- The byte count of `lswi` and `stswi`: an NB field of 0 means 32 (R397). -/
def stringCount (nb : BitVec 5) : Nat := if nb = 0 then 32 else nb.toNat

/-- No field has a value that R185 forbids. -/
def Instr.wellFormed : Instr → Bool
  | .cmp _ l _ _ => !l
  | .cmpi _ l _ _ => !l
  | .cmpl _ l _ _ => !l
  | .cmpli _ l _ _ => !l
  | .lbzu rD rA _ => rA != 0 && rA != rD
  | .lbzux rD rA _ => rA != 0 && rA != rD
  | .lhzu rD rA _ => rA != 0 && rA != rD
  | .lhzux rD rA _ => rA != 0 && rA != rD
  | .lhau rD rA _ => rA != 0 && rA != rD
  | .lhaux rD rA _ => rA != 0 && rA != rD
  | .lwzu rD rA _ => rA != 0 && rA != rD
  | .lwzux rD rA _ => rA != 0 && rA != rD
  | .stbu _ rA _ => rA != 0
  | .stbux _ rA _ => rA != 0
  | .sthu _ rA _ => rA != 0
  | .sthux _ rA _ => rA != 0
  | .stwu _ rA _ => rA != 0
  | .stwux _ rA _ => rA != 0
  | .lfsu _ rA _ => rA != 0
  | .lfsux _ rA _ => rA != 0
  | .lfdu _ rA _ => rA != 0
  | .lfdux _ rA _ => rA != 0
  | .stfsu _ rA _ => rA != 0
  | .stfsux _ rA _ => rA != 0
  | .stfdu _ rA _ => rA != 0
  | .stfdux _ rA _ => rA != 0
  | .psq_lu _ rA _ _ _ => rA != 0
  | .psq_lux _ rA _ _ _ => rA != 0
  | .psq_stu _ rA _ _ _ => rA != 0
  | .psq_stux _ rA _ _ _ => rA != 0
  | .lmw rD rA _ => decide (rA.toNat < rD.toNat)
  | .lswi rD rA nb => !inLoadRange rD rA (stringRegs (stringCount nb))
  | .lswx rD rA rB => rD != rA && rD != rB
  | .bc bo _ _ _ _ => boDefined bo
  | .bclr bo _ _ => boDefined bo
  | .bcctr bo _ _ => boDefined bo && bo.getLsbD 2
  | _ => true

end Sys2Proof
end

