-- ==== Sys2Proof/Decode.lean ====
section
/-! DEFINITION. The decoder and the encoder (30_encoding.md R150 to R187).

`decode` follows the lookups of R166 and rejects every word R182 and R183 call illegal; `classify` adds the checks of
R184 (reserved bits) and R185 (invalid forms). `encode` writes the word of an instruction, form by form as R152 to
R163 lay it out. -/

namespace Sys2Proof

/-! ### Fields by position (R151) -/

/-- OPCD, bits 31:26. -/
def opcd (w : Word) : Nat := (w.extractLsb' 26 6).toNat
/-- XO10, bits 10:1. -/
def xo10 (w : Word) : Nat := (w.extractLsb' 1 10).toNat
/-- XO9, bits 9:1. -/
def xo9 (w : Word) : Nat := (w.extractLsb' 1 9).toNat
/-- XO6, bits 6:1. -/
def xo6 (w : Word) : Nat := (w.extractLsb' 1 6).toNat
/-- XO5, bits 5:1. -/
def xo5 (w : Word) : Nat := (w.extractLsb' 1 5).toNat
/-- rD, rS, frD, frS, TO, BO, crbD: bits 25:21. -/
def fieldD (w : Word) : BitVec 5 := w.extractLsb' 21 5
/-- rA, frA, BI, crbA: bits 20:16. -/
def fieldA (w : Word) : BitVec 5 := w.extractLsb' 16 5
/-- rB, frB, SH, NB, crbB: bits 15:11. -/
def fieldB (w : Word) : BitVec 5 := w.extractLsb' 11 5
/-- frC, MB: bits 10:6. -/
def fieldC (w : Word) : BitVec 5 := w.extractLsb' 6 5
/-- ME: bits 5:1. -/
def fieldMe (w : Word) : BitVec 5 := w.extractLsb' 1 5
/-- crfD: bits 25:23. -/
def fieldCrfD (w : Word) : BitVec 3 := w.extractLsb' 23 3
/-- crfS: bits 20:18. -/
def fieldCrfS (w : Word) : BitVec 3 := w.extractLsb' 18 3
/-- SR: bits 19:16. -/
def fieldSr (w : Word) : BitVec 4 := w.extractLsb' 16 4
/-- CRM: bits 19:12. -/
def fieldCrm (w : Word) : BitVec 8 := w.extractLsb' 12 8
/-- FM: bits 24:17. -/
def fieldFm (w : Word) : BitVec 8 := w.extractLsb' 17 8
/-- IMM: bits 15:12. -/
def fieldImm (w : Word) : BitVec 4 := w.extractLsb' 12 4
/-- SIMM, UIMM, d: bits 15:0. -/
def field16 (w : Word) : BitVec 16 := w.extractLsb' 0 16
/-- LI: bits 25:2. -/
def fieldLi (w : Word) : BitVec 24 := w.extractLsb' 2 24
/-- BD: bits 15:2. -/
def fieldBd (w : Word) : BitVec 14 := w.extractLsb' 2 14
/-- spr, tbr: the number `W[15:11] ‖ W[20:16]` (R165 (j)). -/
def fieldSpr (w : Word) : BitVec 10 := w.extractLsb' 11 5 ++ w.extractLsb' 16 5
/-- I of the quantized D-form: bits 14:12. -/
def fieldI (w : Word) : BitVec 3 := w.extractLsb' 12 3
/-- Ix of the quantized X-form: bits 9:7. -/
def fieldIx (w : Word) : BitVec 3 := w.extractLsb' 7 3
/-- d12: bits 11:0. -/
def fieldD12 (w : Word) : BitVec 12 := w.extractLsb' 0 12
/-- W of the quantized D-form: bit 15. -/
def bitW (w : Word) : Bool := w.getLsbD 15
/-- Wx of the quantized X-form: bit 10. -/
def bitWx (w : Word) : Bool := w.getLsbD 10
/-- OE: bit 10. -/
def bitOe (w : Word) : Bool := w.getLsbD 10
/-- L: bit 21. -/
def bitL (w : Word) : Bool := w.getLsbD 21
/-- AA: bit 1. -/
def bit1 (w : Word) : Bool := w.getLsbD 1
/-- Rc, LK: bit 0. -/
def bit0 (w : Word) : Bool := w.getLsbD 0

/-! ### Decoding (R166) -/

/-- Primary opcode 4 (R175): XO5, then XO6, then XO10. -/
def decode4 (w : Word) : Option Instr :=
  match xo5 w with
  | 10 => some (.ps_sum0 (fieldD w) (fieldA w) (fieldB w) (fieldC w) (bit0 w))
  | 11 => some (.ps_sum1 (fieldD w) (fieldA w) (fieldB w) (fieldC w) (bit0 w))
  | 12 => some (.ps_muls0 (fieldD w) (fieldA w) (fieldC w) (bit0 w))
  | 13 => some (.ps_muls1 (fieldD w) (fieldA w) (fieldC w) (bit0 w))
  | 14 => some (.ps_madds0 (fieldD w) (fieldA w) (fieldB w) (fieldC w) (bit0 w))
  | 15 => some (.ps_madds1 (fieldD w) (fieldA w) (fieldB w) (fieldC w) (bit0 w))
  | 18 => some (.ps_div (fieldD w) (fieldA w) (fieldB w) (bit0 w))
  | 20 => some (.ps_sub (fieldD w) (fieldA w) (fieldB w) (bit0 w))
  | 21 => some (.ps_add (fieldD w) (fieldA w) (fieldB w) (bit0 w))
  | 23 => some (.ps_sel (fieldD w) (fieldA w) (fieldB w) (fieldC w) (bit0 w))
  | 24 => some (.ps_res (fieldD w) (fieldB w) (bit0 w))
  | 25 => some (.ps_mul (fieldD w) (fieldA w) (fieldC w) (bit0 w))
  | 26 => some (.ps_rsqrte (fieldD w) (fieldB w) (bit0 w))
  | 28 => some (.ps_msub (fieldD w) (fieldA w) (fieldB w) (fieldC w) (bit0 w))
  | 29 => some (.ps_madd (fieldD w) (fieldA w) (fieldB w) (fieldC w) (bit0 w))
  | 30 => some (.ps_nmsub (fieldD w) (fieldA w) (fieldB w) (fieldC w) (bit0 w))
  | 31 => some (.ps_nmadd (fieldD w) (fieldA w) (fieldB w) (fieldC w) (bit0 w))
  | _ =>
    match xo6 w with
    | 6 => some (.psq_lx (fieldD w) (fieldA w) (fieldB w) (bitWx w) (fieldIx w))
    | 7 => some (.psq_stx (fieldD w) (fieldA w) (fieldB w) (bitWx w) (fieldIx w))
    | 38 => some (.psq_lux (fieldD w) (fieldA w) (fieldB w) (bitWx w) (fieldIx w))
    | 39 => some (.psq_stux (fieldD w) (fieldA w) (fieldB w) (bitWx w) (fieldIx w))
    | _ =>
      match xo10 w with
      | 0 => some (.ps_cmpu0 (fieldCrfD w) (fieldA w) (fieldB w))
      | 32 => some (.ps_cmpo0 (fieldCrfD w) (fieldA w) (fieldB w))
      | 40 => some (.ps_neg (fieldD w) (fieldB w) (bit0 w))
      | 64 => some (.ps_cmpu1 (fieldCrfD w) (fieldA w) (fieldB w))
      | 72 => some (.ps_mr (fieldD w) (fieldB w) (bit0 w))
      | 96 => some (.ps_cmpo1 (fieldCrfD w) (fieldA w) (fieldB w))
      | 136 => some (.ps_nabs (fieldD w) (fieldB w) (bit0 w))
      | 264 => some (.ps_abs (fieldD w) (fieldB w) (bit0 w))
      | 528 => some (.ps_merge00 (fieldD w) (fieldA w) (fieldB w) (bit0 w))
      | 560 => some (.ps_merge01 (fieldD w) (fieldA w) (fieldB w) (bit0 w))
      | 592 => some (.ps_merge10 (fieldD w) (fieldA w) (fieldB w) (bit0 w))
      | 624 => some (.ps_merge11 (fieldD w) (fieldA w) (fieldB w) (bit0 w))
      | 1014 => some (.dcbz_l (fieldA w) (fieldB w))
      | _ => none

/-- Primary opcode 19 (R171). -/
def decode19 (w : Word) : Option Instr :=
  match xo10 w with
  | 0 => some (.mcrf (fieldCrfD w) (fieldCrfS w))
  | 16 => some (.bclr (fieldD w) (fieldA w) (bit0 w))
  | 33 => some (.crnor (fieldD w) (fieldA w) (fieldB w))
  | 50 => some .rfi
  | 129 => some (.crandc (fieldD w) (fieldA w) (fieldB w))
  | 150 => some .isync
  | 193 => some (.crxor (fieldD w) (fieldA w) (fieldB w))
  | 225 => some (.crnand (fieldD w) (fieldA w) (fieldB w))
  | 257 => some (.crand (fieldD w) (fieldA w) (fieldB w))
  | 289 => some (.creqv (fieldD w) (fieldA w) (fieldB w))
  | 417 => some (.crorc (fieldD w) (fieldA w) (fieldB w))
  | 449 => some (.cror (fieldD w) (fieldA w) (fieldB w))
  | 528 => some (.bcctr (fieldD w) (fieldA w) (bit0 w))
  | _ => none

/-- The XO9 part of primary opcode 31 (R172). -/
def decode31Xo (w : Word) : Option Instr :=
  match xo9 w with
  | 8 => some (.subfc (fieldD w) (fieldA w) (fieldB w) (bitOe w) (bit0 w))
  | 10 => some (.addc (fieldD w) (fieldA w) (fieldB w) (bitOe w) (bit0 w))
  | 11 => some (.mulhwu (fieldD w) (fieldA w) (fieldB w) (bit0 w))
  | 40 => some (.subf (fieldD w) (fieldA w) (fieldB w) (bitOe w) (bit0 w))
  | 75 => some (.mulhw (fieldD w) (fieldA w) (fieldB w) (bit0 w))
  | 104 => some (.neg (fieldD w) (fieldA w) (bitOe w) (bit0 w))
  | 136 => some (.subfe (fieldD w) (fieldA w) (fieldB w) (bitOe w) (bit0 w))
  | 138 => some (.adde (fieldD w) (fieldA w) (fieldB w) (bitOe w) (bit0 w))
  | 200 => some (.subfze (fieldD w) (fieldA w) (bitOe w) (bit0 w))
  | 202 => some (.addze (fieldD w) (fieldA w) (bitOe w) (bit0 w))
  | 232 => some (.subfme (fieldD w) (fieldA w) (bitOe w) (bit0 w))
  | 234 => some (.addme (fieldD w) (fieldA w) (bitOe w) (bit0 w))
  | 235 => some (.mullw (fieldD w) (fieldA w) (fieldB w) (bitOe w) (bit0 w))
  | 266 => some (.add (fieldD w) (fieldA w) (fieldB w) (bitOe w) (bit0 w))
  | 459 => some (.divwu (fieldD w) (fieldA w) (fieldB w) (bitOe w) (bit0 w))
  | 491 => some (.divw (fieldD w) (fieldA w) (fieldB w) (bitOe w) (bit0 w))
  | _ => none

/-- Primary opcode 31 (R172): XO10, then XO9. -/
def decode31 (w : Word) : Option Instr :=
  match xo10 w with
  | 0 => some (.cmp (fieldCrfD w) (bitL w) (fieldA w) (fieldB w))
  | 4 => some (.tw (fieldD w) (fieldA w) (fieldB w))
  | 19 => some (.mfcr (fieldD w))
  | 20 => some (.lwarx (fieldD w) (fieldA w) (fieldB w))
  | 23 => some (.lwzx (fieldD w) (fieldA w) (fieldB w))
  | 24 => some (.slw (fieldD w) (fieldA w) (fieldB w) (bit0 w))
  | 26 => some (.cntlzw (fieldD w) (fieldA w) (bit0 w))
  | 28 => some (.and (fieldD w) (fieldA w) (fieldB w) (bit0 w))
  | 32 => some (.cmpl (fieldCrfD w) (bitL w) (fieldA w) (fieldB w))
  | 54 => some (.dcbst (fieldA w) (fieldB w))
  | 55 => some (.lwzux (fieldD w) (fieldA w) (fieldB w))
  | 60 => some (.andc (fieldD w) (fieldA w) (fieldB w) (bit0 w))
  | 83 => some (.mfmsr (fieldD w))
  | 86 => some (.dcbf (fieldA w) (fieldB w))
  | 87 => some (.lbzx (fieldD w) (fieldA w) (fieldB w))
  | 119 => some (.lbzux (fieldD w) (fieldA w) (fieldB w))
  | 124 => some (.nor (fieldD w) (fieldA w) (fieldB w) (bit0 w))
  | 144 => some (.mtcrf (fieldD w) (fieldCrm w))
  | 146 => some (.mtmsr (fieldD w))
  | 150 => if bit0 w then some (.stwcx_rc (fieldD w) (fieldA w) (fieldB w)) else none
  | 151 => some (.stwx (fieldD w) (fieldA w) (fieldB w))
  | 183 => some (.stwux (fieldD w) (fieldA w) (fieldB w))
  | 210 => some (.mtsr (fieldD w) (fieldSr w))
  | 215 => some (.stbx (fieldD w) (fieldA w) (fieldB w))
  | 242 => some (.mtsrin (fieldD w) (fieldB w))
  | 246 => some (.dcbtst (fieldA w) (fieldB w))
  | 247 => some (.stbux (fieldD w) (fieldA w) (fieldB w))
  | 278 => some (.dcbt (fieldA w) (fieldB w))
  | 279 => some (.lhzx (fieldD w) (fieldA w) (fieldB w))
  | 284 => some (.eqv (fieldD w) (fieldA w) (fieldB w) (bit0 w))
  | 306 => some (.tlbie (fieldB w))
  | 310 => some (.eciwx (fieldD w) (fieldA w) (fieldB w))
  | 311 => some (.lhzux (fieldD w) (fieldA w) (fieldB w))
  | 316 => some (.xor (fieldD w) (fieldA w) (fieldB w) (bit0 w))
  | 339 => some (.mfspr (fieldD w) (fieldSpr w))
  | 343 => some (.lhax (fieldD w) (fieldA w) (fieldB w))
  | 370 => some .tlbia
  | 371 => some (.mftb (fieldD w) (fieldSpr w))
  | 375 => some (.lhaux (fieldD w) (fieldA w) (fieldB w))
  | 407 => some (.sthx (fieldD w) (fieldA w) (fieldB w))
  | 412 => some (.orc (fieldD w) (fieldA w) (fieldB w) (bit0 w))
  | 438 => some (.ecowx (fieldD w) (fieldA w) (fieldB w))
  | 439 => some (.sthux (fieldD w) (fieldA w) (fieldB w))
  | 444 => some (.or (fieldD w) (fieldA w) (fieldB w) (bit0 w))
  | 467 => some (.mtspr (fieldD w) (fieldSpr w))
  | 470 => some (.dcbi (fieldA w) (fieldB w))
  | 476 => some (.nand (fieldD w) (fieldA w) (fieldB w) (bit0 w))
  | 512 => some (.mcrxr (fieldCrfD w))
  | 533 => some (.lswx (fieldD w) (fieldA w) (fieldB w))
  | 534 => some (.lwbrx (fieldD w) (fieldA w) (fieldB w))
  | 535 => some (.lfsx (fieldD w) (fieldA w) (fieldB w))
  | 536 => some (.srw (fieldD w) (fieldA w) (fieldB w) (bit0 w))
  | 566 => some .tlbsync
  | 567 => some (.lfsux (fieldD w) (fieldA w) (fieldB w))
  | 595 => some (.mfsr (fieldD w) (fieldSr w))
  | 597 => some (.lswi (fieldD w) (fieldA w) (fieldB w))
  | 598 => some .sync
  | 599 => some (.lfdx (fieldD w) (fieldA w) (fieldB w))
  | 631 => some (.lfdux (fieldD w) (fieldA w) (fieldB w))
  | 659 => some (.mfsrin (fieldD w) (fieldB w))
  | 661 => some (.stswx (fieldD w) (fieldA w) (fieldB w))
  | 662 => some (.stwbrx (fieldD w) (fieldA w) (fieldB w))
  | 663 => some (.stfsx (fieldD w) (fieldA w) (fieldB w))
  | 695 => some (.stfsux (fieldD w) (fieldA w) (fieldB w))
  | 725 => some (.stswi (fieldD w) (fieldA w) (fieldB w))
  | 727 => some (.stfdx (fieldD w) (fieldA w) (fieldB w))
  | 759 => some (.stfdux (fieldD w) (fieldA w) (fieldB w))
  | 790 => some (.lhbrx (fieldD w) (fieldA w) (fieldB w))
  | 792 => some (.sraw (fieldD w) (fieldA w) (fieldB w) (bit0 w))
  | 824 => some (.srawi (fieldD w) (fieldA w) (fieldB w) (bit0 w))
  | 854 => some .eieio
  | 918 => some (.sthbrx (fieldD w) (fieldA w) (fieldB w))
  | 922 => some (.extsh (fieldD w) (fieldA w) (bit0 w))
  | 954 => some (.extsb (fieldD w) (fieldA w) (bit0 w))
  | 982 => some (.icbi (fieldA w) (fieldB w))
  | 983 => some (.stfiwx (fieldD w) (fieldA w) (fieldB w))
  | 1014 => some (.dcbz (fieldA w) (fieldB w))
  | _ => decode31Xo w

/-- Primary opcode 59 (R173). -/
def decode59 (w : Word) : Option Instr :=
  match xo5 w with
  | 18 => some (.fdivs (fieldD w) (fieldA w) (fieldB w) (bit0 w))
  | 20 => some (.fsubs (fieldD w) (fieldA w) (fieldB w) (bit0 w))
  | 21 => some (.fadds (fieldD w) (fieldA w) (fieldB w) (bit0 w))
  | 22 => some (.fsqrts (fieldD w) (fieldB w) (bit0 w))
  | 24 => some (.fres (fieldD w) (fieldB w) (bit0 w))
  | 25 => some (.fmuls (fieldD w) (fieldA w) (fieldC w) (bit0 w))
  | 28 => some (.fmsubs (fieldD w) (fieldA w) (fieldB w) (fieldC w) (bit0 w))
  | 29 => some (.fmadds (fieldD w) (fieldA w) (fieldB w) (fieldC w) (bit0 w))
  | 30 => some (.fnmsubs (fieldD w) (fieldA w) (fieldB w) (fieldC w) (bit0 w))
  | 31 => some (.fnmadds (fieldD w) (fieldA w) (fieldB w) (fieldC w) (bit0 w))
  | _ => none

/-- Primary opcode 63 (R174): XO5, then XO10. -/
def decode63 (w : Word) : Option Instr :=
  match xo5 w with
  | 18 => some (.fdiv (fieldD w) (fieldA w) (fieldB w) (bit0 w))
  | 20 => some (.fsub (fieldD w) (fieldA w) (fieldB w) (bit0 w))
  | 21 => some (.fadd (fieldD w) (fieldA w) (fieldB w) (bit0 w))
  | 22 => some (.fsqrt (fieldD w) (fieldB w) (bit0 w))
  | 23 => some (.fsel (fieldD w) (fieldA w) (fieldB w) (fieldC w) (bit0 w))
  | 25 => some (.fmul (fieldD w) (fieldA w) (fieldC w) (bit0 w))
  | 26 => some (.frsqrte (fieldD w) (fieldB w) (bit0 w))
  | 28 => some (.fmsub (fieldD w) (fieldA w) (fieldB w) (fieldC w) (bit0 w))
  | 29 => some (.fmadd (fieldD w) (fieldA w) (fieldB w) (fieldC w) (bit0 w))
  | 30 => some (.fnmsub (fieldD w) (fieldA w) (fieldB w) (fieldC w) (bit0 w))
  | 31 => some (.fnmadd (fieldD w) (fieldA w) (fieldB w) (fieldC w) (bit0 w))
  | _ =>
    match xo10 w with
    | 0 => some (.fcmpu (fieldCrfD w) (fieldA w) (fieldB w))
    | 12 => some (.frsp (fieldD w) (fieldB w) (bit0 w))
    | 14 => some (.fctiw (fieldD w) (fieldB w) (bit0 w))
    | 15 => some (.fctiwz (fieldD w) (fieldB w) (bit0 w))
    | 32 => some (.fcmpo (fieldCrfD w) (fieldA w) (fieldB w))
    | 38 => some (.mtfsb1 (fieldD w) (bit0 w))
    | 40 => some (.fneg (fieldD w) (fieldB w) (bit0 w))
    | 64 => some (.mcrfs (fieldCrfD w) (fieldCrfS w))
    | 70 => some (.mtfsb0 (fieldD w) (bit0 w))
    | 72 => some (.fmr (fieldD w) (fieldB w) (bit0 w))
    | 134 => some (.mtfsfi (fieldCrfD w) (fieldImm w) (bit0 w))
    | 136 => some (.fnabs (fieldD w) (fieldB w) (bit0 w))
    | 264 => some (.fabs (fieldD w) (fieldB w) (bit0 w))
    | 583 => some (.mffs (fieldD w) (bit0 w))
    | 711 => some (.mtfsf (fieldFm w) (fieldB w) (bit0 w))
    | _ => none

/-- The instruction a word is a form of, or `none` for the illegal words of R182 and R183. Reserved bits and field
values are not judged here: see `classify`. -/
def decode (w : Word) : Option Instr :=
  match opcd w with
  | 3 => some (.twi (fieldD w) (fieldA w) (field16 w))
  | 4 => decode4 w
  | 7 => some (.mulli (fieldD w) (fieldA w) (field16 w))
  | 8 => some (.subfic (fieldD w) (fieldA w) (field16 w))
  | 10 => some (.cmpli (fieldCrfD w) (bitL w) (fieldA w) (field16 w))
  | 11 => some (.cmpi (fieldCrfD w) (bitL w) (fieldA w) (field16 w))
  | 12 => some (.addic (fieldD w) (fieldA w) (field16 w))
  | 13 => some (.addic_rc (fieldD w) (fieldA w) (field16 w))
  | 14 => some (.addi (fieldD w) (fieldA w) (field16 w))
  | 15 => some (.addis (fieldD w) (fieldA w) (field16 w))
  | 16 => some (.bc (fieldD w) (fieldA w) (fieldBd w) (bit1 w) (bit0 w))
  | 17 => if bit1 w then some .sc else none
  | 18 => some (.b (fieldLi w) (bit1 w) (bit0 w))
  | 19 => decode19 w
  | 20 => some (.rlwimi (fieldD w) (fieldA w) (fieldB w) (fieldC w) (fieldMe w) (bit0 w))
  | 21 => some (.rlwinm (fieldD w) (fieldA w) (fieldB w) (fieldC w) (fieldMe w) (bit0 w))
  | 23 => some (.rlwnm (fieldD w) (fieldA w) (fieldB w) (fieldC w) (fieldMe w) (bit0 w))
  | 24 => some (.ori (fieldD w) (fieldA w) (field16 w))
  | 25 => some (.oris (fieldD w) (fieldA w) (field16 w))
  | 26 => some (.xori (fieldD w) (fieldA w) (field16 w))
  | 27 => some (.xoris (fieldD w) (fieldA w) (field16 w))
  | 28 => some (.andi_rc (fieldD w) (fieldA w) (field16 w))
  | 29 => some (.andis_rc (fieldD w) (fieldA w) (field16 w))
  | 31 => decode31 w
  | 32 => some (.lwz (fieldD w) (fieldA w) (field16 w))
  | 33 => some (.lwzu (fieldD w) (fieldA w) (field16 w))
  | 34 => some (.lbz (fieldD w) (fieldA w) (field16 w))
  | 35 => some (.lbzu (fieldD w) (fieldA w) (field16 w))
  | 36 => some (.stw (fieldD w) (fieldA w) (field16 w))
  | 37 => some (.stwu (fieldD w) (fieldA w) (field16 w))
  | 38 => some (.stb (fieldD w) (fieldA w) (field16 w))
  | 39 => some (.stbu (fieldD w) (fieldA w) (field16 w))
  | 40 => some (.lhz (fieldD w) (fieldA w) (field16 w))
  | 41 => some (.lhzu (fieldD w) (fieldA w) (field16 w))
  | 42 => some (.lha (fieldD w) (fieldA w) (field16 w))
  | 43 => some (.lhau (fieldD w) (fieldA w) (field16 w))
  | 44 => some (.sth (fieldD w) (fieldA w) (field16 w))
  | 45 => some (.sthu (fieldD w) (fieldA w) (field16 w))
  | 46 => some (.lmw (fieldD w) (fieldA w) (field16 w))
  | 47 => some (.stmw (fieldD w) (fieldA w) (field16 w))
  | 48 => some (.lfs (fieldD w) (fieldA w) (field16 w))
  | 49 => some (.lfsu (fieldD w) (fieldA w) (field16 w))
  | 50 => some (.lfd (fieldD w) (fieldA w) (field16 w))
  | 51 => some (.lfdu (fieldD w) (fieldA w) (field16 w))
  | 52 => some (.stfs (fieldD w) (fieldA w) (field16 w))
  | 53 => some (.stfsu (fieldD w) (fieldA w) (field16 w))
  | 54 => some (.stfd (fieldD w) (fieldA w) (field16 w))
  | 55 => some (.stfdu (fieldD w) (fieldA w) (field16 w))
  | 56 => some (.psq_l (fieldD w) (fieldA w) (bitW w) (fieldI w) (fieldD12 w))
  | 57 => some (.psq_lu (fieldD w) (fieldA w) (bitW w) (fieldI w) (fieldD12 w))
  | 59 => decode59 w
  | 60 => some (.psq_st (fieldD w) (fieldA w) (bitW w) (fieldI w) (fieldD12 w))
  | 61 => some (.psq_stu (fieldD w) (fieldA w) (bitW w) (fieldI w) (fieldD12 w))
  | 63 => decode63 w
  | _ => none

/-! ### Encoding (R152 to R163) -/

/-- The two 5-bit halves of a special register number change places in the word (R165 (j)). -/
def swapHalves (n : BitVec 10) : BitVec 10 := n.extractLsb' 0 5 ++ n.extractLsb' 5 5

/-- A field's contribution to a word: its value at the bit position `lo` of its least significant bit. -/
def put {n : Nat} (lo : Nat) (v : BitVec n) : Word := v.setWidth 32 <<< lo

/-- A one-bit field's contribution to a word. -/
def putBit (lo : Nat) (b : Bool) : Word := put lo (BitVec.ofBool b)

/-- I-form (R152). -/
def iForm (op : BitVec 6) (li : BitVec 24) (aa lk : Bool) : Word :=
  put 26 op ||| put 2 li ||| putBit 1 aa ||| putBit 0 lk
/-- B-form (R153). -/
def bForm (op : BitVec 6) (bo bi : BitVec 5) (bd : BitVec 14) (aa lk : Bool) : Word :=
  put 26 op ||| put 21 bo ||| put 16 bi ||| put 2 bd ||| putBit 1 aa ||| putBit 0 lk
/-- SC-form (R154). -/
def scForm : Word := 0x44000002
/-- D-form (R155). -/
def dForm (op : BitVec 6) (d a : BitVec 5) (imm : BitVec 16) : Word :=
  put 26 op ||| put 21 d ||| put 16 a ||| put 0 imm
/-- X-form and XL-form (R156, R157). -/
def xForm (op : BitVec 6) (d a b : BitVec 5) (xo : BitVec 10) (rc : Bool) : Word :=
  put 26 op ||| put 21 d ||| put 16 a ||| put 11 b ||| put 1 xo ||| putBit 0 rc
/-- XFX-form (R158); `mid` is bits 20:11. -/
def xfxForm (op : BitVec 6) (d : BitVec 5) (mid : BitVec 10) (xo : BitVec 10) : Word :=
  put 26 op ||| put 21 d ||| put 11 mid ||| put 1 xo
/-- XFL-form (R159). -/
def xflForm (op : BitVec 6) (fm : BitVec 8) (b : BitVec 5) (xo : BitVec 10) (rc : Bool) : Word :=
  put 26 op ||| put 17 fm ||| put 11 b ||| put 1 xo ||| putBit 0 rc
/-- XO-form (R160). -/
def xoForm (op : BitVec 6) (d a b : BitVec 5) (oe : Bool) (xo : BitVec 9) (rc : Bool) : Word :=
  put 26 op ||| put 21 d ||| put 16 a ||| put 11 b ||| putBit 10 oe ||| put 1 xo ||| putBit 0 rc
/-- A-form (R161). -/
def aForm (op : BitVec 6) (d a b c : BitVec 5) (xo : BitVec 5) (rc : Bool) : Word :=
  put 26 op ||| put 21 d ||| put 16 a ||| put 11 b ||| put 6 c ||| put 1 xo ||| putBit 0 rc
/-- M-form (R162). -/
def mForm (op : BitVec 6) (s a b mb me : BitVec 5) (rc : Bool) : Word :=
  put 26 op ||| put 21 s ||| put 16 a ||| put 11 b ||| put 6 mb ||| put 1 me ||| putBit 0 rc
/-- DQ-form (R163). -/
def dqForm (op : BitVec 6) (d a : BitVec 5) (single : Bool) (i : BitVec 3) (d12 : BitVec 12) : Word :=
  put 26 op ||| put 21 d ||| put 16 a ||| putBit 15 single ||| put 12 i ||| put 0 d12
/-- XQ-form (R163). -/
def xqForm (op : BitVec 6) (d a b : BitVec 5) (single : Bool) (i : BitVec 3) (xo : BitVec 6) : Word :=
  put 26 op ||| put 21 d ||| put 16 a ||| put 11 b ||| putBit 10 single ||| put 7 i ||| put 1 xo

/-- The word of an instruction. Every reserved bit is 0 (R184). -/
def encode (i : Instr) : Word :=
  match i with
  | .add rD rA rB oe rc => xoForm 31 rD rA rB oe 266 rc
  | .addc rD rA rB oe rc => xoForm 31 rD rA rB oe 10 rc
  | .adde rD rA rB oe rc => xoForm 31 rD rA rB oe 138 rc
  | .addi rD rA simm => dForm 14 rD rA simm
  | .addic rD rA simm => dForm 12 rD rA simm
  | .addic_rc rD rA simm => dForm 13 rD rA simm
  | .addis rD rA simm => dForm 15 rD rA simm
  | .addme rD rA oe rc => xoForm 31 rD rA 0 oe 234 rc
  | .addze rD rA oe rc => xoForm 31 rD rA 0 oe 202 rc
  | .subf rD rA rB oe rc => xoForm 31 rD rA rB oe 40 rc
  | .subfc rD rA rB oe rc => xoForm 31 rD rA rB oe 8 rc
  | .subfe rD rA rB oe rc => xoForm 31 rD rA rB oe 136 rc
  | .subfic rD rA simm => dForm 8 rD rA simm
  | .subfme rD rA oe rc => xoForm 31 rD rA 0 oe 232 rc
  | .subfze rD rA oe rc => xoForm 31 rD rA 0 oe 200 rc
  | .neg rD rA oe rc => xoForm 31 rD rA 0 oe 104 rc
  | .mulhw rD rA rB rc => xoForm 31 rD rA rB false 75 rc
  | .mulhwu rD rA rB rc => xoForm 31 rD rA rB false 11 rc
  | .mullw rD rA rB oe rc => xoForm 31 rD rA rB oe 235 rc
  | .mulli rD rA simm => dForm 7 rD rA simm
  | .divw rD rA rB oe rc => xoForm 31 rD rA rB oe 491 rc
  | .divwu rD rA rB oe rc => xoForm 31 rD rA rB oe 459 rc
  | .and rS rA rB rc => xForm 31 rS rA rB 28 rc
  | .andc rS rA rB rc => xForm 31 rS rA rB 60 rc
  | .andi_rc rS rA uimm => dForm 28 rS rA uimm
  | .andis_rc rS rA uimm => dForm 29 rS rA uimm
  | .or rS rA rB rc => xForm 31 rS rA rB 444 rc
  | .orc rS rA rB rc => xForm 31 rS rA rB 412 rc
  | .ori rS rA uimm => dForm 24 rS rA uimm
  | .oris rS rA uimm => dForm 25 rS rA uimm
  | .xor rS rA rB rc => xForm 31 rS rA rB 316 rc
  | .xori rS rA uimm => dForm 26 rS rA uimm
  | .xoris rS rA uimm => dForm 27 rS rA uimm
  | .nand rS rA rB rc => xForm 31 rS rA rB 476 rc
  | .nor rS rA rB rc => xForm 31 rS rA rB 124 rc
  | .eqv rS rA rB rc => xForm 31 rS rA rB 284 rc
  | .slw rS rA rB rc => xForm 31 rS rA rB 24 rc
  | .srw rS rA rB rc => xForm 31 rS rA rB 536 rc
  | .sraw rS rA rB rc => xForm 31 rS rA rB 792 rc
  | .srawi rS rA sh rc => xForm 31 rS rA sh 824 rc
  | .rlwimi rS rA sh mb me rc => mForm 20 rS rA sh mb me rc
  | .rlwinm rS rA sh mb me rc => mForm 21 rS rA sh mb me rc
  | .rlwnm rS rA rB mb me rc => mForm 23 rS rA rB mb me rc
  | .cmp crfD l rA rB => xForm 31 (crfD ++ 0#1 ++ BitVec.ofBool l) rA rB 0 false
  | .cmpi crfD l rA simm => dForm 11 (crfD ++ 0#1 ++ BitVec.ofBool l) rA simm
  | .cmpl crfD l rA rB => xForm 31 (crfD ++ 0#1 ++ BitVec.ofBool l) rA rB 32 false
  | .cmpli crfD l rA uimm => dForm 10 (crfD ++ 0#1 ++ BitVec.ofBool l) rA uimm
  | .b li aa lk => iForm 18 li aa lk
  | .bc bo bi bd aa lk => bForm 16 bo bi bd aa lk
  | .bclr bo bi lk => xForm 19 bo bi 0 16 lk
  | .bcctr bo bi lk => xForm 19 bo bi 0 528 lk
  | .lbz rD rA d => dForm 34 rD rA d
  | .lbzu rD rA d => dForm 35 rD rA d
  | .lbzx rD rA rB => xForm 31 rD rA rB 87 false
  | .lbzux rD rA rB => xForm 31 rD rA rB 119 false
  | .stb rS rA d => dForm 38 rS rA d
  | .stbu rS rA d => dForm 39 rS rA d
  | .stbx rS rA rB => xForm 31 rS rA rB 215 false
  | .stbux rS rA rB => xForm 31 rS rA rB 247 false
  | .lhz rD rA d => dForm 40 rD rA d
  | .lhzu rD rA d => dForm 41 rD rA d
  | .lhzx rD rA rB => xForm 31 rD rA rB 279 false
  | .lhzux rD rA rB => xForm 31 rD rA rB 311 false
  | .lha rD rA d => dForm 42 rD rA d
  | .lhau rD rA d => dForm 43 rD rA d
  | .lhax rD rA rB => xForm 31 rD rA rB 343 false
  | .lhaux rD rA rB => xForm 31 rD rA rB 375 false
  | .sth rS rA d => dForm 44 rS rA d
  | .sthu rS rA d => dForm 45 rS rA d
  | .sthx rS rA rB => xForm 31 rS rA rB 407 false
  | .sthux rS rA rB => xForm 31 rS rA rB 439 false
  | .lhbrx rD rA rB => xForm 31 rD rA rB 790 false
  | .sthbrx rS rA rB => xForm 31 rS rA rB 918 false
  | .lwz rD rA d => dForm 32 rD rA d
  | .lwzu rD rA d => dForm 33 rD rA d
  | .lwzx rD rA rB => xForm 31 rD rA rB 23 false
  | .lwzux rD rA rB => xForm 31 rD rA rB 55 false
  | .stw rS rA d => dForm 36 rS rA d
  | .stwu rS rA d => dForm 37 rS rA d
  | .stwx rS rA rB => xForm 31 rS rA rB 151 false
  | .stwux rS rA rB => xForm 31 rS rA rB 183 false
  | .lwbrx rD rA rB => xForm 31 rD rA rB 534 false
  | .stwbrx rS rA rB => xForm 31 rS rA rB 662 false
  | .lmw rD rA d => dForm 46 rD rA d
  | .stmw rS rA d => dForm 47 rS rA d
  | .lswi rD rA nb => xForm 31 rD rA nb 597 false
  | .lswx rD rA rB => xForm 31 rD rA rB 533 false
  | .stswi rS rA nb => xForm 31 rS rA nb 725 false
  | .stswx rS rA rB => xForm 31 rS rA rB 661 false
  | .fadd frD frA frB rc => aForm 63 frD frA frB 0 21 rc
  | .fadds frD frA frB rc => aForm 59 frD frA frB 0 21 rc
  | .fsub frD frA frB rc => aForm 63 frD frA frB 0 20 rc
  | .fsubs frD frA frB rc => aForm 59 frD frA frB 0 20 rc
  | .fmul frD frA frC rc => aForm 63 frD frA 0 frC 25 rc
  | .fmuls frD frA frC rc => aForm 59 frD frA 0 frC 25 rc
  | .fdiv frD frA frB rc => aForm 63 frD frA frB 0 18 rc
  | .fdivs frD frA frB rc => aForm 59 frD frA frB 0 18 rc
  | .fmadd frD frA frB frC rc => aForm 63 frD frA frB frC 29 rc
  | .fmadds frD frA frB frC rc => aForm 59 frD frA frB frC 29 rc
  | .fmsub frD frA frB frC rc => aForm 63 frD frA frB frC 28 rc
  | .fmsubs frD frA frB frC rc => aForm 59 frD frA frB frC 28 rc
  | .fnmadd frD frA frB frC rc => aForm 63 frD frA frB frC 31 rc
  | .fnmadds frD frA frB frC rc => aForm 59 frD frA frB frC 31 rc
  | .fnmsub frD frA frB frC rc => aForm 63 frD frA frB frC 30 rc
  | .fnmsubs frD frA frB frC rc => aForm 59 frD frA frB frC 30 rc
  | .fabs frD frB rc => xForm 63 frD 0 frB 264 rc
  | .fnabs frD frB rc => xForm 63 frD 0 frB 136 rc
  | .fneg frD frB rc => xForm 63 frD 0 frB 40 rc
  | .fres frD frB rc => aForm 59 frD 0 frB 0 24 rc
  | .frsqrte frD frB rc => aForm 63 frD 0 frB 0 26 rc
  | .fsel frD frA frB frC rc => aForm 63 frD frA frB frC 23 rc
  | .fsqrt frD frB rc => aForm 63 frD 0 frB 0 22 rc
  | .fsqrts frD frB rc => aForm 59 frD 0 frB 0 22 rc
  | .frsp frD frB rc => xForm 63 frD 0 frB 12 rc
  | .fctiw frD frB rc => xForm 63 frD 0 frB 14 rc
  | .fctiwz frD frB rc => xForm 63 frD 0 frB 15 rc
  | .fcmpo crfD frA frB => xForm 63 (crfD ++ 0#2) frA frB 32 false
  | .fcmpu crfD frA frB => xForm 63 (crfD ++ 0#2) frA frB 0 false
  | .fmr frD frB rc => xForm 63 frD 0 frB 72 rc
  | .lfd frD rA d => dForm 50 frD rA d
  | .lfdu frD rA d => dForm 51 frD rA d
  | .lfdx frD rA rB => xForm 31 frD rA rB 599 false
  | .lfdux frD rA rB => xForm 31 frD rA rB 631 false
  | .lfs frD rA d => dForm 48 frD rA d
  | .lfsu frD rA d => dForm 49 frD rA d
  | .lfsx frD rA rB => xForm 31 frD rA rB 535 false
  | .lfsux frD rA rB => xForm 31 frD rA rB 567 false
  | .stfd frS rA d => dForm 54 frS rA d
  | .stfdu frS rA d => dForm 55 frS rA d
  | .stfdx frS rA rB => xForm 31 frS rA rB 727 false
  | .stfdux frS rA rB => xForm 31 frS rA rB 759 false
  | .stfs frS rA d => dForm 52 frS rA d
  | .stfsu frS rA d => dForm 53 frS rA d
  | .stfsx frS rA rB => xForm 31 frS rA rB 663 false
  | .stfsux frS rA rB => xForm 31 frS rA rB 695 false
  | .stfiwx frS rA rB => xForm 31 frS rA rB 983 false
  | .dcbf rA rB => xForm 31 0 rA rB 86 false
  | .dcbi rA rB => xForm 31 0 rA rB 470 false
  | .dcbst rA rB => xForm 31 0 rA rB 54 false
  | .dcbt rA rB => xForm 31 0 rA rB 278 false
  | .dcbtst rA rB => xForm 31 0 rA rB 246 false
  | .dcbz rA rB => xForm 31 0 rA rB 1014 false
  | .icbi rA rB => xForm 31 0 rA rB 982 false
  | .mtspr rS spr => xfxForm 31 rS (swapHalves spr) 467
  | .mfspr rD spr => xfxForm 31 rD (swapHalves spr) 339
  | .mtcrf rS crm => xfxForm 31 rS (0#1 ++ crm ++ 0#1) 144
  | .mftb rD tbr => xfxForm 31 rD (swapHalves tbr) 371
  | .mfcr rD => xForm 31 rD 0 0 19 false
  | .mtmsr rS => xForm 31 rS 0 0 146 false
  | .mfmsr rD => xForm 31 rD 0 0 83 false
  | .mcrfs crfD crfS => xForm 63 (crfD ++ 0#2) (crfS ++ 0#2) 0 64 false
  | .mffs frD rc => xForm 63 frD 0 0 583 rc
  | .mtfsb0 crbD rc => xForm 63 crbD 0 0 70 rc
  | .mtfsb1 crbD rc => xForm 63 crbD 0 0 38 rc
  | .mtfsf fm frB rc => xflForm 63 fm frB 711 rc
  | .mtfsfi crfD imm rc => xForm 63 (crfD ++ 0#2) 0 (imm ++ 0#1) 134 rc
  | .crand crbD crbA crbB => xForm 19 crbD crbA crbB 257 false
  | .crandc crbD crbA crbB => xForm 19 crbD crbA crbB 129 false
  | .creqv crbD crbA crbB => xForm 19 crbD crbA crbB 289 false
  | .crnand crbD crbA crbB => xForm 19 crbD crbA crbB 225 false
  | .crnor crbD crbA crbB => xForm 19 crbD crbA crbB 33 false
  | .cror crbD crbA crbB => xForm 19 crbD crbA crbB 449 false
  | .crorc crbD crbA crbB => xForm 19 crbD crbA crbB 417 false
  | .crxor crbD crbA crbB => xForm 19 crbD crbA crbB 193 false
  | .mcrf crfD crfS => xForm 19 (crfD ++ 0#2) (crfS ++ 0#2) 0 0 false
  | .sync => xForm 31 0 0 0 598 false
  | .isync => xForm 19 0 0 0 150 false
  | .eieio => xForm 31 0 0 0 854 false
  | .tlbie rB => xForm 31 0 0 rB 306 false
  | .tlbia => xForm 31 0 0 0 370 false
  | .tlbsync => xForm 31 0 0 0 566 false
  | .mtsr rS sr => xForm 31 rS (0#1 ++ sr) 0 210 false
  | .mfsr rD sr => xForm 31 rD (0#1 ++ sr) 0 595 false
  | .mtsrin rS rB => xForm 31 rS 0 rB 242 false
  | .mfsrin rD rB => xForm 31 rD 0 rB 659 false
  | .sc => scForm
  | .rfi => xForm 19 0 0 0 50 false
  | .tw cond rA rB => xForm 31 cond rA rB 4 false
  | .twi cond rA simm => dForm 3 cond rA simm
  | .psq_l frD rA single gqr d12 => dqForm 56 frD rA single gqr d12
  | .psq_lu frD rA single gqr d12 => dqForm 57 frD rA single gqr d12
  | .psq_lx frD rA rB single gqr => xqForm 4 frD rA rB single gqr 6
  | .psq_lux frD rA rB single gqr => xqForm 4 frD rA rB single gqr 38
  | .psq_st frS rA single gqr d12 => dqForm 60 frS rA single gqr d12
  | .psq_stu frS rA single gqr d12 => dqForm 61 frS rA single gqr d12
  | .psq_stx frS rA rB single gqr => xqForm 4 frS rA rB single gqr 7
  | .psq_stux frS rA rB single gqr => xqForm 4 frS rA rB single gqr 39
  | .ps_add frD frA frB rc => aForm 4 frD frA frB 0 21 rc
  | .ps_sub frD frA frB rc => aForm 4 frD frA frB 0 20 rc
  | .ps_mul frD frA frC rc => aForm 4 frD frA 0 frC 25 rc
  | .ps_div frD frA frB rc => aForm 4 frD frA frB 0 18 rc
  | .ps_abs frD frB rc => xForm 4 frD 0 frB 264 rc
  | .ps_neg frD frB rc => xForm 4 frD 0 frB 40 rc
  | .ps_nabs frD frB rc => xForm 4 frD 0 frB 136 rc
  | .ps_madd frD frA frB frC rc => aForm 4 frD frA frB frC 29 rc
  | .ps_madds0 frD frA frB frC rc => aForm 4 frD frA frB frC 14 rc
  | .ps_madds1 frD frA frB frC rc => aForm 4 frD frA frB frC 15 rc
  | .ps_msub frD frA frB frC rc => aForm 4 frD frA frB frC 28 rc
  | .ps_nmadd frD frA frB frC rc => aForm 4 frD frA frB frC 31 rc
  | .ps_nmsub frD frA frB frC rc => aForm 4 frD frA frB frC 30 rc
  | .ps_mr frD frB rc => xForm 4 frD 0 frB 72 rc
  | .ps_res frD frB rc => aForm 4 frD 0 frB 0 24 rc
  | .ps_rsqrte frD frB rc => aForm 4 frD 0 frB 0 26 rc
  | .ps_sel frD frA frB frC rc => aForm 4 frD frA frB frC 23 rc
  | .ps_sum0 frD frA frB frC rc => aForm 4 frD frA frB frC 10 rc
  | .ps_sum1 frD frA frB frC rc => aForm 4 frD frA frB frC 11 rc
  | .ps_muls0 frD frA frC rc => aForm 4 frD frA 0 frC 12 rc
  | .ps_muls1 frD frA frC rc => aForm 4 frD frA 0 frC 13 rc
  | .ps_merge00 frD frA frB rc => xForm 4 frD frA frB 528 rc
  | .ps_merge01 frD frA frB rc => xForm 4 frD frA frB 560 rc
  | .ps_merge10 frD frA frB rc => xForm 4 frD frA frB 592 rc
  | .ps_merge11 frD frA frB rc => xForm 4 frD frA frB 624 rc
  | .ps_cmpu0 crfD frA frB => xForm 4 (crfD ++ 0#2) frA frB 0 false
  | .ps_cmpo0 crfD frA frB => xForm 4 (crfD ++ 0#2) frA frB 32 false
  | .ps_cmpu1 crfD frA frB => xForm 4 (crfD ++ 0#2) frA frB 64 false
  | .ps_cmpo1 crfD frA frB => xForm 4 (crfD ++ 0#2) frA frB 96 false
  | .extsb rS rA rc => xForm 31 rS rA 0 954 rc
  | .extsh rS rA rc => xForm 31 rS rA 0 922 rc
  | .lwarx rD rA rB => xForm 31 rD rA rB 20 false
  | .stwcx_rc rS rA rB => xForm 31 rS rA rB 150 true
  | .cntlzw rS rA rc => xForm 31 rS rA 0 26 rc
  | .eciwx rD rA rB => xForm 31 rD rA rB 310 false
  | .ecowx rS rA rB => xForm 31 rS rA rB 438 false
  | .mcrxr crfD => xForm 31 (crfD ++ 0#2) 0 0 512 false
  | .dcbz_l rA rB => xForm 4 0 rA rB 1014 false

/-! ### Acceptance -/

/-- What a word is. -/
inductive Decoded where
  /-- An instruction, with every reserved bit 0 and no forbidden field value. -/
  | instr (i : Instr)
  /-- No instruction has this word (R182, R183). -/
  | illegal
  /-- A row of the table matches but a reserved bit is set (R184). -/
  | reservedBits
  /-- The word is an invalid form (R185). -/
  | invalidForm
deriving DecidableEq, Repr

/-- Decoding with the checks of R184 and R185, in that order after the lookup (R166). A word has a reserved bit set
exactly when encoding its fields again does not give it back. -/
def classify (w : Word) : Decoded :=
  match decode w with
  | none => .illegal
  | some i => if encode i ≠ w then .reservedBits else if i.wellFormed then .instr i else .invalidForm

/-- An instruction's word from the four bytes at its address, the first the most significant (R102, R150). -/
def wordOfBytes (b0 b1 b2 b3 : Byte) : Word := b0 ++ b1 ++ b2 ++ b3

/-- Decoding from the four bytes as they lie in memory. -/
def decodeBytes (b0 b1 b2 b3 : Byte) : Option Instr := decode (wordOfBytes b0 b1 b2 b3)

/-- The bytes of a word in the order memory holds them: the most significant first (R102). -/
def bytesOfWord (w : Word) : Byte × Byte × Byte × Byte :=
  (w.extractLsb' 24 8, w.extractLsb' 16 8, w.extractLsb' 8 8, w.extractLsb' 0 8)

/-- The instruction the decoder reads from an opcode-table word given as a number of `nbits` bits: the bits above are
0, and the word is laid out in memory order and decoded from its bytes. -/
def decodeTableWord (nbits w : Nat) : Option Instr :=
  let (b0, b1, b2, b3) := bytesOfWord (BitVec.ofNat 32 (w % 2 ^ nbits))
  decodeBytes b0 b1 b2 b3

end Sys2Proof
end

