-- ==== Sys2Proof/Config.lean ====
section
/-! DEFINITION. What an implementation fixes and what the spec leaves open (00_scope.md R7).

`Params` holds the parameters a reader can name; it is part of the state, so that a statement about every state holds
for every choice. The opaque constants are the free values: no proof can learn anything about them. -/

namespace Sys2Proof

/-- The two parts the spec covers (R3, R60, R61). -/
inductive Part where
  | gekko
  | broadway
deriving DecidableEq, Repr

/-- What `MemMap` says of a physical address (R109). -/
inductive RegionKind where
  | ram
  | rom
  | device
  | absent
deriving DecidableEq, Repr

/-- One region of the physical address map: `size` bytes from `base`. -/
structure Region where
  base : Nat
  size : Nat
  kind : RegionKind
deriving DecidableEq, Repr

/-- How a quantized store makes an integer of the scaled value (`QuantRound`, R665). -/
inductive QuantRound where
  | towardZero
  | nearestEven
  | nearestAway
  | down
  | up
deriving DecidableEq, Repr

/-- The open parameters of R7. An address in no region of `memMap` is RAM. -/
structure Params where
  part       : Part
  hasFsqrt   : Bool
  hasTlbia   : Bool
  supplement : Bool
  quantRound : QuantRound
  memMap     : List Region
deriving DecidableEq, Repr

/-- The parameters the model starts from: what R7, D9, D10, D11 and D30 recommend, and an address space that is all
RAM. DESIGN CHOICE (assumptions 2 and 3). -/
def Params.initial : Params where
  part := .gekko
  hasFsqrt := false
  hasTlbia := false
  supplement := true
  quantRound := .towardZero
  memMap := []

/-- The kind of memory at a physical address: that of the first region that holds it. -/
def Params.kindAt (p : Params) (pa : Nat) : RegionKind :=
  match p.memMap.find? (fun r => decide (r.base ≤ pa) && decide (pa < r.base + r.size)) with
  | some r => r.kind
  | none => .ram

/-- The value of PVR (R61, R7). -/
def Params.pvr (p : Params) : Word :=
  match p.part with
  | .gekko => 0x00083214
  | .broadway => 0x00087102

/-- The registers a write of which need not act before the synchronization of R862: the translation and protection
context (R861), the cache enables, the paired-single enables, the breakpoints and EAR. The cache enables have two names,
because ICE waits for `isync` and DCE for `sync`. -/
inductive ContextReg where
  | msr
  | sr (i : Fin 16)
  | ibatU (i : Fin 8)
  | ibatL (i : Fin 8)
  | dbatU (i : Fin 8)
  | dbatL (i : Fin 8)
  | sdr1
  | ice
  | dce
  | hid2
  | hid4
  | iabr
  | dabr
  | ear
deriving DecidableEq, Repr

/-- The free values, one for each draw: `State.draws` counts them. -/
opaque Config.freeBits : Nat → BitVec 64

/-- By how much the time base has advanced after each step (`TbTick`, R55, R870). -/
opaque Config.tbTicks : Nat → Nat

/-- Which value of a register acts in a step before the synchronization of R862 (U17, U29): the index of an older value,
or past the last of them the new one. The arguments are the step's number and whether a fetch asks. -/
opaque Config.lateChoice : Nat → Bool → ContextReg → Nat

/-- How many changes of the page table a translation does not see yet (R66, R861 (c)), given the step's number, whether a
fetch asks, and the effective address. -/
opaque Config.tableChoice : Nat → Bool → Word → Nat

/-- Which version of a byte a load gets through a mapping with other attributes than the stores' (R860 (f)), given the
step's number and the physical address. -/
opaque Config.versionChoice : Nat → Nat → Nat

/-- Whether what the processor does in a step depends on a bit of HID4 other than SBE (R60, U28), given the step's number
and what HID4 holds. -/
opaque Config.hid4Matters : Nat → BitVec 32 → Bool

/-- What a device answers to a read of a byte (R108, D6), given how many device accesses came before and the physical
address. -/
opaque Config.deviceByte : Nat → Nat → Byte

/-- `FresEst` of R440, in single format: the sign is forced by the caller. -/
opaque Config.fresEst : BitVec 64 → BitVec 32

/-- `FrsqrteEst` of R440, in double format: the sign is forced by the caller. -/
opaque Config.frsqrteEst : BitVec 64 → BitVec 64

end Sys2Proof
end

