-- ==== Sys2Proof/Machine/State.lean ====
section
/-! DEFINITION. The machine's state, the reasons a step can stop, and the state after reset (10_state.md R30 to R74). -/

namespace Sys2Proof.Machine

/-- Why the machine has stopped. -/
inductive Fault where
  /-- The processor halted on a machine check with MSR[ME] = 0 and no hard reset is asserted (R777). Raised by `step`
  in the checkstop state. Safe: the hardware does not go on either. -/
  | checkstop
deriving DecidableEq, Repr

/-- Why the model gives a step no meaning. Each is one of the spec's own refusals, so a run stops where the spec says
nothing about what the hardware does: all of them are safe. -/
inductive Refusal where
  /-- An instruction without a meaning in this model (raised by `exec`). -/
  | notModelled (mnemonic : String)
  /-- MSR[LE] = 1, or a write or exception entry that would set MSR[LE] or MSR[ILE] (D4; R102, R568, R641, R775). -/
  | littleEndian
  /-- A reserved bit of the instruction word is set (D13, R184). -/
  | reservedBits
  /-- An invalid form (D14, R185). -/
  | invalidForm
  /-- One of the nine supplement instructions while `SupplementEnabled` is false (D11, R740). -/
  | supplementDisabled
  /-- An access through a segment register with T = 1 (D24, R115). -/
  | directStoreSegment
  /-- More than one BAT pair matches an address (R111). -/
  | batConflict
  /-- A matching BAT pair breaks the constraints R113 puts on software. -/
  | batMalformed
  /-- Two matching page table entries disagree (R116). -/
  | pteConflict
  /-- The page table does not lie in RAM or ROM (R116; D6 leaves device behaviour to the environment). -/
  | pageTableNotMemory
  /-- A device address accessed with I = 0 or G = 0 (R108). -/
  | deviceAttributes
  /-- A misaligned access to a device address, or one that lies in a device only in part (D5, R105). -/
  | deviceMisaligned
  /-- A store to ROM: `MemMap` names the region and no rule says what the store does (R109). -/
  | romStore
  /-- `dcbz` of a block that is a device or absent (R556). -/
  | dcbzNotMemory
  /-- A misaligned quantized access (R105, U21). -/
  | quantizedMisaligned
  /-- A quantized access with GQR type 1, 2 or 3 (R664, R665, R185 (i)). -/
  | quantizedType
  /-- A write that enables the write-gather pipe or the locked cache, or writes WPAR, DMAU or DMAL (D28, R65). -/
  | lockedCacheUnit
  /-- A step that depends on a bit of HID4 other than SBE (R60, U28). -/
  | hid4Bits
  /-- A write that enables the performance-monitor interrupt (D19, R72). -/
  | performanceMonitorInterrupt
  /-- A write that enables the thermal unit (D19, R73). -/
  | thermalUnit
  /-- `dcbz_l` with the locked cache enabled (D28, R749). -/
  | lockedCacheZero
  /-- `mtfsb1 20`, which names the reserved bit of FPSCR (R583). -/
  | reservedFpscrBit
  /-- `lwarx` on caching-inhibited or write-through memory (R743). -/
  | reservationUncached
  /-- `eciwx` or `ecowx` with EAR[E] = 1: no external-control device is defined (R746, R747). -/
  | externalControl
deriving DecidableEq, Repr

/-- A block address translation pair (R59). -/
structure Bat where
  upper : Word
  lower : Word
deriving DecidableEq, Repr

/-- What the processor is doing. -/
inductive RunMode where
  /-- It executes instructions. -/
  | running
  /-- It waits in a power-saving state (R812). -/
  | powerSave
  /-- It halted on a machine check (R777). -/
  | checkstop
deriving DecidableEq, Repr

/-- How far the sequence of R140 has gone for a word that was written. -/
inductive FetchStage where
  /-- The word was written. -/
  | written
  /-- `dcbst` or `dcbf` followed. -/
  | stored
  /-- Then `sync`. -/
  | synced
  /-- Then `icbi`. -/
  | invalidated
  /-- Then `sync` or `isync`, or in place of the `icbi` and this HID0[ICFI] was written 1 (R862): the next `isync`
  completes the sequence. -/
  | settled
deriving DecidableEq, Repr

/-- A word of memory that an instruction fetch may still read in an older version (R140). -/
structure StaleWord where
  /-- The word's physical address divided by 4. -/
  word  : Nat
  /-- What the word held before each store since fetches last had to see it, the latest first. -/
  olds  : List Word
  stage : FetchStage
deriving DecidableEq, Repr

/-- A word of memory that was stored to and of which an older version may still be found: in memory, where the data cache
has not written the word back (R552, R144, R860 (c), (e)), or through a mapping with other attributes (R860 (f)). -/
structure DirtyWord where
  /-- The word's physical address divided by 4. -/
  word   : Nat
  /-- What the word held before each store since it was last certain, the latest first. -/
  olds   : List Word
  /-- `dcbst` or `dcbf` was executed, and so many stores ago: the next `sync` settles the versions before it. -/
  flush  : Option Nat
  /-- The data cache may hold a store to the word's block back. -/
  cached : Bool
  /-- The attributes W and I of the first of the stores. -/
  attr   : BitVec 2
  /-- Stores to the word's block came with different attributes. -/
  mixed  : Bool
deriving DecidableEq, Repr

/-- A register of the context that was written, with the value it had before: until the synchronization of R862 that
value may still act. -/
structure LateWrite where
  reg : ContextReg
  old : Word
deriving DecidableEq, Repr

/-- A change of what a page table search reads: a word of memory (by its address divided by 4) or SDR1, with the value
before the change. -/
inductive TableChange where
  | word (w : Nat) (old : Word)
  | sdr1 (old : Word)
deriving DecidableEq, Repr

/-- The changes a translation by page may not see yet (R66, R861): what a program can see of the TLBs. -/
structure TableHistory where
  /-- The changes, the latest first. -/
  changes  : List TableChange
  /-- How many of them came before the last `sync`: a search itself sees all of those. -/
  synced   : Nat
  /-- For each TLB set, how many came before the last `tlbie` of the set that a `sync` completed: no translation through
  the set predates those (R624). -/
  cleared  : Vector Nat 64
  /-- The same for the last `tlbie` of the set, completed or not. -/
  clearing : Vector Nat 64
deriving DecidableEq, Repr

/-- No change is remembered. -/
def TableHistory.empty : TableHistory := ⟨[], 0, Vector.replicate 64 0, Vector.replicate 64 0⟩

/-- An access to a device, as the environment sees it (R100, R108): its address and, in ascending order, its bytes. -/
structure BusAccess where
  store : Bool
  pa    : Word
  bytes : List Byte
deriving DecidableEq, Repr

/-- Why the input `MachineCheckIn` is asserted (R777). The environment gives a parity error only where HID0 enables it. -/
inductive MachineCheckCause where
  | pin
  | transferError
  | dataParity
  | addressParity
  | level2
deriving DecidableEq, Repr

/-- The levels of the input lines (R69, D21) and the hard-reset pin (R776). -/
structure Lines where
  hardReset      : Bool
  softReset      : Bool
  machineCheckIn : Option MachineCheckCause
  extIrq         : Bool
deriving DecidableEq, Repr

/-- Physical memory: the bytes that are not zero, by strictly rising address (R100). -/
abbrev Memory := List Host.Cell

/-- The architectural state of one processor and its memory (R30), with the model's own bookkeeping last. -/
structure State where
  /-- `pc` (R32). -/
  pc : Word
  /-- `x[0]` to `x[31]` (R31). -/
  gpr : Vector Word 32
  /-- Lane 0 of `f[0]` to `f[31]` (R46). -/
  ps0 : Vector Lane 32
  /-- Lane 1 of `f[0]` to `f[31]`, in double format (R46). -/
  ps1 : Vector Lane 32
  /-- CR (R34). -/
  cr : Word
  /-- LR (R35). -/
  lr : Word
  /-- CTR (R36). -/
  ctr : Word
  /-- XER (R37). -/
  xer : Word
  /-- A write to XER has set a reserved bit since reset, so its reserved bits read as draws (R37). -/
  xerReservedWritten : Bool
  /-- FPSCR (R48). -/
  fpscr : Word
  /-- MSR (R50). -/
  msr : Word
  /-- SRR0 and SRR1 (R51). -/
  srr0 : Word
  srr1 : Word
  /-- DAR and DSISR (R54). -/
  dar : Word
  dsisr : Word
  /-- DEC (R56). -/
  dec : Word
  /-- TB, the upper half TBU and the lower half TBL (R55). -/
  tb : BitVec 64
  /-- SDR1 (R57). -/
  sdr1 : Word
  /-- SPRG0 to SPRG3 (R53). -/
  sprg : Vector Word 4
  /-- EAR (R70). -/
  ear : Word
  /-- SR[0] to SR[15] (R58). -/
  sr : Vector Word 16
  /-- IBAT0 to IBAT7 and DBAT0 to DBAT7; pairs 4 to 7 are Broadway's (R59, R60). -/
  ibat : Vector Bat 8
  dbat : Vector Bat 8
  /-- GQR0 to GQR7 (R62). -/
  gqr : Vector Word 8
  /-- HID0, HID1, HID2 and Broadway's HID4 (R64, R63, R60). -/
  hid0 : Word
  hid1 : Word
  hid2 : Word
  hid4 : Word
  /-- WPAR, DMAU and DMAL (R65). -/
  wpar : Word
  dmau : Word
  dmal : Word
  /-- MMCR0, MMCR1, PMC1 to PMC4 and SIA (R72). -/
  mmcr0 : Word
  mmcr1 : Word
  pmc : Vector Word 4
  sia : Word
  /-- IABR and DABR (R71). -/
  iabr : Word
  dabr : Word
  /-- L2CR (R67). -/
  l2cr : Word
  /-- ICTC and THRM1 to THRM3 (R73). -/
  ictc : Word
  thrm : Vector Word 3
  /-- The reservation flag RESERVE and the address of the reserved granule (R68). -/
  reserve : Bool
  reserveAddr : Word
  /-- DecPending (R69). -/
  decPending : Bool
  /-- The input lines (R69). -/
  lines : Lines
  /-- Running, waiting or halted (R812, R777). -/
  mode : RunMode
  /-- Memory (R100). -/
  mem : Memory
  /-- The words a fetch may read stale (R140). -/
  stale : List StaleWord
  /-- The stored words that may be found in an older version (R552, R860). -/
  dirty : List DirtyWord
  /-- The registers whose last writes may not act yet (R861, R862). -/
  late : List LateWrite
  /-- The changes a translation by page may not see yet (R66). -/
  tables : TableHistory
  /-- The accesses to devices, the latest first: each was performed exactly once (R108). -/
  bus : List BusAccess
  /-- The parameters of R7. -/
  params : Params
  /-- The model's own: how many free values have been drawn. -/
  draws : Nat
  /-- The model's own: how many steps have been taken, the argument of the time base's advance. -/
  time : Nat
deriving DecidableEq, Repr

/-- The state after a hard reset (R74, R850), with the parameters, the memory and the past device
accesses given: reset changes none of them. The
registers that R74 marks unknown are 0 (DESIGN CHOICE, assumption 1). -/
def State.hardReset (params : Params) (mem : Memory) (bus : List BusAccess) (draws time : Nat) : State where
  pc := 0xFFF00100
  gpr := Vector.replicate 32 0
  ps0 := Vector.replicate 32 0
  ps1 := Vector.replicate 32 0
  cr := 0
  lr := 0
  ctr := 0
  xer := 0
  xerReservedWritten := false
  fpscr := 0
  msr := 0x00000040
  srr0 := 0
  srr1 := 0
  dar := 0
  dsisr := 0
  dec := 0xFFFFFFFF
  tb := 0
  sdr1 := 0
  sprg := Vector.replicate 4 0
  ear := 0
  sr := Vector.replicate 16 0
  ibat := Vector.replicate 8 ⟨0, 0⟩
  dbat := Vector.replicate 8 ⟨0, 0⟩
  gqr := Vector.replicate 8 0
  hid0 := 0
  hid1 := 0
  hid2 := 0
  hid4 := 0
  wpar := 0
  dmau := 0
  dmal := 0
  mmcr0 := 0
  mmcr1 := 0
  pmc := Vector.replicate 4 0
  sia := 0
  iabr := 0
  dabr := 0
  l2cr := 0
  ictc := 0
  thrm := Vector.replicate 3 0
  reserve := false
  reserveAddr := 0
  decPending := false
  lines := ⟨false, false, none, false⟩
  mode := .running
  mem := mem
  stale := []
  dirty := []
  late := []
  tables := .empty
  bus := bus
  params := params
  draws := draws
  time := time

/-- The machine right after reset, with nothing in memory. -/
def State.reset : State := .hardReset .initial [] [] 0 0

end Sys2Proof.Machine
end

