-- ==== Sys2Proof/Machine/Ops.lean ====
section
/-! DEFINITION. The named operations over registers and memory, and taking an exception and returning from one.

Registers: 10_state.md. Memory: 20_memory.md R100 to R144. Exceptions: 60_exceptions.md R770 to R797. -/

namespace Sys2Proof.Machine

/-- The outcome of an instruction or a step. -/
abbrev Out := Host.Outcome State Fault Refusal

/-- What a part of an instruction gives: a value and the state it leaves, or the instruction's outcome, when an
exception or a refusal ends it there. -/
inductive Res (α : Type) where
  | ok (a : α) (s : State)
  | stop (o : Out)

/-- Go on with the value and the state, or end as the part ended. -/
def Res.bind {α β : Type} (r : Res α) (f : α → State → Res β) : Res β :=
  match r with
  | .ok a s => f a s
  | .stop o => .stop o

/-- End the instruction with what `f` makes of the value and the state. -/
def Res.finish {α : Type} (r : Res α) (f : α → State → Out) : Out :=
  match r with
  | .ok a s => f a s
  | .stop o => o

/-! ### Registers -/

/-- `x[r]` (R31). -/
def State.x (s : State) (r : Reg) : Word := s.gpr.get r.toFin

/-- `x[r] <- v` (R31): no general register is hardwired. -/
def State.setX (s : State) (r : Reg) (v : Word) : State := { s with gpr := s.gpr.set r.toFin v }

/-- `(rA|0)` (R11): an rA field of 0 means the constant 0. -/
def State.xOr0 (s : State) (r : Reg) : Word := if r = 0 then 0 else s.x r

/-- `f[r].ps0` (R46). -/
def State.f0 (s : State) (r : FReg) : Lane := s.ps0.get r.toFin

/-- `f[r].ps1` (R46). -/
def State.f1 (s : State) (r : FReg) : Lane := s.ps1.get r.toFin

/-- `f[r].ps0 <- v`. -/
def State.setF0 (s : State) (r : FReg) (v : Lane) : State := { s with ps0 := s.ps0.set r.toFin v }

/-- `f[r].ps1 <- v`. -/
def State.setF1 (s : State) (r : FReg) (v : Lane) : State := { s with ps1 := s.ps1.set r.toFin v }

/-- What a register of the context holds. -/
def State.contextReg (s : State) : ContextReg → Word
  | .msr => s.msr
  | .sr i => s.sr.get i
  | .ibatU i => (s.ibat.get i).upper
  | .ibatL i => (s.ibat.get i).lower
  | .dbatU i => (s.dbat.get i).upper
  | .dbatL i => (s.dbat.get i).lower
  | .sdr1 => s.sdr1
  | .ice | .dce => s.hid0
  | .hid2 => s.hid2
  | .hid4 => s.hid4
  | .iabr => s.iabr
  | .dabr => s.dabr
  | .ear => s.ear

/-- The value of a register of the context that acts in this step, for a fetch or for what the instruction does: what the
register holds, or before the synchronization of R862 an older value, by a free choice (U17, U29). -/
def State.acting (s : State) (fetching : Bool) (r : ContextReg) : Word :=
  match s.late.filter (fun e => e.reg = r) with
  | [] => s.contextReg r
  | olds => (olds[Config.lateChoice s.time fetching r]?.map (·.old)).getD (s.contextReg r)

/-- The register is about to be written: its value may act until the synchronization of R862. -/
def State.superseding (s : State) (r : ContextReg) : State := { s with late := ⟨r, s.contextReg r⟩ :: s.late }

/-- A context synchronization (R135): every write of the context acts from now on, but for DCE, which waits for `sync`
(R862). -/
def State.contextSynced (s : State) : State := { s with late := s.late.filter (fun e => e.reg = .dce) }

/-- What HID0 was written with since the last `sync`, the latest first. -/
def State.hid0Writes (s : State) : List Word :=
  match (s.late.filter (fun e => e.reg = .dce)).map (·.old) with
  | [] => []
  | olds => s.hid0 :: olds.dropLast

/-- The data cache was told to drop what it holds, and no `sync` has completed that: a write of HID0 had DCFI = 1 or
DCE = 0 (R143, R860 (e), R862). -/
def State.dropping (s : State) : Bool := s.hid0Writes.any (fun v => v.getLsbD 10 || !v.getLsbD 14)

/-- The MSR[PR] that acts on a fetch or on what an instruction does (R50, R862). -/
def State.userFor (s : State) (fetching : Bool) : Bool := (s.acting fetching .msr).getLsbD 14

/-- `MSR[PR]` (R50): user mode. The value that acts (R862). -/
def State.msrPr (s : State) : Bool := s.userFor false
/-- `MSR[EE]` (R50). -/
def State.msrEe (s : State) : Bool := s.msr.getLsbD 15
/-- `MSR[ILE]` (R50). -/
def State.msrIle (s : State) : Bool := s.msr.getLsbD 16
/-- `MSR[FP]` (R50). -/
def State.msrFp (s : State) : Bool := s.msr.getLsbD 13
/-- `MSR[ME]` (R50). -/
def State.msrMe (s : State) : Bool := s.msr.getLsbD 12
/-- `MSR[FE0] | MSR[FE1]` (R50): enabled floating-point exceptions are taken. -/
def State.msrFe (s : State) : Bool := s.msr.getLsbD 11 || s.msr.getLsbD 8
/-- `MSR[SE]` (R50). -/
def State.msrSe (s : State) : Bool := s.msr.getLsbD 10
/-- `MSR[BE]` (R50). -/
def State.msrBe (s : State) : Bool := s.msr.getLsbD 9
/-- `MSR[IP]` (R50). -/
def State.msrIp (s : State) : Bool := s.msr.getLsbD 6
/-- `MSR[IR]` (R50): the value that acts (R862). -/
def State.msrIr (s : State) : Bool := (s.acting true .msr).getLsbD 5
/-- `MSR[DR]` (R50): the value that acts (R862). -/
def State.msrDr (s : State) : Bool := (s.acting false .msr).getLsbD 4
/-- `MSR[LE]` (R50). -/
def State.msrLe (s : State) : Bool := s.msr.getLsbD 0
/-- `HID2[PSE]` (R63): paired singles are enabled. The value that acts (R862), as for the next four. -/
def State.pse (s : State) : Bool := (s.acting false .hid2).getLsbD 29
/-- `HID2[LSQE]` (R63): quantized loads and stores are enabled. -/
def State.lsqe (s : State) : Bool := (s.acting false .hid2).getLsbD 31
/-- `HID2[LCE]` (R63): the locked cache is enabled. -/
def State.lce (s : State) : Bool := (s.acting false .hid2).getLsbD 28
/-- `HID0[ICE]` (R64, R143): the instruction cache is enabled. -/
def State.ice (s : State) : Bool := (s.acting true .ice).getLsbD 15
/-- `HID0[DCE]` (R64, R143): the data cache is enabled. -/
def State.dce (s : State) : Bool := (s.acting false .dce).getLsbD 14

/-- The `k`-th of the next free values (00_scope.md, "draw"). -/
def State.freeAt (s : State) (k : Nat) : BitVec 64 := Config.freeBits (s.draws + k)

/-- The next free value. -/
def State.free (s : State) : BitVec 64 := s.freeAt 0

/-- The next `n` free values have been used. -/
def State.drawnBy (s : State) (n : Nat) : State := { s with draws := s.draws + n }

/-- The next free value has been used. -/
def State.drawn (s : State) : State := s.drawnBy 1

/-! ### Context synchronization (R135) -/

/-- The sequence of R140 is complete but for the last `isync`. With the instruction cache disabled neither the `icbi` nor
the `sync` after it is needed. -/
def FetchStage.complete (ice : Bool) : FetchStage → Bool
  | .settled => true
  | .synced | .invalidated => !ice
  | .written | .stored => false

/-- A refetch ends the sequence of R140: what a fetch sees is new where the sequence was complete. -/
def State.refetched (s : State) : State :=
  { s with
    stale := (s.stale.filter (fun e => !e.stage.complete s.ice)).map
      (fun e => if e.stage = .invalidated then { e with stage := .settled } else e) }

/-- What `isync`, `sc`, `rfi` and exception entry do as context synchronizations (R135): the context acts as it was last
written, HID0[ICE] included (R862), and what follows is fetched again in it. -/
def State.resynced (s : State) : State := s.contextSynced.refetched

/-! ### Exceptions -/

/-- The exceptions of R771. -/
inductive Exception where
  | systemReset
  | machineCheck
  | dsi
  | isi
  | externalInterrupt
  | alignment
  | program
  | fpUnavailable
  | decrementer
  | systemCall
  | trace
  | instructionAddressBreakpoint
deriving DecidableEq, Repr

/-- The vector offsets of R771. -/
def Exception.offset : Exception → Word
  | .systemReset => 0x00100
  | .machineCheck => 0x00200
  | .dsi => 0x00300
  | .isi => 0x00400
  | .externalInterrupt => 0x00500
  | .alignment => 0x00600
  | .program => 0x00700
  | .fpUnavailable => 0x00800
  | .decrementer => 0x00900
  | .systemCall => 0x00C00
  | .trace => 0x00D00
  | .instructionAddressBreakpoint => 0x01300

/-- The handler's address (R773). -/
def vectorAddress (ip : Bool) (e : Exception) : Word := (if ip then 0xFFF00000 else 0) ||| e.offset

/-- The MSR bits an exception entry keeps (R775): ILE, ME and IP; a machine check clears ME too. -/
def keptOnEntry : Exception → Word
  | .machineCheck => 0x00010040
  | _ => 0x00011040

/-- The state after exception entry (R775) with return address `ra` and cause bits `info`. Entry is context
synchronizing. -/
def State.entered (s : State) (e : Exception) (ra info : Word) : State :=
  { s.resynced with
    srr0 := ra &&& 0xFFFFFFFC
    srr1 := (s.msr &&& 0x87C0FFFF) ||| info
    msr := s.msr &&& keptOnEntry e
    pc := vectorAddress s.msrIp e }

/-- Taking an exception (R775). Entry with MSR[ILE] = 1 would set MSR[LE], which the spec refuses (D4). -/
def takeException (e : Exception) (ra info : Word) (s : State) : Out :=
  if s.msrIle then .refused .littleEndian else .next (s.entered e ra info)

/-- The kinds of `Program` exception (R781). -/
inductive ProgramKind where
  | fpEnabled
  | illegalInstruction
  | privilegedInstruction
  | trap
deriving DecidableEq, Repr

/-- The SRR1 bit that tells the kind (R781). -/
def ProgramKind.info : ProgramKind → Word
  | .fpEnabled => 0x00100000
  | .illegalInstruction => 0x00080000
  | .privilegedInstruction => 0x00040000
  | .trap => 0x00020000

/-- `raise Program(kind)` at the current instruction (R781). -/
def raiseProgram (k : ProgramKind) (s : State) : Out := takeException .program s.pc k.info s

/-- `raise FPUnavailable` (R783). -/
def raiseFpUnavailable (s : State) : Out := takeException .fpUnavailable s.pc 0 s

/-- `raise DSI` (R778) for the byte at `ea`, with the given DSISR. -/
def raiseDsi (ea cause : Word) (s : State) : Out :=
  takeException .dsi s.pc 0 { s with dar := ea, dsisr := cause }

/-- `raise ISI` (R779) with the given cause bits. -/
def raiseIsi (info : Word) (s : State) : Out := takeException .isi s.pc info s

/-- A machine check (R777): the exception if MSR[ME] = 1, else the checkstop state. The return address is not precise:
a draw (assumption 14). -/
def machineCheck (info : Word) (s : State) : Out :=
  if s.msrMe then takeException .machineCheck (s.free.setWidth 32) info s.drawn else .next { s with mode := .checkstop }

/-- The SRR1 bit of a machine check's cause (R777). -/
def MachineCheckCause.info : MachineCheckCause → Word
  | .pin => 0x00080000
  | .transferError => 0x00040000
  | .dataParity => 0x00020000
  | .addressParity => 0x00010000
  | .level2 => 0x00100000

/-- The machine check of an access to a physical address that holds nothing (R100, R777): SRR1[18], transfer error. -/
def absentAddress (s : State) : Out := machineCheck MachineCheckCause.transferError.info s

/-- DSISR after an alignment exception of the instruction word `w` (R780). `raField` is whether the rA field is
recorded; where it is not, bits 4:0 are a draw. -/
def alignmentDsisr (w : Word) (raField : Bool) (draw : BitVec 64) : Word :=
  let form : BitVec 7 :=
    if opcd w = 31 then w.extractLsb' 1 2 ++ w.extractLsb' 6 1 ++ w.extractLsb' 7 4
    else 0#2 ++ w.extractLsb' 26 1 ++ w.extractLsb' 27 4
  let low : BitVec 5 := if raField then w.extractLsb' 16 5 else draw.setWidth 5
  0#15 ++ form ++ w.extractLsb' 21 5 ++ low

/-- `raise Alignment` (R780) by instruction `i` at address `ea`. -/
def raiseAlignment (i : Instr) (raField : Bool) (ea : Word) (s : State) : Out :=
  takeException .alignment s.pc 0
    { (if raField then s else s.drawn) with dar := ea, dsisr := alignmentDsisr (encode i) raField s.free }

/-- End an instruction whose successor is at `next`: a Trace exception if `traced` (R786), else the next state. -/
def retireTo (traced : Bool) (next : Word) (s : State) : Out :=
  if traced then takeException .trace next 0 s else .next { s with pc := next }

/-- End an instruction that is not a branch: `pc <- pc + 4` (R12), traced if MSR[SE] = 1 (R786). -/
def retire (s : State) : Out := retireTo s.msrSe (s.pc + 4) s

/-- End a branch: traced if MSR[SE] or MSR[BE] is 1, taken or not (R786). -/
def retireBranch (target : Word) (s : State) : Out := retireTo (s.msrSe || s.msrBe) target s

/-- A privileged instruction (R801): in user mode the exception, else its effect. -/
def privileged (s : State) (run : Out) : Out := if s.msrPr then raiseProgram .privilegedInstruction s else run

/-- A floating-point instruction (R783): with MSR[FP] = 0 the exception, else its effect. -/
def withFp (s : State) (run : Out) : Out := if s.msrFp then run else raiseFpUnavailable s

/-- A paired-single instruction (R661): illegal with HID2[PSE] = 0, then as a floating-point instruction. -/
def withPaired (s : State) (run : Out) : Out :=
  if s.pse then withFp s run else raiseProgram .illegalInstruction s

/-- A quantized load or store (R661): illegal unless HID2[PSE] and HID2[LSQE] are both 1. -/
def withQuantized (s : State) (run : Out) : Out :=
  if s.pse && s.lsqe then withFp s run else raiseProgram .illegalInstruction s

/-- The MSR bits `rfi` takes from SRR1 (R795). -/
def rfiMask : Word := 0x0000FF77

/-- The MSR after `rfi` (R795). -/
def State.msrAfterRfi (s : State) : Word := (s.msr &&& 0x00010000) ||| (s.srr1 &&& rfiMask)

/-- The state after the return from an exception (R795), which is context synchronizing (R135). -/
def State.returned (s : State) : State := { s.resynced with msr := s.msrAfterRfi, pc := s.srr0 &&& 0xFFFFFFFC }

/-! ### Memory -/

/-- The byte at a physical address. An address that is not listed reads as 0 (DESIGN CHOICE, assumption 4). -/
def Memory.read : Memory → Nat → Byte
  | [], _ => 0
  | (k, v) :: m, a => if k = a then v else Memory.read m a

/-- List a byte at its place in the order. -/
def Memory.insert (a : Nat) (b : Byte) : Memory → Memory
  | [] => [(a, b)]
  | (k, v) :: m => if a < k then (a, b) :: (k, v) :: m else if k = a then (a, b) :: m else (k, v) :: Memory.insert a b m

/-- Write one byte. Writing 0 takes the address off the list, so equal memories are equal lists. -/
def Memory.write (m : Memory) (a : Nat) (b : Byte) : Memory :=
  if b = 0 then m.filter (fun c => c.1 ≠ a) else Memory.insert a b m

/-- The canonical form: addresses strictly rising and below 2^32, no byte 0. -/
def Memory.wf : Memory → Bool
  | [] => true
  | [(k, v)] => decide (k < 2 ^ 32) && v != 0
  | (k, v) :: (k', v') :: m => decide (k < k') && v != 0 && Memory.wf ((k', v') :: m)

/-- The physical address of the `i`-th byte from `pa` (R101: modulo 2^32). -/
def byteAt (pa : Word) (i : Nat) : Nat := (pa + BitVec.ofNat 32 i).toNat

/-- `n` bytes from a physical address, in ascending order. -/
def Memory.readBytes (m : Memory) (pa : Word) (n : Nat) : List Byte := (List.range n).map (fun i => m.read (byteAt pa i))

/-- Write bytes from a physical address on, in ascending order. -/
def Memory.writeBytes (m : Memory) (pa : Word) : List Byte → Memory
  | [] => m
  | b :: bs => Memory.writeBytes (m.write pa.toNat b) (pa + 1) bs

/-- The value of bytes read in ascending order: the first is the most significant (R102). -/
def beValue (bs : List Byte) : BitVec 64 := bs.foldl (fun acc b => acc <<< 8 ||| b.setWidth 64) 0

/-- The `n` bytes of a value, the most significant first (R102). -/
def beBytes (n : Nat) (v : BitVec 64) : List Byte := (List.range n).map (fun i => v.extractLsb' (8 * (n - 1 - i)) 8)

/-- The word at a physical address divided by 4. -/
def Memory.word (m : Memory) (w : Nat) : Word := (beValue (m.readBytes (BitVec.ofNat 32 (4 * w)) 4)).setWidth 32

/-! ### What the caches can make visible (R140, R144, R552) -/

/-- The words (addresses divided by 4) that hold the `n` bytes from `pa`. -/
def wordsOf (pa : Word) (n : Nat) : List Nat := ((List.range n).map (fun i => byteAt pa i / 4)).dedup

/-- The words of the 32-byte block that holds `pa`. -/
def blockWords (pa : Word) : List Nat := (List.range 8).map (fun i => pa.toNat / 32 * 8 + i)

/-- A word is about to be written: a fetch may from now on read its old value (R140). -/
def noteStale (m : Memory) (l : List StaleWord) (w : Nat) : List StaleWord :=
  if l.any (fun e => e.word = w) then
    l.map (fun e => if e.word = w then { e with olds := m.word w :: e.olds, stage := .written } else e)
  else ⟨w, [m.word w], .written⟩ :: l

/-- Two words (addresses divided by 4) lie in one 32-byte block. -/
def sameBlock (w v : Nat) : Bool := decide (w / 8 = v / 8)

/-- A word is about to be written with the attributes W and I: its old value may stay somewhere (R552, R860). `cached` is
whether the data cache may hold the store back. It holds and writes back whole blocks, so whether it holds a store back
and whether the attributes differ is one for all words of the block that were stored to (assumption 11). -/
def noteDirty (m : Memory) (cached : Bool) (attr : BitVec 2) (l : List DirtyWord) (w : Nat) : List DirtyWord :=
  let block := l.filter (fun e => sameBlock e.word w)
  let held := cached || block.any (·.cached)
  let mixed := block.any (fun e => e.mixed || decide (e.attr ≠ attr))
  let noted := l.map (fun e => if sameBlock e.word w then { e with cached := held, mixed := mixed } else e)
  if block.any (fun e => e.word = w) then
    noted.map (fun e =>
      if e.word = w then { e with olds := m.word w :: e.olds, flush := e.flush.map (· + 1) } else e)
  else ⟨w, [m.word w], none, held, attr, mixed⟩ :: noted

/-- The words are about to be written: a translation by page may not see it yet (R66, R861 (c)). -/
def TableHistory.noteWords (h : TableHistory) (m : Memory) (ws : List Nat) : TableHistory :=
  { h with changes := (ws.map fun w => TableChange.word w (m.word w)) ++ h.changes }

/-- The translation of an address: the physical address, the attributes WIMG (R108), and the address of the page table
entry's word 1 where one is to be marked (R118). -/
structure Mapped where
  pa   : Word
  wimg : BitVec 4
  pte  : Option Word
deriving DecidableEq, Repr

/-- The attribute I, caching-inhibited. -/
def Mapped.inhibited (m : Mapped) : Bool := m.wimg.getLsbD 2
/-- The attribute W, write-through. -/
def Mapped.writeThrough (m : Mapped) : Bool := m.wimg.getLsbD 3
/-- The attribute G, guarded. -/
def Mapped.guarded (m : Mapped) : Bool := m.wimg.getLsbD 0
/-- The attributes W and I. -/
def Mapped.attr (m : Mapped) : BitVec 2 := m.wimg.extractLsb' 2 2

/-- The data cache may hold a store back: it is enabled and the access has I = 0 and W = 0 (R130 (e)). -/
def State.heldBack (s : State) (m : Mapped) : Bool := s.dce && !m.inhibited && !m.writeThrough

/-- Store bytes at a physical address in memory. -/
def State.storePhys (s : State) (m : Mapped) (bs : List Byte) : State :=
  let ws := wordsOf m.pa bs.length
  { s with
    mem := s.mem.writeBytes m.pa bs
    stale := ws.foldl (noteStale s.mem) s.stale
    dirty := ws.foldl (noteDirty s.mem (s.heldBack m) m.attr) s.dirty
    tables := s.tables.noteWords s.mem ws }

/-- `dcbst` or, with `invalidate`, `dcbf` of the block that holds `pa`: the first step of the sequences of R140 and R144.
`dcbst` leaves the block in the cache, so it settles only stores that went there. -/
def State.blockStored (s : State) (invalidate : Bool) (pa : Word) : State :=
  { s with
    stale := s.stale.map (fun e => if e.word ∈ blockWords pa ∧ e.stage = .written then { e with stage := .stored } else e)
    dirty := s.dirty.map (fun e =>
      if e.word ∈ blockWords pa ∧ (invalidate ∨ (e.attr = 0 ∧ e.mixed = false)) then { e with flush := some 0 } else e) }

/-- `icbi` of the block that holds `pa` (R557). -/
def State.blockInvalidated (s : State) (pa : Word) : State :=
  { s with
    stale := s.stale.map (fun e =>
      if e.word ∈ blockWords pa ∧ e.stage = .synced then { e with stage := .invalidated } else e) }

/-- HID0[ICFI] written 1 (R143): every block leaves the instruction cache, and the next `isync` makes that effective
(R862). -/
def State.fetchFlushed (s : State) : State :=
  { s with
    stale := s.stale.map (fun e =>
      if e.stage = .synced ∨ e.stage = .invalidated then { e with stage := .settled } else e) }

/-- The TLB set of a page (R624, R861 (d)). -/
def tlbSet (ea : Word) : Fin 64 := (ea.extractLsb' 12 6).toFin

/-- `tlbie`: the next `sync` completes it (R624, R861 (c)). -/
def State.tlbSetCleared (s : State) (ea : Word) : State :=
  { s with tables := { s.tables with clearing := s.tables.clearing.set (tlbSet ea) s.tables.changes.length } }

/-- `tlbia` (R625). -/
def State.tlbCleared (s : State) : State :=
  { s with tables := { s.tables with clearing := Vector.replicate 64 s.tables.changes.length } }

/-- A word each byte of which is that byte of one of several versions, as the free bits choose. -/
def mixVersions (draw : BitVec 64) (versions : List Word) : Word :=
  let pick (j : Nat) : Byte :=
    (versions.getD ((draw.extractLsb' (16 * j) 16).toNat % versions.length) 0).extractLsb' (8 * j) 8
  pick 3 ++ pick 2 ++ pick 1 ++ pick 0

/-- Memory after the data cache dropped a word: where a store was held back, each byte is that of the stored or of an
older version (R552). -/
def Memory.reverted (m : Memory) (e : DirtyWord) (draw : BitVec 64) : Memory :=
  if e.cached then
    m.writeBytes (BitVec.ofNat 32 (4 * e.word)) (beBytes 4 ((mixVersions draw (m.word e.word :: e.olds)).setWidth 64))
  else m

/-- The data cache drops the words `lost` selects, with one draw for each of them (R552, R860). What was in memory until
then may still be fetched, and still translate. -/
def State.discarded (s : State) (lost : DirtyWord → Bool) : State :=
  let gone := s.dirty.filter lost
  let ws := (gone.filter (·.cached)).map (·.word)
  { s with
    mem := gone.zipIdx.foldl (fun m e => m.reverted e.1 (s.freeAt e.2)) s.mem
    stale := ws.foldl (noteStale s.mem) s.stale
    dirty := s.dirty.filter (fun e => !lost e)
    tables := s.tables.noteWords s.mem ws
    draws := s.draws + gone.length }

/-- `dcbi` of the block that holds `pa` (R552). -/
def State.blockDiscarded (s : State) (pa : Word) : State := s.discarded (fun e => decide (e.word ∈ blockWords pa))

/-- The next `sync` decides what memory holds of a word whose block was held back: the data cache was told to drop it
(R860 (e)), or a `dcbf` may have written its copy of the block over a store with other attributes (R860 (f)). -/
def State.undecided (s : State) (e : DirtyWord) : Bool :=
  e.cached && (s.dropping || (e.mixed && decide (e.flush = some 0)))

/-- What `sync` leaves of a stored word that is decided: where a `dcbst` or `dcbf` came before it, only the versions since
then, or all where the stores had several attributes. -/
def DirtyWord.synced (e : DirtyWord) : Option DirtyWord :=
  match e.flush with
  | none => some e
  | some 0 => none
  | some n => some { e with olds := if e.mixed then e.olds else e.olds.take n, flush := none }

/-- The stage of the sequence of R140 after a `sync`. -/
def FetchStage.afterSync : FetchStage → FetchStage
  | .stored => .synced
  | .invalidated => .settled
  | .written => .written
  | .synced => .synced
  | .settled => .settled

/-- `sync` completes the cache and TLB instructions before it (R133, R140, R144, R861), and a write of DCE acts (R862). -/
def State.synced (s : State) : State :=
  let t := s.discarded s.undecided
  { t with
    stale := t.stale.map (fun e => { e with stage := e.stage.afterSync })
    dirty := t.dirty.filterMap DirtyWord.synced
    late := t.late.filter (fun e => e.reg ≠ .dce)
    tables := { t.tables with synced := t.tables.changes.length, cleared := t.tables.clearing } }

/-! ### Translation (R110 to R119) -/

/-- Why memory is accessed. -/
inductive Access where
  | fetch
  | load
  | store
deriving DecidableEq, Repr

/-- The result of translation and protection. -/
inductive Translation where
  | mapped (m : Mapped)
  /-- No translation (R116). -/
  | pageFault
  /-- A protection violation (R114, R117) in a page or block with these attributes. -/
  | protection (wimg : BitVec 4)
  /-- A fetch from a no-execute segment or from guarded memory (R115, R119). -/
  | noExecute
  /-- The page table reaches an address that holds nothing (R100). -/
  | absentTable
  | refused (r : Refusal)
deriving DecidableEq, Repr

/-- BL, the block length mask (R59). -/
def Bat.bl (b : Bat) : BitVec 11 := b.upper.extractLsb' 2 11

/-- The pair is valid in the mode (R113). -/
def Bat.valid (b : Bat) (user : Bool) : Bool := if user then b.upper.getLsbD 0 else b.upper.getLsbD 1

/-- The pair matches an effective address (R113). -/
def Bat.covers (b : Bat) (user : Bool) (ea : Word) : Bool :=
  b.valid user && decide (ea.extractLsb' 28 4 = b.upper.extractLsb' 28 4) &&
    decide (ea.extractLsb' 17 11 &&& ~~~b.bl = b.upper.extractLsb' 17 11 &&& ~~~b.bl)

/-- The constraints R113 puts on a pair: BL a run of low-order ones that neither BEPI nor BRPN overlaps. -/
def Bat.wellFormed (b : Bat) : Bool :=
  decide (b.bl &&& (b.bl + 1) = 0) && decide (b.upper.extractLsb' 17 11 &&& b.bl = 0) &&
    decide (b.lower.extractLsb' 17 11 &&& b.bl = 0)

/-- The physical address (R113). -/
def Bat.physical (b : Bat) (ea : Word) : Word :=
  b.lower.extractLsb' 28 4 ++
    ((b.lower.extractLsb' 17 11 &&& ~~~b.bl) ||| (ea.extractLsb' 17 11 &&& b.bl)) ++ ea.extractLsb' 0 17

/-- PP (R59). -/
def Bat.pp (b : Bat) : BitVec 2 := b.lower.extractLsb' 0 2

/-- Translation by a pair that matches, with its protection (R114) and guarded fetches refused (R119). -/
def Bat.translate (b : Bat) (k : Access) (ea : Word) : Translation :=
  if !b.wellFormed then .refused .batMalformed
  else if k = .fetch ∧ b.lower.getLsbD 3 then .noExecute
  else if b.pp = 0 ∨ (k = .store ∧ b.pp ≠ 2) then .protection (b.lower.extractLsb' 3 4)
  else .mapped ⟨b.physical ea, b.lower.extractLsb' 3 4, none⟩

/-- The pairs that take part in translation (R111): pairs 4 to 7 on Broadway when HID4[25] is 1 (R60). -/
def State.bats (s : State) (k : Access) : List Bat :=
  let fetching := decide (k = .fetch)
  let all : List Bat := (List.finRange 8).map fun i =>
    if fetching then ⟨s.acting true (.ibatU i), s.acting true (.ibatL i)⟩
    else ⟨s.acting false (.dbatU i), s.acting false (.dbatL i)⟩
  if s.params.part = .broadway ∧ (s.acting fetching .hid4).getLsbD 25 then all else all.take 4

/-- The physical address of the page table entry group for a hash (R116). -/
def ptegAddress (sdr1 : Word) (hash : BitVec 19) : Word :=
  sdr1.extractLsb' 25 7 ++ (sdr1.extractLsb' 16 9 ||| (hash.extractLsb' 10 9 &&& sdr1.extractLsb' 0 9)) ++
    hash.extractLsb' 0 10 ++ 0#6

/-- A page table entry: its two words and the address of the second. -/
structure Pte where
  word0   : Word
  word1   : Word
  address : Word
deriving DecidableEq, Repr

/-- The entry at an address. -/
def Memory.pteAt (m : Memory) (a : Word) : Pte :=
  ⟨(beValue (m.readBytes a 4)).setWidth 32, (beValue (m.readBytes (a + 4) 4)).setWidth 32, a + 4⟩

/-- The eight entries of a group, in ascending order (R116). -/
def Memory.pteg (m : Memory) (group : Word) : List Pte :=
  (List.range 8).map fun i => m.pteAt (group + BitVec.ofNat 32 (8 * i))

/-- The entry translates the page: V, VSID, H and API agree (R116). -/
def Pte.matches (p : Pte) (vsid : BitVec 24) (secondary : Bool) (ea : Word) : Bool :=
  p.word0.getLsbD 31 && decide (p.word0.extractLsb' 7 24 = vsid) && (p.word0.getLsbD 6 == secondary) &&
    decide (p.word0.extractLsb' 0 6 = ea.extractLsb' 22 6)

/-- Two entries disagree: they differ in more than the reference and change bits (R116). -/
def Pte.disagrees (p q : Pte) : Bool := decide (p.word1 &&& 0xFFFFFE7F ≠ q.word1 &&& 0xFFFFFE7F)

/-- The primary hash of a page (R116). -/
def primaryHash (vsid : BitVec 24) (ea : Word) : BitVec 19 := vsid.extractLsb' 0 19 ^^^ (0#3 ++ ea.extractLsb' 12 16)

/-- The primary or the secondary hash (R116). -/
def pageHash (vsid : BitVec 24) (ea : Word) (secondary : Bool) : BitVec 19 :=
  if secondary then ~~~primaryHash vsid ea else primaryHash vsid ea

/-- The kinds of memory the `n` bytes from a physical address lie in (R109). -/
def State.kindsOf (s : State) (pa : Word) (n : Nat) : List RegionKind :=
  (List.range n).map (fun i => s.params.kindAt (byteAt pa i))

/-- The matching entries of one group (R116). -/
def State.groupMatches (s : State) (sdr1 : Word) (vsid : BitVec 24) (ea : Word) (secondary : Bool) : List Pte :=
  (s.mem.pteg (ptegAddress sdr1 (pageHash vsid ea secondary))).filter (fun p => p.matches vsid secondary ea)

/-- What a search of the page table finds. -/
inductive Search where
  | found (p : Pte)
  | missing
  | absent
  | refused (r : Refusal)
deriving DecidableEq, Repr

/-- The search of one group (R116): its first matching entry. A group that lies in a device or nowhere cannot be read. -/
def State.searchGroup (s : State) (sdr1 : Word) (vsid : BitVec 24) (ea : Word) (secondary : Bool) : Search :=
  let kinds := s.kindsOf (ptegAddress sdr1 (pageHash vsid ea secondary)) 64
  if .device ∈ kinds then .refused .pageTableNotMemory
  else if .absent ∈ kinds then .absent
  else
    match s.groupMatches sdr1 vsid ea secondary with
    | [] => .missing
    | p :: rest => if rest.any p.disagrees then .refused .pteConflict else .found p

/-- The search of the primary group and, if nothing there matches, of the secondary (R116). Two matches that disagree, in
one group or in both, are refused. -/
def State.search (s : State) (sdr1 : Word) (vsid : BitVec 24) (ea : Word) : Search :=
  match s.searchGroup sdr1 vsid ea false with
  | .missing => s.searchGroup sdr1 vsid ea true
  | .found p =>
    match s.searchGroup sdr1 vsid ea true with
    | .found q => if p.disagrees q then .refused .pteConflict else .found p
    | .refused .pteConflict => .refused .pteConflict
    | .missing | .absent | .refused _ => .found p
  | .absent => .absent
  | .refused r => .refused r

/-- The state before a change of the page table. -/
def State.undone (s : State) : TableChange → State
  | .word w old =>
    { s with mem := s.mem.writeBytes (BitVec.ofNat 32 (4 * w)) (beBytes 4 (old.setWidth 64)) }
  | .sdr1 old => { s with sdr1 := old }

/-- The state before the last `n` changes of the page table. -/
def State.tablesBefore (s : State) (n : Nat) : State := (s.tables.changes.take n).foldl State.undone s

/-- What translates a page (R116, R66, R861 (c)): what the search finds, or by a free choice what it found before some of
the last changes of the table. A TLB holds an entry it found since the last completed `tlbie` of its set; a search, found
or not, may itself be as old as the last `sync`. An entry the search no longer finds is not marked. -/
def State.pageEntry (s : State) (fetching : Bool) (vsid : BitVec 24) (ea : Word) : Search × Option Word :=
  let now := s.search (s.acting fetching .sdr1) vsid ea
  let marked (r : Search) : Option Word :=
    match r, now with
    | .found p, .found q => if p.address = q.address then some q.address else none
    | _, _ => none
  match s.tables.changes with
  | [] => (now, marked now)
  | _ :: _ =>
    let age := Config.tableChoice s.time fetching ea
    let before := s.tablesBefore age
    let old := if age = 0 then now else before.search before.sdr1 vsid ea
    let limit :=
      match old with
      | .found _ => s.tables.cleared.get (tlbSet ea)
      | .missing | .absent | .refused _ => s.tables.synced
    if age + limit ≤ s.tables.changes.length then (old, marked old) else (now, marked now)

/-- The page's protection lets the access through (R117). -/
def pageAllows (key : Bool) (pp : BitVec 2) (k : Access) : Bool :=
  if k = .store then (if key then pp == 2 else pp != 3) else !(key && pp == 0)

/-- Translation by segment register and page table (R115 to R119). -/
def State.translatePaged (s : State) (k : Access) (ea : Word) : Translation :=
  let fetching := decide (k = .fetch)
  let seg := s.acting fetching (.sr (ea.extractLsb' 28 4).toFin)
  if seg.getLsbD 31 then .refused .directStoreSegment
  else if k = .fetch ∧ seg.getLsbD 28 then .noExecute
  else
    let found := s.pageEntry fetching (seg.extractLsb' 0 24) ea
    match found.1 with
    | .refused r => .refused r
    | .absent => .absentTable
    | .missing => .pageFault
    | .found p =>
      if k = .fetch ∧ p.word1.getLsbD 3 then .noExecute
      else if pageAllows (if s.userFor fetching then seg.getLsbD 29 else seg.getLsbD 30) (p.word1.extractLsb' 0 2) k then
        .mapped ⟨p.word1.extractLsb' 12 20 ++ ea.extractLsb' 0 12, p.word1.extractLsb' 3 4, found.2⟩
      else .protection (p.word1.extractLsb' 3 4)

/-- Translation is on for the kind of access (R101). -/
def State.translating (s : State) (k : Access) : Bool := if k = .fetch then s.msrIr else s.msrDr

/-- Real mode (R110): the physical address is the effective one, WIMG is 0b0001 for a fetch and 0b0011 for data. -/
def realMode (k : Access) (ea : Word) : Mapped := ⟨ea, if k = .fetch then 1 else 3, none⟩

/-- Translation and protection of one address (R110, R111). -/
def State.translate (s : State) (k : Access) (ea : Word) : Translation :=
  if !s.translating k then .mapped (realMode k ea)
  else
    match (s.bats k).filter (fun b => b.covers (s.userFor (decide (k = .fetch))) ea) with
    | [] => s.translatePaged k ea
    | [b] => b.translate k ea
    | _ :: _ :: _ => .refused .batConflict

/-- The reference and change bits of the page (R118): an access sets R, a store sets C too. -/
def State.touch (s : State) (k : Access) (pte : Option Word) : State :=
  match pte with
  | none => s
  | some a =>
    let r := s.mem.read (byteAt a 2)
    let c := s.mem.read (byteAt a 3)
    let m := if r.getLsbD 0 then s.mem else s.mem.write (byteAt a 2) (r ||| 0x01)
    { s with mem := if k = .store ∧ !c.getLsbD 7 then m.write (byteAt a 3) (c ||| 0x80) else m }

/-! ### Data accesses (R129) -/

/-- The address matches the data address breakpoint (R778, item DABR). -/
def State.dabrMatches (s : State) (k : Access) (ea : Word) : Bool :=
  let dabr := s.acting false .dabr
  decide (dabr.extractLsb' 3 29 = ea.extractLsb' 3 29) && (dabr.getLsbD 2 == s.msrDr) &&
    (if k = .store then dabr.getLsbD 1 else dabr.getLsbD 0)

/-- The DSISR bit of a store (R778). -/
def storeBit (k : Access) : Word := if k = .store then 0x02000000 else 0

/-- The translation a data access needs, or the exception it raises (R778). -/
def State.dataMap (s : State) (k : Access) (ea : Word) : Res Mapped :=
  match s.translate k ea with
  | .mapped m => .ok m s
  | .pageFault => .stop (raiseDsi ea (0x40000000 ||| storeBit k) s)
  | .protection _ | .noExecute => .stop (raiseDsi ea (0x08000000 ||| storeBit k) s)
  | .absentTable => .stop (absentAddress s)
  | .refused r => .stop (.refused r)

/-- What `MemMap` lets an access of `n` bytes at `m.pa` do (R100, R105, R108, R109). `aligned` is whether the whole
access is aligned. -/
def State.regionCheck (s : State) (k : Access) (m : Mapped) (n : Nat) (aligned : Bool) : Res Unit :=
  let kinds := s.kindsOf m.pa n
  if .absent ∈ kinds then .stop (absentAddress s)
  else if .device ∈ kinds ∧ !(m.inhibited && m.guarded) then .stop (.refused .deviceAttributes)
  else if .device ∈ kinds ∧ !(aligned && decide (∀ x ∈ kinds, x = .device)) then .stop (.refused .deviceMisaligned)
  else if .rom ∈ kinds ∧ k = .store then .stop (.refused .romStore)
  else .ok () s

/-- Translation, protection and the data address breakpoint of one part of an access (R129 (2) to (4)). -/
def State.dataCheck (s : State) (k : Access) (ea : Word) : Res Mapped :=
  (s.dataMap k ea).bind fun m s =>
    if s.dabrMatches k ea then .stop (raiseDsi ea (0x00400000 ||| storeBit k) s) else .ok m s

/-- The checks of R129 for one part of an access, and of what lies at the physical address. -/
def State.mapPart (s : State) (k : Access) (ea : Word) (n : Nat) (aligned : Bool) : Res Mapped :=
  (s.dataCheck k ea).bind fun m s => (s.regionCheck k m n aligned).bind fun _ s => .ok m s

/-- The checks for one part of an access. Where all pass, the page's reference and change bits are set (R118). -/
def State.checkPart (s : State) (k : Access) (ea : Word) (n : Nat) (aligned : Bool) : Res Mapped :=
  (s.mapPart k ea n aligned).bind fun m s => .ok m (s.touch k m.pte)

/-- The access goes to a device (R108). -/
def State.toDevice (s : State) (m : Mapped) (n : Nat) : Bool := decide (.device ∈ s.kindsOf m.pa n)

/-- A version of a byte that was stored to, by a free choice (R860 (f)). -/
def State.versionByte (s : State) (e : DirtyWord) (a : Nat) : Byte :=
  match e.olds[Config.versionChoice s.time a]? with
  | some old => old.extractLsb' (8 * (3 - a % 4)) 8
  | none => s.mem.read a

/-- The byte a load gets from memory: the last one stored (R130 (a)), but for a word that was stored to through a mapping
with other attributes W or I and not flushed since (R860 (f)), and for one that the data cache is dropping (R860 (e)). -/
def State.loadByte (s : State) (m : Mapped) (a : Nat) : Byte :=
  match s.dirty.find? (fun e => e.word = a / 4) with
  | none => s.mem.read a
  | some e =>
    if e.mixed || decide (e.attr ≠ m.attr) || (e.cached && s.dropping) then s.versionByte e a else s.mem.read a

/-- The bytes a load that passed its checks gets. A device answers as the environment says (D6). -/
def State.loaded (s : State) (m : Mapped) (n : Nat) : List Byte :=
  (List.range n).map fun i =>
    if s.toDevice m n then Config.deviceByte s.bus.length (byteAt m.pa i) else s.loadByte m (byteAt m.pa i)

/-- The state after a load that passed its checks: a device was read exactly once (R108). -/
def State.afterLoad (s : State) (m : Mapped) (n : Nat) : State :=
  if s.toDevice m n then { s with bus := ⟨false, m.pa, s.loaded m n⟩ :: s.bus } else s

/-- The state after a store that passed its checks: bytes in memory, or a device written exactly once (R108). -/
def State.afterStore (s : State) (m : Mapped) (bs : List Byte) : State :=
  if s.toDevice m bs.length then { s with bus := ⟨true, m.pa, bs⟩ :: s.bus } else s.storePhys m bs

/-- The parts of an access of `n` bytes: it is cut at a page boundary (R129). -/
def accessParts (ea : Word) (n : Nat) : List (Word × Nat) :=
  let room := 4096 - ea.toNat % 4096
  if n ≤ room then [(ea, n)] else [(ea, room), (ea + BitVec.ofNat 32 room, n - room)]

/-- The access is aligned to its width (R105). -/
def alignedTo (ea : Word) (n : Nat) : Bool := decide (ea.toNat % n = 0)

/-- Read the parts of an access in ascending order. -/
def State.readParts (s : State) (aligned : Bool) : List (Word × Nat) → Res (List Byte)
  | [] => .ok [] s
  | (ea, n) :: rest =>
    (s.checkPart .load ea n aligned).bind fun m s =>
      ((s.afterLoad m n).readParts aligned rest).bind fun bs s' => .ok (s.loaded m n ++ bs) s'

/-- `MemRead(ea, n)` (R13, R129): the bytes assembled big-endian. -/
def State.memRead (s : State) (ea : Word) (n : Nat) : Res (BitVec 64) :=
  (s.readParts (alignedTo ea n) (accessParts ea n)).bind fun bs s => .ok (beValue bs) s

/-- Write the parts of an access in ascending order. A part that fails leaves the earlier ones written (R129). -/
def State.writeParts (s : State) (aligned : Bool) : List (Word × Nat) → List Byte → Res Unit
  | [], _ => .ok () s
  | (ea, n) :: rest, bs =>
    (s.checkPart .store ea n aligned).bind fun m s =>
      (s.afterStore m (bs.take n)).writeParts aligned rest (bs.drop n)

/-- `MemWrite(ea, n, v)` (R13, R129). -/
def State.memWrite (s : State) (ea : Word) (n : Nat) (v : BitVec 64) : Res Unit :=
  s.writeParts (alignedTo ea n) (accessParts ea n) (beBytes n v)

/-- Two accesses of one instruction, the lower first: both are translated and checked before either is performed, so that
an exception leaves no effect (R14, R770, R778). -/
def State.mapPair (s : State) (k : Access) (ea0 ea1 : Word) (n : Nat) (aligned : Bool) : Res (Mapped × Mapped) :=
  (s.mapPart k ea0 n aligned).bind fun m0 s =>
    (s.mapPart k ea1 n aligned).bind fun m1 s => .ok (m0, m1) ((s.touch k m0.pte).touch k m1.pte)

/-- Two loads of `n` bytes by one instruction. -/
def State.loadPair (s : State) (ea0 ea1 : Word) (n : Nat) (aligned : Bool) : Res (BitVec 64 × BitVec 64) :=
  (s.mapPair .load ea0 ea1 n aligned).bind fun m s =>
    let t := s.afterLoad m.1 n
    .ok (beValue (s.loaded m.1 n), beValue (t.loaded m.2 n)) (t.afterLoad m.2 n)

/-- Two stores of `n` bytes by one instruction. -/
def State.storePair (s : State) (ea0 ea1 : Word) (n : Nat) (aligned : Bool) (v0 v1 : BitVec 64) : Res Unit :=
  (s.mapPair .store ea0 ea1 n aligned).bind fun m s =>
    .ok () ((s.afterStore m.1 (beBytes n v0)).afterStore m.2 (beBytes n v1))

/-! ### Fetching (R128, R150) -/

/-- The instruction address breakpoint (R787). -/
def State.iabrMatches (s : State) : Bool :=
  let iabr := s.acting true .iabr
  iabr.getLsbD 1 && decide (iabr.extractLsb' 2 30 = s.pc.extractLsb' 2 30) && (iabr.getLsbD 0 == s.msrIr)

/-- The word a fetch returns from a physical address: memory's, or where an older version may
still be cached one of the versions, by a draw (R140). -/
def State.fetchPhys (s : State) (pa : Word) : Res Word :=
  let new : Word := (beValue (s.mem.readBytes pa 4)).setWidth 32
  match s.stale.find? (fun e => e.word = pa.toNat / 4) with
  | none => .ok new s
  | some e =>
    .ok (e.olds.getD (s.free.toNat % (e.olds.length + 1)) new) s.drawn

/-- `Fetch(pc)` (R13, R128). All four bytes must lie in RAM or ROM: as for a data access, one absent byte makes the fetch
a machine check, and one in a device has it refused (DESIGN CHOICE, assumptions 14 and 16). -/
def State.fetch (s : State) : Res Word :=
  match s.translate .fetch s.pc with
  | .mapped m =>
    if .absent ∈ s.kindsOf m.pa 4 then .stop (absentAddress s)
    else if .device ∈ s.kindsOf m.pa 4 then .stop (.refused .deviceAttributes)
    else (s.touch .fetch m.pte).fetchPhys m.pa
  | .pageFault => .stop (raiseIsi 0x40000000 s)
  | .noExecute => .stop (raiseIsi 0x10000000 s)
  | .protection _ => .stop (raiseIsi 0x08000000 s)
  | .absentTable => .stop (absentAddress s)
  | .refused r => .stop (.refused r)

end Sys2Proof.Machine
end

