-- ==== Sys2Proof/Machine/Operands.lean ====
section
/-! DEFINITION. The operand forms: immediates, effective addresses, shifts, masks and branch targets (00_scope.md R10
to R12, 30_encoding.md R165). -/

namespace Sys2Proof.Machine

/-! ### Immediates (R165) -/

/-- SIMM and d: sign-extended (R165 (a), (e)). -/
def simm32 (v : BitVec 16) : Word := v.signExtend 32

/-- UIMM: zero-extended (R165 (c)). -/
def uimm32 (v : BitVec 16) : Word := v.setWidth 32

/-- A shifted immediate: the 16 bits above 16 zeros (R165 (b), (d)). -/
def shifted32 (v : BitVec 16) : Word := v ++ 0#16

/-- d12: sign-extended (R165 (f)). -/
def d12Ext (v : BitVec 12) : Word := v.signExtend 32

/-- LI: a byte displacement (R165 (g)). -/
def liExt (v : BitVec 24) : Word := (v ++ 0#2).signExtend 32

/-- BD: a byte displacement (R165 (h)). -/
def bdExt (v : BitVec 14) : Word := (v ++ 0#2).signExtend 32

/-! ### Effective addresses (R350, R666) -/

/-- `(rA|0) + sext_32(d)`. -/
def State.eaD (s : State) (rA : Reg) (d : BitVec 16) : Word := s.xOr0 rA + simm32 d

/-- `x[rA] + sext_32(d)`, the address of an update form. -/
def State.eaDu (s : State) (rA : Reg) (d : BitVec 16) : Word := s.x rA + simm32 d

/-- `(rA|0) + x[rB]`. -/
def State.eaX (s : State) (rA rB : Reg) : Word := s.xOr0 rA + s.x rB

/-- `x[rA] + x[rB]`, the address of an update form. -/
def State.eaXu (s : State) (rA rB : Reg) : Word := s.x rA + s.x rB

/-- `(rA|0) + sext_32(d12)` of the quantized forms. -/
def State.eaQ (s : State) (rA : Reg) (d : BitVec 12) : Word := s.xOr0 rA + d12Ext d

/-- `x[rA] + sext_32(d12)` of the quantized update forms. -/
def State.eaQu (s : State) (rA : Reg) (d : BitVec 12) : Word := s.x rA + d12Ext d

/-- The first byte of the 32-byte block that holds an address (R550). -/
def blockBase (ea : Word) : Word := ea &&& 0xFFFFFFE0

/-! ### Shifts, rotates and masks (R10) -/

/-- `ROTL32(v, n)`. -/
def rotl32 (v : Word) (n : BitVec 5) : Word := v <<< n.toNat ||| v >>> (32 - n.toNat)

/-- The bits `hi` down to `lo`, LSB-0. -/
def onesBetween (hi lo : Nat) : Word := (0xFFFFFFFF#32 >>> (31 - hi)) &&& (0xFFFFFFFF#32 <<< lo)

/-- `MASK(mb, me)`: ones at PowerPC bits mb through me, wrapping round when mb > me. -/
def maskMbMe (mb me : BitVec 5) : Word :=
  let hi := 31 - mb.toNat
  let lo := 31 - me.toNat
  if lo ≤ hi then onesBetween hi lo else onesBetween 31 lo ||| onesBetween hi 0

/-- The result and carry of an algebraic right shift by `n` (R272, R273). -/
def shiftRightAlgebraic (v : Word) (n : Nat) : Word × Bool :=
  (v.sshiftRight n, v.msb && decide (v &&& ~~~(0xFFFFFFFF#32 <<< n) ≠ 0))

/-- Leading zero bits of a word, counted from bit `n - 1` down (R745). -/
def leadingZeros (v : Word) : Nat → Nat
  | 0 => 0
  | n + 1 => if v.getLsbD n then 0 else leadingZeros v n + 1

/-! ### Branches (R310, R311) -/

/-- A branch target: absolute or relative to `pc` (R310, R312). -/
def State.branchTarget (s : State) (aa : Bool) (d : Word) : Word := if aa then d else s.pc + d

/-- A target held in a register: its two low bits are ignored (R32, R313). -/
def wordTarget (v : Word) : Word := v &&& 0xFFFFFFFC

/-- CTR after the decrement R311 asks for when `BO[2]` is 0. -/
def State.ctrAfter (s : State) (bo : BitVec 5) : Word := if bo.getLsbD 2 then s.ctr else s.ctr - 1

/-- `ctr_ok` of R311, with CTR read after the decrement. -/
def State.ctrOk (s : State) (bo : BitVec 5) : Bool :=
  bo.getLsbD 2 || (decide (s.ctrAfter bo ≠ 0) ^^ bo.getLsbD 1)

/-- `CRbit(b)`: PowerPC bit b of CR (R11). -/
def State.crBit (s : State) (b : CrBit) : Bool := s.cr.getLsbD (31 - b.toNat)

/-- `cond_ok` of R311. -/
def State.condOk (s : State) (bo : BitVec 5) (bi : CrBit) : Bool :=
  bo.getLsbD 4 || (s.crBit bi == bo.getLsbD 3)

/-- LR after a branch: the next address if LK is 1 (R35). -/
def State.lrAfter (s : State) (lk : Bool) : Word := if lk then s.pc + 4 else s.lr

end Sys2Proof.Machine
end

