-- ==== Sys2Proof/Machine/Flags.lean ====
section
/-! DEFINITION. The flag computations: condition register fields and XER (10_state.md R34, R37, 00_scope.md R15). -/

namespace Sys2Proof.Machine

/-- A word with bit `i` (LSB-0) set to `b`. -/
def setBit (v : Word) (i : Nat) (b : Bool) : Word :=
  if b then v ||| (1#32 <<< i) else v &&& ~~~(1#32 <<< i)

/-! ### XER (R37) -/

/-- XER[SO]. -/
def State.so (s : State) : Bool := s.xer.getLsbD 31
/-- XER[OV]. -/
def State.ov (s : State) : Bool := s.xer.getLsbD 30
/-- XER[CA]. -/
def State.ca (s : State) : Bool := s.xer.getLsbD 29

/-- `XER[CA] <- c`. -/
def State.setCa (s : State) (c : Bool) : State := { s with xer := setBit s.xer 29 c }

/-- `SetOV(ov)`: OV becomes `ov`, and SO is set if `ov` is (R15). -/
def State.setOv (s : State) (ov : Bool) : State :=
  { s with xer := setBit (setBit s.xer 30 ov) 31 (s.so || ov) }

/-- The byte count `XER[6:0]`. -/
def State.xerCount (s : State) : Nat := (s.xer.extractLsb' 0 7).toNat

/-- What a read of XER returns: its reserved bits are draws once one of them was written non-zero (R37). -/
def State.xerRead (s : State) : Word :=
  if s.xerReservedWritten then (s.xer &&& 0xE000007F) ||| (s.free.setWidth 32 &&& 0x1FFFFF80) else s.xer

/-- The state after a read of XER. -/
def State.afterXerRead (s : State) : State := if s.xerReservedWritten then s.drawn else s

/-- `XER <- v`: what is written to the reserved bits is only remembered as a fact (R37). -/
def State.writeXer (s : State) (v : Word) : State :=
  { s with
    xer := v &&& 0xE000007F
    xerReservedWritten := s.xerReservedWritten || decide (v &&& 0x1FFFFF80 ≠ 0) }

/-! ### The condition register (R34) -/

/-- `CRF(n)`. -/
def State.crf (s : State) (n : CrField) : BitVec 4 := s.cr.extractLsb' (28 - 4 * n.toNat) 4

/-- A word with the 4-bit field `n`, counted from the most significant, replaced. -/
def replaceField (w : Word) (n : CrField) (v : BitVec 4) : Word :=
  let sh := 28 - 4 * n.toNat
  (w &&& ~~~(0xF#32 <<< sh)) ||| (v.setWidth 32 <<< sh)

/-- `CRF(n) <- v`. -/
def State.setCrf (s : State) (n : CrField) (v : BitVec 4) : State := { s with cr := replaceField s.cr n v }

/-- `CRbit(b) <- v`. -/
def State.setCrBit (s : State) (b : CrBit) (v : Bool) : State := { s with cr := setBit s.cr (31 - b.toNat) v }

/-- LT ‖ GT ‖ EQ ‖ SO. -/
def crBits (lt gt eq so : Bool) : BitVec 4 :=
  BitVec.ofBool lt ++ BitVec.ofBool gt ++ BitVec.ofBool eq ++ BitVec.ofBool so

/-- The field a signed compare gives (R300, R301). -/
def signedCompare (a b : Word) (so : Bool) : BitVec 4 := crBits (a.slt b) (b.slt a) (a == b) so

/-- The field an unsigned compare gives (R300, R303). -/
def unsignedCompare (a b : Word) (so : Bool) : BitVec 4 := crBits (a.ult b) (b.ult a) (a == b) so

/-- `RecordCR0(r)`: r compared with 0 as a signed number, and XER[SO] (R15). -/
def State.recordCr0 (s : State) (r : Word) : State := s.setCrf 0 (signedCompare r 0 s.so)

/-- `RecordCR0(r)` if Rc is 1. -/
def State.recordIf (s : State) (rc : Bool) (r : Word) : State := if rc then s.recordCr0 r else s

/-- `SetOV(ov)` if OE is 1. -/
def State.setOvIf (s : State) (oe ov : Bool) : State := if oe then s.setOv ov else s

end Sys2Proof.Machine
end

