-- ==== Sys2Proof/Machine/Branch.lean ====
section
/-! DEFINITION. The compares and branches (42_compare_branch.md). A compare with L = 1 and a branch with reserved
options are invalid forms: `step` refuses them before they reach a meaning (R185). -/

namespace Sys2Proof.Machine

/-- `cmp` (R301). -/
def execCmp (crfD : CrField) (_l : Bool) (rA rB : Reg) (s : State) : Out :=
  retire (s.setCrf crfD (signedCompare (s.x rA) (s.x rB) s.so))

/-- `cmpi` (R302). -/
def execCmpi (crfD : CrField) (_l : Bool) (rA : Reg) (simm : BitVec 16) (s : State) : Out :=
  retire (s.setCrf crfD (signedCompare (s.x rA) (simm32 simm) s.so))

/-- `cmpl` (R303). -/
def execCmpl (crfD : CrField) (_l : Bool) (rA rB : Reg) (s : State) : Out :=
  retire (s.setCrf crfD (unsignedCompare (s.x rA) (s.x rB) s.so))

/-- `cmpli` (R304). -/
def execCmpli (crfD : CrField) (_l : Bool) (rA : Reg) (uimm : BitVec 16) (s : State) : Out :=
  retire (s.setCrf crfD (unsignedCompare (s.x rA) (uimm32 uimm) s.so))

/-- `b` (R310). -/
def execB (li : BitVec 24) (aa lk : Bool) (s : State) : Out :=
  retireBranch (s.branchTarget aa (liExt li)) { s with lr := s.lrAfter lk }

/-- The end of a conditional branch (R311): CTR and LR are written whether or not it is taken. -/
def State.branchIf (s : State) (bo : BitVec 5) (bi : CrBit) (target : Word) (lk : Bool) : Out :=
  retireBranch (if s.ctrOk bo && s.condOk bo bi then target else s.pc + 4)
    { s with ctr := s.ctrAfter bo, lr := s.lrAfter lk }

/-- `bc` (R312). -/
def execBc (bo : BitVec 5) (bi : CrBit) (bd : BitVec 14) (aa lk : Bool) (s : State) : Out :=
  s.branchIf bo bi (s.branchTarget aa (bdExt bd)) lk

/-- `bclr` (R313): the target is read from LR before the link value is written. -/
def execBclr (bo : BitVec 5) (bi : CrBit) (lk : Bool) (s : State) : Out :=
  s.branchIf bo bi (wordTarget s.lr) lk

/-- `bcctr` (R314): CTR is not written. -/
def execBcctr (bo : BitVec 5) (bi : CrBit) (lk : Bool) (s : State) : Out :=
  retireBranch (if s.condOk bo bi then wordTarget s.ctr else s.pc + 4) { s with lr := s.lrAfter lk }

end Sys2Proof.Machine
end

