-- ==== Sys2Proof/Machine/Cache.lean ====
section
/-! DEFINITION. The cache instructions (46_cache_spr_fpscr_cr.md R550 to R557) and `dcbz_l` (49_supplement_unlisted.md
R749). The block is the 32 bytes at `ea` with its five low bits cleared; a fault names the block's first byte. -/

namespace Sys2Proof.Machine

/-- `dcbf` (R551): checked as a load. -/
def execDcbf (rA rB : Reg) (s : State) : Out :=
  (s.dataMap .load (blockBase (s.eaX rA rB))).finish fun m s => retire (s.blockStored true m.pa)

/-- `dcbi` (R552): privileged, checked as a store. -/
def execDcbi (rA rB : Reg) (s : State) : Out :=
  privileged s ((s.dataMap .store (blockBase (s.eaX rA rB))).finish fun m s => retire (s.blockDiscarded m.pa))

/-- `dcbst` (R553): checked as a load. -/
def execDcbst (rA rB : Reg) (s : State) : Out :=
  (s.dataMap .load (blockBase (s.eaX rA rB))).finish fun m s => retire (s.blockStored false m.pa)

/-- `dcbt` (R554): a hint without an effect, which never raises. -/
def execDcbt (_rA _rB : Reg) (s : State) : Out := retire s

/-- `dcbtst` (R555): a hint without an effect, which never raises. -/
def execDcbtst (_rA _rB : Reg) (s : State) : Out := retire s

/-- The block is caching-inhibited or write-through (R556). What the attributes are is known even where protection
refuses the store; with no translation there are none. -/
def State.blockUncached (s : State) (b : Word) : Bool :=
  match s.translate .store b with
  | .mapped m => m.inhibited || m.writeThrough
  | .protection wimg => wimg.getLsbD 2 || wimg.getLsbD 3
  | .pageFault | .noExecute | .absentTable | .refused _ => false

/-- `dcbz` (R556): the alignment exception comes before the checks of the store (R792). The 32 bytes are one access. -/
def execDcbz (rA rB : Reg) (s : State) : Out :=
  let ea := s.eaX rA rB
  let b := blockBase ea
  if !s.dce || s.blockUncached b then raiseAlignment (.dcbz rA rB) false ea s
  else
    (s.dataMap .store b).finish fun m s =>
      if s.dabrMatches .store ea then raiseDsi ea 0x02400000 s
      else if .device ∈ s.kindsOf m.pa 32 ∨ .absent ∈ s.kindsOf m.pa 32 then .refused .dcbzNotMemory
      else if .rom ∈ s.kindsOf m.pa 32 then .refused .romStore
      else retire ((s.touch .store m.pte).storePhys m (List.replicate 32 0))

/-- `icbi` (R557): checked as a load. -/
def execIcbi (rA rB : Reg) (s : State) : Out :=
  (s.dataMap .load (blockBase (s.eaX rA rB))).finish fun m s => retire (s.blockInvalidated m.pa)

/-- `dcbz_l` (R749): illegal unless paired singles and the locked cache are enabled, and then refused (D28). -/
def execDcbzL (_rA _rB : Reg) (s : State) : Out :=
  if !s.pse || !s.lce then raiseProgram .illegalInstruction s else .refused .lockedCacheZero

end Sys2Proof.Machine
end

