-- ==== Sys2Proof/Machine/CondReg.lean ====
section
/-! DEFINITION. The condition-register instructions (46_cache_spr_fpscr_cr.md R590 to R599) and `mcrxr`
(49_supplement_unlisted.md R748). -/

namespace Sys2Proof.Machine

/-- A logical operation of two CR bits into a third: no other bit changes (R590). -/
def State.crLogical (s : State) (op : Bool → Bool → Bool) (crbD crbA crbB : CrBit) : Out :=
  retire (s.setCrBit crbD (op (s.crBit crbA) (s.crBit crbB)))

/-- `crand` (R591). -/
def execCrand (crbD crbA crbB : CrBit) (s : State) : Out := s.crLogical (fun a b => a && b) crbD crbA crbB
/-- `crandc` (R592). -/
def execCrandc (crbD crbA crbB : CrBit) (s : State) : Out := s.crLogical (fun a b => a && !b) crbD crbA crbB
/-- `creqv` (R593). -/
def execCreqv (crbD crbA crbB : CrBit) (s : State) : Out := s.crLogical (fun a b => !(a ^^ b)) crbD crbA crbB
/-- `crnand` (R594). -/
def execCrnand (crbD crbA crbB : CrBit) (s : State) : Out := s.crLogical (fun a b => !(a && b)) crbD crbA crbB
/-- `crnor` (R595). -/
def execCrnor (crbD crbA crbB : CrBit) (s : State) : Out := s.crLogical (fun a b => !(a || b)) crbD crbA crbB
/-- `cror` (R596). -/
def execCror (crbD crbA crbB : CrBit) (s : State) : Out := s.crLogical (fun a b => a || b) crbD crbA crbB
/-- `crorc` (R597). -/
def execCrorc (crbD crbA crbB : CrBit) (s : State) : Out := s.crLogical (fun a b => a || !b) crbD crbA crbB
/-- `crxor` (R598). -/
def execCrxor (crbD crbA crbB : CrBit) (s : State) : Out := s.crLogical (fun a b => a ^^ b) crbD crbA crbB

/-- `mcrf` (R599). -/
def execMcrf (crfD crfS : CrField) (s : State) : Out := retire (s.setCrf crfD (s.crf crfS))

/-- `mcrxr` (R748): SO, OV, CA and the reserved bit below them move to a CR field and are cleared. -/
def execMcrxr (crfD : CrField) (s : State) : Out :=
  retire ({ s.afterXerRead with xer := s.xer &&& 0x0FFFFFFF }.setCrf crfD (s.xerRead.extractLsb' 28 4))

end Sys2Proof.Machine
end

