-- ==== Sys2Proof/Machine/FpNumerics.lean ====
section
/-! DEFINITION. The floating-point numeric model (44_fp_numerics.md): exact values, rounding, and what an operation does
to FPSCR. Every function here is total on 64-bit lanes in double format. -/

namespace Sys2Proof.Machine

/-! ### FPSCR bits (R48) -/

/-- FX. -/
def fxBit : Word := 0x80000000
/-- OX. -/
def oxBit : Word := 0x10000000
/-- UX. -/
def uxBit : Word := 0x08000000
/-- ZX. -/
def zxBit : Word := 0x04000000
/-- XX. -/
def xxBit : Word := 0x02000000
/-- VXSNAN. -/
def vxsnanBit : Word := 0x01000000
/-- VXISI. -/
def vxisiBit : Word := 0x00800000
/-- VXIDI. -/
def vxidiBit : Word := 0x00400000
/-- VXZDZ. -/
def vxzdzBit : Word := 0x00200000
/-- VXIMZ. -/
def vximzBit : Word := 0x00100000
/-- VXVC. -/
def vxvcBit : Word := 0x00080000
/-- VXSQRT. -/
def vxsqrtBit : Word := 0x00000200
/-- VXCVI. -/
def vxcviBit : Word := 0x00000100
/-- All the VX bits: VXSNAN, VXISI, VXIDI, VXZDZ, VXIMZ, VXVC, VXSOFT, VXSQRT, VXCVI. -/
def vxBits : Word := 0x01F80700
/-- The exception bits: OX, UX, ZX, XX and the VX bits. -/
def exceptionBits : Word := 0x1FF80700

/-- FPSCR[VE]. -/
def veOf (fpscr : Word) : Bool := fpscr.getLsbD 7
/-- FPSCR[OE]. -/
def oeOf (fpscr : Word) : Bool := fpscr.getLsbD 6
/-- FPSCR[UE]. -/
def ueOf (fpscr : Word) : Bool := fpscr.getLsbD 5
/-- FPSCR[ZE]. -/
def zeOf (fpscr : Word) : Bool := fpscr.getLsbD 4
/-- FPSCR[NI]. -/
def niOf (fpscr : Word) : Bool := fpscr.getLsbD 2
/-- FPSCR[RN]. -/
def rnOf (fpscr : Word) : BitVec 2 := fpscr.extractLsb' 0 2
/-- FPSCR[FEX]. -/
def fexOf (fpscr : Word) : Bool := fpscr.getLsbD 30

/-- FPSCR with its computed bits: VX and FEX recomputed (R49) and the reserved bit 11 clear (R48). -/
def summarize (v : Word) : Word :=
  let vx : Bool := decide (v &&& vxBits ≠ 0)
  let fex : Bool :=
    (vx && v.getLsbD 7) || (v.getLsbD 28 && v.getLsbD 6) || (v.getLsbD 27 && v.getLsbD 5) ||
      (v.getLsbD 26 && v.getLsbD 4) || (v.getLsbD 25 && v.getLsbD 3)
  setBit (setBit (setBit v 29 vx) 30 fex) 11 false

/-- FPSCR after an instruction raises exception bits: FX is set if one of them was 0 (R433). -/
def raiseBits (fpscr raised : Word) : Word :=
  let new := raised &&& exceptionBits
  summarize (fpscr ||| new ||| (if new &&& ~~~fpscr ≠ 0 then fxBit else 0))

/-- FPSCR with FR, FI and, where given, FPRF replaced (R48). -/
def setRounding (fpscr : Word) (fr fi : Bool) (fprf : Option (BitVec 5)) : Word :=
  let v := setBit (setBit fpscr 18 fr) 17 fi
  match fprf with
  | some c => (v &&& 0xFFFE0FFF) ||| (c.setWidth 32 <<< 12)
  | none => v

/-! ### Formats (R420 to R422) -/

/-- The exponent field of a double. -/
def expField (v : Lane) : Nat := (v.extractLsb' 52 11).toNat
/-- The fraction field of a double. -/
def fracField (v : Lane) : Nat := (v.extractLsb' 0 52).toNat

/-- A NaN (R420). -/
def isNan (v : Lane) : Bool := expField v == 2047 && fracField v != 0
/-- A signalling NaN (R421). -/
def isSnan (v : Lane) : Bool := isNan v && !v.getLsbD 51
/-- `Quiet(v)` (R421). -/
def quiet (v : Lane) : Lane := v ||| 0x0008000000000000
/-- The default quiet NaN (R421). -/
def defaultNan : Lane := 0x7FF8000000000000

/-- The value a lane holds: a finite one is `(-1)^neg * mant * 2^exp`. -/
inductive Fp where
  | zero (neg : Bool)
  | finite (neg : Bool) (mant : Nat) (exp : Int)
  | inf (neg : Bool)
  | nan
deriving DecidableEq, Repr

/-- The value of a double-format lane (R420). -/
def unpack (v : Lane) : Fp :=
  let neg := v.getLsbD 63
  if expField v = 2047 then if fracField v = 0 then .inf neg else .nan
  else if expField v = 0 then if fracField v = 0 then .zero neg else .finite neg (fracField v) (-1074)
  else .finite neg (2 ^ 52 + fracField v) (expField v - 1075)

/-- The sign of a value. -/
def Fp.neg : Fp → Bool
  | .zero n | .finite n _ _ | .inf n => n
  | .nan => false

/-- Lay out sign, exponent field and fraction field. -/
def layout (neg : Bool) (expo frac : Nat) : Lane :=
  BitVec.ofBool neg ++ BitVec.ofNat 11 expo ++ BitVec.ofNat 52 frac

/-- A signed infinity. -/
def infinity (neg : Bool) : Lane := layout neg 2047 0

/-- The double-format image of `(-1)^neg * n * 2^q`, a value the format holds exactly. -/
def pack (neg : Bool) (n : Nat) (q : Int) : Lane :=
  if n = 0 then layout neg 0 0
  else
    let e := q + n.log2
    if -1022 ≤ e then layout neg (e + 1023).toNat (n * 2 ^ (52 - n.log2) - 2 ^ 52)
    else layout neg 0 (n * 2 ^ (q + 1074).toNat)

/-- `DoubleFromSingle` (R530): the double-format image of a single. -/
def doubleFromSingle (w : Word) : Lane :=
  let neg := w.getLsbD 31
  let e := (w.extractLsb' 23 8).toNat
  let f := (w.extractLsb' 0 23).toNat
  if e = 255 then layout neg 2047 (f * 2 ^ 29)
  else if e = 0 then pack neg f (-149)
  else layout neg (e + 896) (f * 2 ^ 29)

/-- The lane is single-representable (R422). -/
def singleRepresentable (v : Lane) : Bool :=
  match unpack v with
  | .zero _ | .inf _ => true
  | .nan => decide (fracField v % 2 ^ 29 = 0)
  | .finite _ mant exp =>
    let e := exp + mant.log2
    decide (-149 ≤ e ∧ e ≤ 127) && decide (mant % 2 ^ (max e (-126) - 23 - exp).toNat = 0)

/-! ### Precisions and classes (R420, R423) -/

/-- A precision: significand bits, exponent range, and the exponent adjustment of an enabled overflow or underflow. -/
structure Precision where
  bits : Nat
  emin : Int
  emax : Int
  wrap : Int
deriving DecidableEq, Repr

/-- Single precision. -/
def single : Precision := ⟨24, -126, 127, 192⟩
/-- Double precision. -/
def double : Precision := ⟨53, -1022, 1023, 1536⟩

/-- The class of a quiet NaN. -/
def classNan : BitVec 5 := 0b10001#5
/-- The class of an infinity. -/
def classInf (neg : Bool) : BitVec 5 := if neg then 0b01001#5 else 0b00101#5
/-- The class of a zero. -/
def classZero (neg : Bool) : BitVec 5 := if neg then 0b10010#5 else 0b00010#5
/-- The class of a normalized number. -/
def classNormal (neg : Bool) : BitVec 5 := if neg then 0b01000#5 else 0b00100#5
/-- The class of a denormalized number. -/
def classDenormal (neg : Bool) : BitVec 5 := if neg then 0b11000#5 else 0b10100#5

/-- `Class(v)` in a precision (R423). -/
def classOf (p : Precision) (v : Lane) : BitVec 5 :=
  match unpack v with
  | .nan => classNan
  | .inf neg => classInf neg
  | .zero neg => classZero neg
  | .finite neg mant exp => if exp + mant.log2 < p.emin then classDenormal neg else classNormal neg

/-! ### Rounding (R426, R430, R431, R432) -/

/-- What an operation gives: the exception bits it raises, the result, its class, FR and FI, whether FR is left
undefined (R430), and whether the target is written (R427 (2), R429). -/
structure FpOut where
  raised : Word
  result : Lane
  fprf   : BitVec 5
  fr     : Bool
  fi     : Bool
  frOpen : Bool
  writes : Bool
deriving DecidableEq, Repr

/-- An exact result: no rounding. -/
def FpOut.exact (raised : Word) (result : Lane) (fprf : BitVec 5) : FpOut :=
  ⟨raised, result, fprf, false, false, false, true⟩

/-- An enabled invalid operation or zero divide: the target is not written. -/
def FpOut.suppressed (raised : Word) : FpOut := ⟨raised, 0, 0, false, false, false, false⟩

/-- Whether the magnitude is incremented (R426 (3)). -/
def roundsUp (rn : BitVec 2) (neg odd inexact above tie : Bool) : Bool :=
  if rn = 0 then above || (tie && odd)
  else if rn = 1 then false
  else if rn = 2 then inexact && !neg
  else inexact && neg

/-- A significand rounded to multiples of `2^q`, with FR and FI. -/
structure Rounded where
  n  : Nat
  q  : Int
  fr : Bool
  fi : Bool
deriving DecidableEq, Repr

/-- Round `mant * 2^exp`, and a little more if `sticky`, to a multiple of `2^q` (R426 (3)). -/
def roundAt (rn : BitVec 2) (neg : Bool) (mant : Nat) (exp : Int) (sticky : Bool) (q : Int) : Rounded :=
  let up := (q - exp).toNat
  let m := mant * 2 ^ (exp - q).toNat
  let n := m / 2 ^ up
  let rem := 2 * (m % 2 ^ up)
  let inexact := decide (rem ≠ 0) || sticky
  let above := decide (2 ^ up < rem) || (decide (rem = 2 ^ up) && sticky)
  let tie := decide (rem = 2 ^ up) && !sticky
  let fr := roundsUp rn neg (decide (n % 2 = 1)) inexact above tie
  ⟨if fr then n + 1 else n, q, fr, inexact⟩

/-- XX if the rounding was inexact (R432). -/
def xxIf (fi : Bool) : Word := if fi then xxBit else 0

/-- The result of a disabled overflow (R430). -/
def overflowResult (p : Precision) (rn : BitVec 2) (neg : Bool) : Lane :=
  let largest := pack neg (2 ^ p.bits - 1) (p.emax - (p.bits - 1))
  if rn = 0 then infinity neg
  else if rn = 1 then largest
  else if rn = 2 then if neg then largest else infinity neg
  else if neg then infinity neg else largest

/-- `Round(p, z)` for `z = (-1)^neg * mant * 2^exp`, `mant` not 0, and a little more in magnitude if `sticky`. -/
def roundFinite (p : Precision) (fpscr : Word) (neg : Bool) (mant : Nat) (exp : Int) (sticky : Bool) : FpOut :=
  let rn := rnOf fpscr
  let e := exp + mant.log2
  let tiny := decide (e < p.emin)
  if tiny && ueOf fpscr then
    let r := roundAt rn neg mant exp sticky (e - (p.bits - 1))
    ⟨uxBit ||| xxIf r.fi, pack neg r.n (r.q + p.wrap), classNormal neg, r.fr, r.fi, false, true⟩
  else
    let r := roundAt rn neg mant exp sticky (max e p.emin - (p.bits - 1))
    let e' := r.q + r.n.log2
    if r.n = 0 then ⟨uxBit ||| xxIf r.fi, layout neg 0 0, classZero neg, r.fr, r.fi, false, true⟩
    else if p.emax < e' then
      if oeOf fpscr then
        ⟨oxBit ||| xxIf r.fi, pack neg r.n (r.q - p.wrap), classNormal neg, r.fr, r.fi, false, true⟩
      else
        let v := overflowResult p rn neg
        ⟨oxBit ||| xxBit, v, classOf p v, false, true, true, true⟩
    else
      ⟨(if tiny && r.fi then uxBit else 0) ||| xxIf r.fi, pack neg r.n r.q,
        if e' < p.emin then classDenormal neg else classNormal neg, r.fr, r.fi, false, true⟩

/-- The result for an exact value (R427 (6)): infinities and zeros are not rounded. -/
def deliver (p : Precision) (fpscr : Word) (z : Fp) (sticky : Bool) : FpOut :=
  match z with
  | .zero neg => .exact 0 (layout neg 0 0) (classZero neg)
  | .inf neg => .exact 0 (infinity neg) (classInf neg)
  | .finite neg mant exp => roundFinite p fpscr neg mant exp sticky
  | .nan => .exact 0 defaultNan classNan

/-! ### Exact operations (R427 (5)) -/

/-- The negated value. -/
def Fp.negate : Fp → Fp
  | .zero n => .zero !n
  | .finite n m e => .finite (!n) m e
  | .inf n => .inf !n
  | .nan => .nan

/-- A finite sum as a value; the sign of an exact zero is that of R426. -/
def signedFinite (rn : BitVec 2) (v : Int) (exp : Int) : Fp :=
  if v = 0 then .zero (rn == 3) else .finite (decide (v < 0)) v.natAbs exp

/-- A magnitude as a signed integer. -/
def signedMant (neg : Bool) (mant : Nat) : Int := if neg then -(mant : Int) else mant

/-- The exact sum of two values that are not NaNs. Infinities of unlike signs have no sum: `nan`. -/
def Fp.add (rn : BitVec 2) : Fp → Fp → Fp
  | .nan, _ | _, .nan => .nan
  | .inf a, .inf b => if a = b then .inf a else .nan
  | .inf a, _ => .inf a
  | _, .inf b => .inf b
  | .zero a, .zero b => if a = b then .zero a else .zero (rn == 3)
  | .zero _, .finite n m e => .finite n m e
  | .finite n m e, .zero _ => .finite n m e
  | .finite n1 m1 e1, .finite n2 m2 e2 =>
    let e := min e1 e2
    signedFinite rn
      (signedMant n1 (m1 * 2 ^ (e1 - e).toNat) + signedMant n2 (m2 * 2 ^ (e2 - e).toNat)) e

/-- The exact product of two values that are not NaNs. Infinity times zero has no product: `nan`. -/
def Fp.mul : Fp → Fp → Fp
  | .nan, _ | _, .nan => .nan
  | .inf _, .zero _ => .nan
  | .zero _, .inf _ => .nan
  | .inf a, .inf b => .inf (a ^^ b)
  | .inf a, .finite b _ _ => .inf (a ^^ b)
  | .finite a _ _, .inf b => .inf (a ^^ b)
  | .zero a, .zero b => .zero (a ^^ b)
  | .zero a, .finite b _ _ => .zero (a ^^ b)
  | .finite a _ _, .zero b => .zero (a ^^ b)
  | .finite a m1 e1, .finite b m2 e2 => .finite (a ^^ b) (m1 * m2) (e1 + e2)

/-- The quotient of two values that are not NaNs, to more bits than any precision, and whether bits were lost. -/
def Fp.div : Fp → Fp → Fp × Bool
  | .nan, _ | _, .nan => (.nan, false)
  | .inf _, .inf _ => (.nan, false)
  | .zero _, .zero _ => (.nan, false)
  | .inf a, .zero b => (.inf (a ^^ b), false)
  | .inf a, .finite b _ _ => (.inf (a ^^ b), false)
  | .finite a _ _, .zero b => (.inf (a ^^ b), false)
  | .zero a, .inf b => (.zero (a ^^ b), false)
  | .zero a, .finite b _ _ => (.zero (a ^^ b), false)
  | .finite a _ _, .inf b => (.zero (a ^^ b), false)
  | .finite a m1 e1, .finite b m2 e2 =>
    let num := m1 * 2 ^ 128
    (.finite (a ^^ b) (num / m2) (e1 - e2 - 128), decide (num % m2 ≠ 0))

/-- The integer square root, bit by bit: the largest `r` below `2^bits` beyond `acc` with `r * r ≤ n`. -/
def isqrt (n : Nat) : Nat → Nat → Nat
  | 0, acc => acc
  | b + 1, acc => isqrt n b (if (acc + 2 ^ b) * (acc + 2 ^ b) ≤ n then acc + 2 ^ b else acc)

/-- The square root of a value that is not a NaN or negative, to more bits than any precision. -/
def Fp.sqrt : Fp → Fp × Bool
  | .zero n => (.zero n, false)
  | .inf false => (.inf false, false)
  | .finite false mant exp =>
    let m := mant * 2 ^ (if exp % 2 = 0 then 128 else 129)
    let r := isqrt m 96 0
    (.finite false r ((exp - (if exp % 2 = 0 then 128 else 129)) / 2), decide (r * r ≠ m))
  | .inf true | .finite true _ _ | .nan => (.nan, false)

/-! ### The template (R427 to R435) -/

/-- VXSNAN if an operand is a signalling NaN (R428). -/
def snanBits (vs : List Lane) : Word := if vs.any isSnan then vxsnanBit else 0

/-- The template after the invalid-operation conditions are known (R427 (2) to (6)). `nan` is the first NaN operand in
the order of R435. -/
def resolve (fpscr vx : Word) (nan : Option Lane) (rest : FpOut) : FpOut :=
  if vx ≠ 0 then
    if veOf fpscr then .suppressed vx else .exact vx ((nan.map quiet).getD defaultNan) classNan
  else
    match nan with
    | some v => .exact 0 (quiet v) classNan
    | none => rest

/-- A zero divide (R429) with an infinite result of the given sign. -/
def zeroDivide (fpscr : Word) (neg : Bool) : FpOut :=
  if zeOf fpscr then .suppressed zxBit else .exact zxBit (infinity neg) (classInf neg)

/-- Infinities of unlike signs are added (VXISI). -/
def isiBits (a b : Fp) : Word :=
  match a, b with
  | .inf x, .inf y => if x = y then 0 else vxisiBit
  | _, _ => 0

/-- An infinity is multiplied by a zero (VXIMZ). -/
def imzBits (a b : Fp) : Word :=
  match a, b with
  | .inf _, .zero _ | .zero _, .inf _ => vximzBit
  | _, _ => 0

/-- `FPOp(p, add, a, b)`. -/
def fpAdd (p : Precision) (fpscr : Word) (a b : Lane) : FpOut :=
  resolve fpscr (snanBits [a, b] ||| isiBits (unpack a) (unpack b)) ([a, b].find? isNan)
    (deliver p fpscr ((unpack a).add (rnOf fpscr) (unpack b)) false)

/-- `FPOp(p, sub, a, b)`: a NaN operand keeps its sign. -/
def fpSub (p : Precision) (fpscr : Word) (a b : Lane) : FpOut :=
  resolve fpscr (snanBits [a, b] ||| isiBits (unpack a) (unpack b).negate) ([a, b].find? isNan)
    (deliver p fpscr ((unpack a).add (rnOf fpscr) (unpack b).negate) false)

/-- `FPOp(p, mul, a, c)`. -/
def fpMul (p : Precision) (fpscr : Word) (a c : Lane) : FpOut :=
  resolve fpscr (snanBits [a, c] ||| imzBits (unpack a) (unpack c)) ([a, c].find? isNan)
    (deliver p fpscr ((unpack a).mul (unpack c)) false)

/-- The division's own invalid conditions (R428): infinity / infinity and 0 / 0. -/
def divBits (a b : Fp) : Word :=
  match a, b with
  | .inf _, .inf _ => vxidiBit
  | .zero _, .zero _ => vxzdzBit
  | _, _ => 0

/-- `FPOp(p, div, a, b)`. -/
def fpDiv (p : Precision) (fpscr : Word) (a b : Lane) : FpOut :=
  resolve fpscr (snanBits [a, b] ||| divBits (unpack a) (unpack b)) ([a, b].find? isNan)
    (match unpack a, unpack b with
      | .finite na _ _, .zero nb => zeroDivide fpscr (na ^^ nb)
      | x, y => deliver p fpscr (x.div y).1 (x.div y).2)

/-- The value with its sign changed if `b`. -/
def Fp.negateIf (b : Bool) (v : Fp) : Fp := if b then v.negate else v

/-- `FPOp(p, madd, a, c, b)`, or with `subtract` the multiply-subtract: `a * c ± b` exactly, then one rounding. The NaN
order is frA, frB, frC (R435). -/
def fpMulAdd (p : Precision) (fpscr : Word) (subtract : Bool) (a c b : Lane) : FpOut :=
  let product := (unpack a).mul (unpack c)
  let addend := (unpack b).negateIf subtract
  resolve fpscr (snanBits [a, b, c] ||| imzBits (unpack a) (unpack c) ||| isiBits product addend)
    ([a, b, c].find? isNan) (deliver p fpscr (product.add (rnOf fpscr) addend) false)

/-- The class of the negated number. -/
def negatedClass (c : BitVec 5) : BitVec 5 :=
  if c = classNormal false then classNormal true
  else if c = classNormal true then classNormal false
  else if c = classDenormal false then classDenormal true
  else if c = classDenormal true then classDenormal false
  else if c = classZero false then classZero true
  else if c = classZero true then classZero false
  else if c = classInf false then classInf true
  else if c = classInf true then classInf false
  else c

/-- The negative forms (R483): the rounded result is negated unless it is a NaN; FPRF describes the negated result. -/
def FpOut.negated (o : FpOut) : FpOut :=
  if isNan o.result then o
  else { o with result := o.result ^^^ 0x8000000000000000, fprf := negatedClass o.fprf }

/-- `FPOp(p, sqrt, b)` (R493). -/
def fpSqrt (p : Precision) (fpscr : Word) (b : Lane) : FpOut :=
  let vx : Word :=
    match unpack b with
    | .inf true | .finite true _ _ => vxsqrtBit
    | _ => 0
  resolve fpscr (snanBits [b] ||| vx) ([b].find? isNan)
    (deliver p fpscr (unpack b).sqrt.1 (unpack b).sqrt.2)

/-- `FPOp(single, round, b)` (R495): a NaN keeps its sign and high fraction, the low 29 fraction bits are cleared. With
UE = 1 a tiny value is scaled as R431 says, one that is single-representable included, where R495's corner case has such
a value returned unchanged (DEDUCED, assumption 47). -/
def fpRoundSingle (fpscr : Word) (b : Lane) : FpOut :=
  let o := resolve fpscr (snanBits [b]) ([b].find? isNan) (deliver single fpscr (unpack b) false)
  if isNan b then { o with result := o.result &&& ~~~0x1FFFFFFF } else o

/-! ### Estimates (R440) -/

/-- A single-format estimate made a number of the given sign: an infinity where the bits are a NaN's. -/
def estimateSingle (neg : Bool) (w : Word) : Lane :=
  let v := doubleFromSingle (BitVec.ofBool neg ++ w.extractLsb' 0 31)
  if isNan v then infinity neg else v

/-- A double-format estimate made a positive number: an infinity where the bits are a NaN's. -/
def estimateDouble (w : Lane) : Lane :=
  let v : Lane := 0#1 ++ w.extractLsb' 0 63
  if isNan v then infinity false else v

/-- OX and UX as an estimate of 1/x may set them: only near the ends of the range, where they are free (R440). -/
def reciprocalRangeBits (v : Lane) (draw : BitVec 64) : Word :=
  match unpack v with
  | .finite _ mant exp =>
    let e := exp + mant.log2
    (if e ≤ -126 ∧ draw.getLsbD 3 then oxBit else 0) ||| (if 126 ≤ e ∧ draw.getLsbD 4 then uxBit else 0)
  | _ => 0

/-- The outcome of an estimate. FR, FI and XX are undefined (R440), but R429 fixes FR and FI for a zero operand. -/
structure Estimate where
  out        : FpOut
  zeroDivide : Bool

/-- `fres` and one lane of `ps_res` (R490). -/
def fpReciprocal (fpscr : Word) (b : Lane) (draw : BitVec 64) : Estimate :=
  match unpack b with
  | .nan => ⟨resolve fpscr (snanBits [b]) (some b) (.suppressed 0), false⟩
  | .zero neg => ⟨zeroDivide fpscr neg, true⟩
  | .inf neg => ⟨.exact 0 (layout neg 0 0) (classZero neg), false⟩
  | .finite neg _ _ =>
    let r := estimateSingle neg (Config.fresEst b)
    ⟨.exact (reciprocalRangeBits b draw) r (classOf single r), false⟩

/-- `frsqrte` and, with the estimate rounded to single, one lane of `ps_rsqrte` (R491, R695). -/
def fpReciprocalSqrt (p : Precision) (fpscr : Word) (b : Lane) (estimate : Lane) : Estimate :=
  match unpack b with
  | .nan => ⟨resolve fpscr (snanBits [b]) (some b) (.suppressed 0), false⟩
  | .zero neg => ⟨zeroDivide fpscr neg, true⟩
  | .inf true | .finite true _ _ => ⟨resolve fpscr vxsqrtBit none (.suppressed 0), false⟩
  | .inf false => ⟨.exact 0 (layout false 0 0) (classZero false), false⟩
  | .finite false _ _ => ⟨.exact 0 estimate (classOf p estimate), false⟩

/-! ### Conversion to integer (R496, R497) -/

/-- A value rounded to an integer: the magnitude, FR and FI. -/
def roundToInteger (rn : BitVec 2) (neg : Bool) (mant : Nat) (exp : Int) : Rounded := roundAt rn neg mant exp false 0

/-- The integer, the exception bits, FR and FI of `fctiw` under a rounding mode. -/
structure Converted where
  value  : Word
  raised : Word
  fr     : Bool
  fi     : Bool
deriving DecidableEq, Repr

/-- `fctiw` and `fctiwz` (R496, R497). -/
def convertToInteger (rn : BitVec 2) (b : Lane) : Converted :=
  match unpack b with
  | .nan => ⟨0x80000000, vxcviBit ||| snanBits [b], false, false⟩
  | .inf neg => ⟨if neg then 0x80000000 else 0x7FFFFFFF, vxcviBit, false, false⟩
  | .zero _ => ⟨0, 0, false, false⟩
  | .finite neg mant exp =>
    let r := roundToInteger rn neg mant exp
    let n := signedMant neg r.n
    if 2 ^ 31 - 1 < n then ⟨0x7FFFFFFF, vxcviBit, false, false⟩
    else if n < -2 ^ 31 then ⟨0x80000000, vxcviBit, false, false⟩
    else ⟨BitVec.ofInt 32 n, xxIf r.fi, r.fr, r.fi⟩

/-! ### Comparison (R498, R499) -/

/-- `a < b` for values that are not NaNs: the exact difference is negative. -/
def Fp.lt (a b : Fp) : Bool :=
  match a, b with
  | .inf x, .inf y => x && !y
  | .inf x, _ => x
  | _, .inf y => !y
  | _, _ =>
    match a.add 0 b.negate with
    | .finite neg _ _ => neg
    | _ => false

/-- FL FG FE FU of a comparison. -/
def fpCompare (a b : Lane) : BitVec 4 :=
  if isNan a || isNan b then 0b0001#4
  else if (unpack a).lt (unpack b) then 0b1000#4
  else if (unpack b).lt (unpack a) then 0b0100#4
  else 0b0010#4

/-- The exception bits of an unordered comparison (R499). -/
def unorderedBits (a b : Lane) : Word := snanBits [a, b]

/-- The exception bits of an ordered comparison (R498). -/
def orderedBits (fpscr : Word) (a b : Lane) : Word :=
  if isSnan a || isSnan b then if veOf fpscr then vxsnanBit else vxsnanBit ||| vxvcBit
  else if isNan a || isNan b then vxvcBit
  else 0

end Sys2Proof.Machine
end

