-- ==== Sys2Proof/Machine/Float.lean ====
section
/-! DEFINITION. The floating-point arithmetic, move, conversion and compare instructions (45_fp_instructions.md R470 to
R500), and what they share with the paired-single instructions. -/

namespace Sys2Proof.Machine

/-! ### Ending a floating-point instruction -/

/-- `RecordCR1()` if Rc is 1 (R15): FX, FEX, VX and OX. -/
def State.recordCr1If (s : State) (rc : Bool) : State := if rc then s.setCrf 1 (s.fpscr.extractLsb' 28 4) else s

/-- The end of an instruction that may have changed FPSCR (R427 (8), (9)): CR1, then the enabled exception (R434). -/
def State.finishFp (s : State) (rc : Bool) : Out :=
  if fexOf s.fpscr && s.msrFe then raiseProgram .fpEnabled (s.recordCr1If rc) else retire (s.recordCr1If rc)

/-- The end of a move, which leaves FPSCR alone (R437). -/
def State.finishMove (s : State) (rc : Bool) : Out := retire (s.recordCr1If rc)

/-! ### Free outcomes -/

/-- A free FPRF. -/
def freeClass (draw : BitVec 64) : BitVec 5 := draw.extractLsb' 32 5

/-- The exception bits that arithmetic can raise: OX, UX, ZX, XX and the invalid operations of R428 but those of
compares, conversions and VXSOFT (R437). -/
def arithmeticBits : Word := 0x1FF00200

/-- The exception bits that a conversion to integer can raise: VXSNAN, VXCVI and XX (R437). -/
def conversionBits : Word := 0x03000100

/-- The free outcome in non-IEEE mode (R436) of an operation that can raise `bits`: the result is some value of the
precision, and each of these exception bits, FPRF, FR and FI are free. DESIGN CHOICE (assumption 9). -/
def freeOutcome (p : Precision) (bits fpscr : Word) (flags result : BitVec 64) : FpOut :=
  let raised := flags.setWidth 32 &&& bits
  { raised := raised
    result := if p = single then doubleFromSingle (result.setWidth 32) else result
    fprf := freeClass flags
    fr := flags.getLsbD 37
    fi := flags.getLsbD 38
    frOpen := false
    writes := !(veOf fpscr && decide (raised &&& vxBits ≠ 0)) && !(zeOf fpscr && decide (raised &&& zxBit ≠ 0)) }

/-- The outcome in the current mode of an operation that can raise `bits`: free when FPSCR[NI] is 1 (R436). -/
def State.inMode (s : State) (p : Precision) (bits : Word) (result : BitVec 64) (o : FpOut) : FpOut :=
  if niOf s.fpscr then freeOutcome p bits s.fpscr (s.freeAt 0) result else o

/-- FPSCR after an arithmetic operation (R427): FR, FI and, if the target is written, FPRF; then the exception bits.
`classOpen` makes FPRF free (R438); a disabled overflow leaves FR free (R430). Where an operand is not single-representable
and an enabled invalid operation or zero divide keeps the target unwritten, R438 and D36 make FPRF a draw and R427 (2) and
R429 leave it: the model leaves it (DESIGN CHOICE, assumption 22). -/
def State.fpscrAfter (s : State) (o : FpOut) (raised : Word) (classOpen : Bool) : Word :=
  let fr := if o.frOpen then (s.freeAt 0).getLsbD 37 else o.fr
  let class' := if classOpen then freeClass (s.freeAt 0) else o.fprf
  raiseBits (setRounding s.fpscr fr o.fi (if o.writes then some class' else none)) raised

/-! ### Writing a target -/

/-- `WriteD(frD, r)` (R470): lane 0 only. -/
def State.writeD (s : State) (frD : FReg) (r : Lane) : State := s.setF0 frD r

/-- `WriteS(frD, r)` (R470): lane 0, and lane 1 too when HID2[PSE] is 1. Lane 1 holds single-representable values
only (R46): one that is not enters it as a draw. -/
def State.writeS (s : State) (frD : FReg) (r : Lane) (draw : BitVec 64) : State :=
  if s.pse then (s.setF0 frD r).setF1 frD (if singleRepresentable r then r else doubleFromSingle (draw.setWidth 32))
  else s.setF0 frD r

/-- The end of a double-precision arithmetic instruction. Each such instruction may use three free values. -/
def State.arithD (s : State) (frD : FReg) (rc : Bool) (o : FpOut) : Out :=
  let o := s.inMode double arithmeticBits (s.freeAt 1) o
  let s1 := { s.drawnBy 3 with fpscr := s.fpscrAfter o o.raised false }
  (if o.writes then s1.writeD frD o.result else s1).finishFp rc

/-- The end of a single-precision arithmetic instruction. An operand that is not single-representable leaves the
target and FPRF free (R438). -/
def State.arithS (s : State) (frD : FReg) (rc : Bool) (operands : List Lane) (o : FpOut) : Out :=
  let o := s.inMode single arithmeticBits (s.freeAt 1) o
  let opened := !niOf s.fpscr && operands.any (fun v => !singleRepresentable v)
  let s1 := { s.drawnBy 3 with fpscr := s.fpscrAfter o o.raised opened }
  (if o.writes then s1.writeS frD (if opened then s.freeAt 1 else o.result) (s.freeAt 2) else s1).finishFp rc

/-! ### Basic arithmetic and multiply-add (R471 to R486) -/

/-- `fadd` (R471). -/
def execFadd (frD frA frB : FReg) (rc : Bool) (s : State) : Out :=
  withFp s (s.arithD frD rc (fpAdd double s.fpscr (s.f0 frA) (s.f0 frB)))

/-- `fadds` (R472). -/
def execFadds (frD frA frB : FReg) (rc : Bool) (s : State) : Out :=
  withFp s (s.arithS frD rc [s.f0 frA, s.f0 frB] (fpAdd single s.fpscr (s.f0 frA) (s.f0 frB)))

/-- `fsub` (R473). -/
def execFsub (frD frA frB : FReg) (rc : Bool) (s : State) : Out :=
  withFp s (s.arithD frD rc (fpSub double s.fpscr (s.f0 frA) (s.f0 frB)))

/-- `fsubs` (R474). -/
def execFsubs (frD frA frB : FReg) (rc : Bool) (s : State) : Out :=
  withFp s (s.arithS frD rc [s.f0 frA, s.f0 frB] (fpSub single s.fpscr (s.f0 frA) (s.f0 frB)))

/-- `fmul` (R475). -/
def execFmul (frD frA frC : FReg) (rc : Bool) (s : State) : Out :=
  withFp s (s.arithD frD rc (fpMul double s.fpscr (s.f0 frA) (s.f0 frC)))

/-- `fmuls` (R476). -/
def execFmuls (frD frA frC : FReg) (rc : Bool) (s : State) : Out :=
  withFp s (s.arithS frD rc [s.f0 frA, s.f0 frC] (fpMul single s.fpscr (s.f0 frA) (s.f0 frC)))

/-- `fdiv` (R477). -/
def execFdiv (frD frA frB : FReg) (rc : Bool) (s : State) : Out :=
  withFp s (s.arithD frD rc (fpDiv double s.fpscr (s.f0 frA) (s.f0 frB)))

/-- `fdivs` (R478). -/
def execFdivs (frD frA frB : FReg) (rc : Bool) (s : State) : Out :=
  withFp s (s.arithS frD rc [s.f0 frA, s.f0 frB] (fpDiv single s.fpscr (s.f0 frA) (s.f0 frB)))

/-- `fmadd` (R479). -/
def execFmadd (frD frA frB frC : FReg) (rc : Bool) (s : State) : Out :=
  withFp s (s.arithD frD rc (fpMulAdd double s.fpscr false (s.f0 frA) (s.f0 frC) (s.f0 frB)))

/-- `fmadds` (R480). -/
def execFmadds (frD frA frB frC : FReg) (rc : Bool) (s : State) : Out :=
  withFp s (s.arithS frD rc [s.f0 frA, s.f0 frC, s.f0 frB] (fpMulAdd single s.fpscr false (s.f0 frA) (s.f0 frC) (s.f0 frB)))

/-- `fmsub` (R481). -/
def execFmsub (frD frA frB frC : FReg) (rc : Bool) (s : State) : Out :=
  withFp s (s.arithD frD rc (fpMulAdd double s.fpscr true (s.f0 frA) (s.f0 frC) (s.f0 frB)))

/-- `fmsubs` (R482). -/
def execFmsubs (frD frA frB frC : FReg) (rc : Bool) (s : State) : Out :=
  withFp s (s.arithS frD rc [s.f0 frA, s.f0 frC, s.f0 frB] (fpMulAdd single s.fpscr true (s.f0 frA) (s.f0 frC) (s.f0 frB)))

/-- `fnmadd` (R483). -/
def execFnmadd (frD frA frB frC : FReg) (rc : Bool) (s : State) : Out :=
  withFp s (s.arithD frD rc ((fpMulAdd double s.fpscr false (s.f0 frA) (s.f0 frC) (s.f0 frB)).negated))

/-- `fnmadds` (R484). -/
def execFnmadds (frD frA frB frC : FReg) (rc : Bool) (s : State) : Out :=
  withFp s (s.arithS frD rc [s.f0 frA, s.f0 frC, s.f0 frB] ((fpMulAdd single s.fpscr false (s.f0 frA) (s.f0 frC) (s.f0 frB)).negated))

/-- `fnmsub` (R485). -/
def execFnmsub (frD frA frB frC : FReg) (rc : Bool) (s : State) : Out :=
  withFp s (s.arithD frD rc ((fpMulAdd double s.fpscr true (s.f0 frA) (s.f0 frC) (s.f0 frB)).negated))

/-- `fnmsubs` (R486). -/
def execFnmsubs (frD frA frB frC : FReg) (rc : Bool) (s : State) : Out :=
  withFp s (s.arithS frD rc [s.f0 frA, s.f0 frC, s.f0 frB] ((fpMulAdd single s.fpscr true (s.f0 frA) (s.f0 frC) (s.f0 frB)).negated))

/-! ### Moves and select (R487 to R489, R492, R500) -/

/-- A lane with its sign bit replaced. -/
def withSign (v : Lane) (neg : Bool) : Lane := BitVec.ofBool neg ++ v.extractLsb' 0 63

/-- A lane with its sign bit inverted. -/
def flipSign (v : Lane) : Lane := v ^^^ 0x8000000000000000

/-- The lane is not a NaN and is at least 0; -0 counts (R492). -/
def selectsFirst (v : Lane) : Bool :=
  match unpack v with
  | .nan => false
  | .zero _ => true
  | .finite neg _ _ | .inf neg => !neg

/-- `fabs` (R487). -/
def execFabs (frD frB : FReg) (rc : Bool) (s : State) : Out :=
  withFp s ((s.setF0 frD (withSign (s.f0 frB) false)).finishMove rc)

/-- `fnabs` (R488). -/
def execFnabs (frD frB : FReg) (rc : Bool) (s : State) : Out :=
  withFp s ((s.setF0 frD (withSign (s.f0 frB) true)).finishMove rc)

/-- `fneg` (R489). -/
def execFneg (frD frB : FReg) (rc : Bool) (s : State) : Out :=
  withFp s ((s.setF0 frD (flipSign (s.f0 frB))).finishMove rc)

/-- `fmr` (R500). -/
def execFmr (frD frB : FReg) (rc : Bool) (s : State) : Out :=
  withFp s ((s.setF0 frD (s.f0 frB)).finishMove rc)

/-- `fsel` (R492). -/
def execFsel (frD frA frB frC : FReg) (rc : Bool) (s : State) : Out :=
  withFp s ((s.setF0 frD (if selectsFirst (s.f0 frA) then s.f0 frC else s.f0 frB)).finishMove rc)

/-! ### Estimates and square roots (R490, R491, R493, R494) -/

/-- FPSCR after an estimate instruction (R440, R490, R491): XX is free, so it may even be cleared; FR and FI are free but
for a zero operand, `fixed` (R429). -/
def State.fpscrAfterEstimate (s : State) (o : FpOut) (raised : Word) (classOpen fixed : Bool) : Word :=
  let flags := s.freeAt 0
  let o := if fixed then o else { o with fr := flags.getLsbD 37, fi := flags.getLsbD 38, frOpen := false }
  let v := s.fpscrAfter o (raised ||| xxIf (flags.getLsbD 39)) classOpen
  if flags.getLsbD 39 then v else summarize (v &&& ~~~xxBit)

/-- `fres` (R490). -/
def execFres (frD frB : FReg) (rc : Bool) (s : State) : Out :=
  withFp s (
    let e := fpReciprocal s.fpscr (s.f0 frB) (s.freeAt 0)
    let o := s.inMode single arithmeticBits (s.freeAt 1) e.out
    let opened := !niOf s.fpscr && !singleRepresentable (s.f0 frB)
    let s1 := { s.drawnBy 3 with
      fpscr := s.fpscrAfterEstimate o o.raised opened (e.zeroDivide && !niOf s.fpscr) }
    (if o.writes then s1.writeS frD (if opened then s.freeAt 1 else o.result) (s.freeAt 2) else s1).finishFp rc)

/-- `frsqrte` (R491). -/
def execFrsqrte (frD frB : FReg) (rc : Bool) (s : State) : Out :=
  withFp s (
    let e := fpReciprocalSqrt double s.fpscr (s.f0 frB) (estimateDouble (Config.frsqrteEst (s.f0 frB)))
    let o := s.inMode double arithmeticBits (s.freeAt 1) e.out
    let s1 := { s.drawnBy 3 with fpscr := s.fpscrAfterEstimate o o.raised false (e.zeroDivide && !niOf s.fpscr) }
    (if o.writes then s1.writeD frD o.result else s1).finishFp rc)

/-- `fsqrt` (R493): illegal where the part does not have it (D9). -/
def execFsqrt (frD frB : FReg) (rc : Bool) (s : State) : Out :=
  if !s.params.hasFsqrt then raiseProgram .illegalInstruction s
  else withFp s (s.arithD frD rc (fpSqrt double s.fpscr (s.f0 frB)))

/-- `fsqrts` (R494): illegal where the part does not have it (D9). -/
def execFsqrts (frD frB : FReg) (rc : Bool) (s : State) : Out :=
  if !s.params.hasFsqrt then raiseProgram .illegalInstruction s
  else withFp s (s.arithS frD rc [s.f0 frB] (fpSqrt single s.fpscr (s.f0 frB)))

/-! ### Conversions (R495 to R497) -/

/-- `frsp` (R495): the operand may be any double. -/
def execFrsp (frD frB : FReg) (rc : Bool) (s : State) : Out :=
  withFp s (s.arithS frD rc [] (fpRoundSingle s.fpscr (s.f0 frB)))

/-- A conversion to integer under a rounding mode (R496): the upper half of the result and FPRF are free; an enabled
invalid conversion does not write frD. R436 and R437 do not say whether NI affects a conversion: in non-IEEE mode its
outcome is free, but it raises no other exception bit than VXSNAN, VXCVI and XX (R437; DESIGN CHOICE, assumption 9). -/
def State.convert (s : State) (frD frB : FReg) (rc : Bool) (rn : BitVec 2) : Out :=
  let c := convertToInteger rn (s.f0 frB)
  let o : FpOut :=
    { raised := c.raised
      result := (s.freeAt 1).extractLsb' 32 32 ++ c.value
      fprf := 0
      fr := c.fr
      fi := c.fi
      frOpen := false
      writes := !(veOf s.fpscr && decide (c.raised &&& vxBits ≠ 0)) }
  let o := s.inMode double conversionBits (s.freeAt 1) o
  let v := raiseBits (setRounding s.fpscr o.fr o.fi (some (freeClass (s.freeAt 0)))) o.raised
  let s1 := { s.drawnBy 3 with fpscr := v }
  (if o.writes then s1.writeD frD o.result else s1).finishFp rc

/-- `fctiw` (R496). -/
def execFctiw (frD frB : FReg) (rc : Bool) (s : State) : Out :=
  withFp s (s.convert frD frB rc (rnOf s.fpscr))

/-- `fctiwz` (R497): toward zero whatever RN is. -/
def execFctiwz (frD frB : FReg) (rc : Bool) (s : State) : Out :=
  withFp s (s.convert frD frB rc 1)

/-! ### Compares (R498, R499) -/

/-- A comparison of two lanes (R498, R499): the CR field and FPCC take the result; the C bit, FR and FI stay. -/
def State.compareLanes (s : State) (crfD : CrField) (a b : Lane) (raised : Word) : Out :=
  let c := fpCompare a b
  let v := raiseBits ((s.fpscr &&& 0xFFFF0FFF) ||| (c.setWidth 32 <<< 12)) raised
  ({ s with fpscr := v }.setCrf crfD c).finishFp false

/-- `fcmpo` (R498). -/
def execFcmpo (crfD : CrField) (frA frB : FReg) (s : State) : Out :=
  withFp s (s.compareLanes crfD (s.f0 frA) (s.f0 frB) (orderedBits s.fpscr (s.f0 frA) (s.f0 frB)))

/-- `fcmpu` (R499). -/
def execFcmpu (crfD : CrField) (frA frB : FReg) (s : State) : Out :=
  withFp s (s.compareLanes crfD (s.f0 frA) (s.f0 frB) (unorderedBits (s.f0 frA) (s.f0 frB)))

end Sys2Proof.Machine
end

