-- ==== Sys2Proof/Machine/LoadStore.lean ====
section
/-! DEFINITION. The integer loads and stores (43_load_store.md). The update forms with rA = 0 or, for loads, rA = rD,
and the multiple and string loads whose range holds a base register, are invalid forms: `step` refuses those that the
fields show before they reach a meaning (R185). -/

namespace Sys2Proof.Machine

/-! ### Shared by the forms -/

/-- A loaded value as it enters rD: zero-extended ("and Zero"). -/
def zeroExtended (v : BitVec 64) : Word := v.setWidth 32

/-- A loaded halfword sign-extended ("Algebraic"). -/
def algebraicHalf (v : BitVec 64) : Word := (v.setWidth 16).signExtend 32

/-- A loaded halfword with its bytes exchanged, zero-extended (R371). -/
def reversedHalf (v : BitVec 64) : Word := 0#16 ++ v.extractLsb' 0 8 ++ v.extractLsb' 8 8

/-- A word with its bytes in the opposite order (R381, R382). -/
def reversedWord (v : Word) : Word :=
  v.extractLsb' 0 8 ++ v.extractLsb' 8 8 ++ v.extractLsb' 16 8 ++ v.extractLsb' 24 8

/-- A load: rD takes the value read at `ea` (R350). -/
def State.load (s : State) (ea : Word) (n : Nat) (convert : BitVec 64 → Word) (rD : Reg) : Out :=
  (s.memRead ea n).finish fun v s => retire (s.setX rD (convert v))

/-- A load with update: when the access has succeeded, rA takes `ea` (R350). -/
def State.loadUpdate (s : State) (ea : Word) (n : Nat) (convert : BitVec 64 → Word) (rD rA : Reg) : Out :=
  (s.memRead ea n).finish fun v s => retire ((s.setX rD (convert v)).setX rA ea)

/-- A store of the low `n` bytes of `v` (R350). -/
def State.store (s : State) (ea : Word) (n : Nat) (v : Word) : Out :=
  (s.memWrite ea n (v.setWidth 64)).finish fun _ s => retire s

/-- A store with update: when the access has succeeded, rA takes `ea` (R350). -/
def State.storeUpdate (s : State) (ea : Word) (n : Nat) (v : Word) (rA : Reg) : Out :=
  (s.memWrite ea n (v.setWidth 64)).finish fun _ s => retire (s.setX rA ea)

/-- An access that must be word-aligned: the alignment exception (R105, R780), or its effect. -/
def State.wordAligned (s : State) (i : Instr) (raField : Bool) (ea : Word) (run : Out) : Out :=
  if alignedTo ea 4 then run else raiseAlignment i raField ea s

/-! ### Bytes, halfwords and words -/

/-- `lbz` (R351). -/
def execLbz (rD rA : Reg) (d : BitVec 16) (s : State) : Out :=
  s.load (s.eaD rA d) 1 zeroExtended rD

/-- `lbzu` (R352). -/
def execLbzu (rD rA : Reg) (d : BitVec 16) (s : State) : Out :=
  s.loadUpdate (s.eaDu rA d) 1 zeroExtended rD rA

/-- `lbzx` (R353). -/
def execLbzx (rD rA rB : Reg) (s : State) : Out :=
  s.load (s.eaX rA rB) 1 zeroExtended rD

/-- `lbzux` (R354). -/
def execLbzux (rD rA rB : Reg) (s : State) : Out :=
  s.loadUpdate (s.eaXu rA rB) 1 zeroExtended rD rA

/-- `stb` (R355). -/
def execStb (rS rA : Reg) (d : BitVec 16) (s : State) : Out :=
  s.store (s.eaD rA d) 1 (s.x rS)

/-- `stbu` (R356). -/
def execStbu (rS rA : Reg) (d : BitVec 16) (s : State) : Out :=
  s.storeUpdate (s.eaDu rA d) 1 (s.x rS) rA

/-- `stbx` (R357). -/
def execStbx (rS rA rB : Reg) (s : State) : Out :=
  s.store (s.eaX rA rB) 1 (s.x rS)

/-- `stbux` (R358). -/
def execStbux (rS rA rB : Reg) (s : State) : Out :=
  s.storeUpdate (s.eaXu rA rB) 1 (s.x rS) rA

/-- `lhz` (R359). -/
def execLhz (rD rA : Reg) (d : BitVec 16) (s : State) : Out :=
  s.load (s.eaD rA d) 2 zeroExtended rD

/-- `lhzu` (R360). -/
def execLhzu (rD rA : Reg) (d : BitVec 16) (s : State) : Out :=
  s.loadUpdate (s.eaDu rA d) 2 zeroExtended rD rA

/-- `lhzx` (R361). -/
def execLhzx (rD rA rB : Reg) (s : State) : Out :=
  s.load (s.eaX rA rB) 2 zeroExtended rD

/-- `lhzux` (R362). -/
def execLhzux (rD rA rB : Reg) (s : State) : Out :=
  s.loadUpdate (s.eaXu rA rB) 2 zeroExtended rD rA

/-- `lha` (R363). -/
def execLha (rD rA : Reg) (d : BitVec 16) (s : State) : Out :=
  s.load (s.eaD rA d) 2 algebraicHalf rD

/-- `lhau` (R364). -/
def execLhau (rD rA : Reg) (d : BitVec 16) (s : State) : Out :=
  s.loadUpdate (s.eaDu rA d) 2 algebraicHalf rD rA

/-- `lhax` (R365). -/
def execLhax (rD rA rB : Reg) (s : State) : Out :=
  s.load (s.eaX rA rB) 2 algebraicHalf rD

/-- `lhaux` (R366). -/
def execLhaux (rD rA rB : Reg) (s : State) : Out :=
  s.loadUpdate (s.eaXu rA rB) 2 algebraicHalf rD rA

/-- `sth` (R367). -/
def execSth (rS rA : Reg) (d : BitVec 16) (s : State) : Out :=
  s.store (s.eaD rA d) 2 (s.x rS)

/-- `sthu` (R368). -/
def execSthu (rS rA : Reg) (d : BitVec 16) (s : State) : Out :=
  s.storeUpdate (s.eaDu rA d) 2 (s.x rS) rA

/-- `sthx` (R369). -/
def execSthx (rS rA rB : Reg) (s : State) : Out :=
  s.store (s.eaX rA rB) 2 (s.x rS)

/-- `sthux` (R370). -/
def execSthux (rS rA rB : Reg) (s : State) : Out :=
  s.storeUpdate (s.eaXu rA rB) 2 (s.x rS) rA

/-- `lhbrx` (R371). -/
def execLhbrx (rD rA rB : Reg) (s : State) : Out :=
  s.load (s.eaX rA rB) 2 reversedHalf rD

/-- `sthbrx` (R372). -/
def execSthbrx (rS rA rB : Reg) (s : State) : Out :=
  s.store (s.eaX rA rB) 2 (reversedHalf ((s.x rS).setWidth 64))

/-- `lwz` (R373). -/
def execLwz (rD rA : Reg) (d : BitVec 16) (s : State) : Out :=
  s.load (s.eaD rA d) 4 zeroExtended rD

/-- `lwzu` (R374). -/
def execLwzu (rD rA : Reg) (d : BitVec 16) (s : State) : Out :=
  s.loadUpdate (s.eaDu rA d) 4 zeroExtended rD rA

/-- `lwzx` (R375). -/
def execLwzx (rD rA rB : Reg) (s : State) : Out :=
  s.load (s.eaX rA rB) 4 zeroExtended rD

/-- `lwzux` (R376). -/
def execLwzux (rD rA rB : Reg) (s : State) : Out :=
  s.loadUpdate (s.eaXu rA rB) 4 zeroExtended rD rA

/-- `stw` (R377). -/
def execStw (rS rA : Reg) (d : BitVec 16) (s : State) : Out :=
  s.store (s.eaD rA d) 4 (s.x rS)

/-- `stwu` (R378). -/
def execStwu (rS rA : Reg) (d : BitVec 16) (s : State) : Out :=
  s.storeUpdate (s.eaDu rA d) 4 (s.x rS) rA

/-- `stwx` (R379). -/
def execStwx (rS rA rB : Reg) (s : State) : Out :=
  s.store (s.eaX rA rB) 4 (s.x rS)

/-- `stwux` (R380). -/
def execStwux (rS rA rB : Reg) (s : State) : Out :=
  s.storeUpdate (s.eaXu rA rB) 4 (s.x rS) rA

/-- `lwbrx` (R381). -/
def execLwbrx (rD rA rB : Reg) (s : State) : Out :=
  s.load (s.eaX rA rB) 4 (fun v => reversedWord (v.setWidth 32)) rD

/-- `stwbrx` (R382). -/
def execStwbrx (rS rA rB : Reg) (s : State) : Out :=
  s.store (s.eaX rA rB) 4 (reversedWord (s.x rS))

/-! ### Multiple words (R395, R396) -/

/-- Load `count` words from `ea` on into `r`, `r + 1`, …: a word that faults leaves the registers before it loaded. -/
def loadWords : Nat → Reg → Word → State → Res Unit
  | 0, _, _, s => .ok () s
  | n + 1, r, ea, s => (s.memRead ea 4).bind fun v s => loadWords n (r + 1) (ea + 4) (s.setX r (zeroExtended v))

/-- Store `count` registers from `r` on in consecutive words: a word that faults leaves those before it stored. -/
def storeWords : Nat → Reg → Word → State → Res Unit
  | 0, _, _, s => .ok () s
  | n + 1, r, ea, s => (s.memWrite ea 4 ((s.x r).setWidth 64)).bind fun _ s => storeWords n (r + 1) (ea + 4) s

/-- `lmw` (R395). -/
def execLmw (rD rA : Reg) (d : BitVec 16) (s : State) : Out :=
  s.wordAligned (.lmw rD rA d) true (s.eaD rA d)
    ((loadWords (32 - rD.toNat) rD (s.eaD rA d) s).finish fun _ s => retire s)

/-- `stmw` (R396). -/
def execStmw (rS rA : Reg) (d : BitVec 16) (s : State) : Out :=
  s.wordAligned (.stmw rS rA d) false (s.eaD rA d)
    ((storeWords (32 - rS.toNat) rS (s.eaD rA d) s).finish fun _ s => retire s)

/-! ### Strings (R397 to R400) -/

/-- Read `n` bytes from `ea` on, each by an access of its own. -/
def readEach : Nat → Word → State → Res (List Byte)
  | 0, _, s => .ok [] s
  | n + 1, ea, s =>
    (s.memRead ea 1).bind fun v s => (readEach n (ea + 1) s).bind fun bs s => .ok (v.setWidth 8 :: bs) s

/-- Write bytes from `ea` on, each by an access of its own. -/
def writeEach : List Byte → Word → State → Res Unit
  | [], _, s => .ok () s
  | b :: bs, ea, s => (s.memWrite ea 1 (b.setWidth 64)).bind fun _ s => writeEach bs (ea + 1) s

/-- Up to four bytes in a register: the first the most significant, the missing ones 0 (R397). -/
def packLeft (bs : List Byte) : Word := (beValue bs).setWidth 32 <<< (8 * (4 - bs.length))

/-- Load a string of `bytes` bytes into `count` registers from `r` on, r31 being followed by r0. A byte that faults
leaves the registers before its own loaded (R395, R397). -/
def loadString : Nat → Nat → Reg → Word → State → Res Unit
  | 0, _, _, _, s => .ok () s
  | count + 1, bytes, r, ea, s =>
    (readEach (min 4 bytes) ea s).bind fun bs s => loadString count (bytes - 4) (r + 1) (ea + 4) (s.setX r (packLeft bs))

/-- The bytes of a string store: `bytes` bytes of the registers from `r` on, the most significant first (R399). -/
def State.stringBytes (s : State) (r : Reg) (bytes : Nat) : List Byte :=
  (List.range bytes).map fun i => (s.x (r + BitVec.ofNat 5 (i / 4))).extractLsb' (24 - 8 * (i % 4)) 8

/-- `lswi` (R397). -/
def execLswi (rD rA : Reg) (nb : BitVec 5) (s : State) : Out :=
  (loadString (stringRegs (stringCount nb)) (stringCount nb) rD (s.xOr0 rA) s).finish fun _ s => retire s

/-- `lswx` (R398): a range that holds rA or rB is an invalid form; with a count of 0 rD is a draw. -/
def execLswx (rD rA rB : Reg) (s : State) : Out :=
  let n := s.xerCount
  if n = 0 then retire (s.drawn.setX rD (s.free.setWidth 32))
  else if inLoadRange rD rA (stringRegs n) || inLoadRange rD rB (stringRegs n) then .refused .invalidForm
  else (loadString (stringRegs n) n rD (s.eaX rA rB) s).finish fun _ s => retire s

/-- `stswi` (R399). -/
def execStswi (rS rA : Reg) (nb : BitVec 5) (s : State) : Out :=
  (writeEach (s.stringBytes rS (stringCount nb)) (s.xOr0 rA) s).finish fun _ s => retire s

/-- `stswx` (R400). -/
def execStswx (rS rA rB : Reg) (s : State) : Out :=
  (writeEach (s.stringBytes rS s.xerCount) (s.eaX rA rB) s).finish fun _ s => retire s

end Sys2Proof.Machine
end

