-- ==== Sys2Proof/Machine/FloatMem.lean ====
section
/-! DEFINITION. The floating-point loads and stores (45_fp_instructions.md R510 to R531). Order of checks: MSR[FP],
alignment, then those of R129. -/

namespace Sys2Proof.Machine

/-- `SingleFromDouble(v)` (R531), where it is defined. -/
def singleFromDouble (v : Lane) : Option Word :=
  let e := expField v
  if 896 < e ∨ v.extractLsb' 0 63 = 0 then some (v.extractLsb' 62 2 ++ v.extractLsb' 29 30)
  else if 874 ≤ e then
    some (v.extractLsb' 63 1 ++ 0#8 ++ (BitVec.ofNat 23 ((2 ^ 52 + fracField v) / 2 ^ (926 - e))))
  else none

/-- The word a single-precision store writes: a draw where R531 leaves it undefined. -/
def State.singleImage (s : State) (v : Lane) : Word := (singleFromDouble v).getD (s.free.setWidth 32)

/-- The state after the word of a single-precision store is formed. -/
def State.afterImage (s : State) (v : Lane) : State := if (singleFromDouble v).isSome then s else s.drawn

/-- Read a doubleword: where `ea` is a multiple of 4 but not of 8, as two words, the lower first (R510). A device is not
read at such an address (R105). -/
def State.readDouble (s : State) (ea : Word) : Res Lane :=
  if alignedTo ea 8 then s.memRead ea 8
  else (s.readParts false [(ea, 4), (ea + 4, 4)]).bind fun bs s => .ok (beValue bs) s

/-- Write a doubleword, as two words where `ea` is not a multiple of 8: both are checked before either is stored, so
that nothing is stored when an exception is raised (R510). -/
def State.writeDouble (s : State) (ea : Word) (v : Lane) : Res Unit :=
  if alignedTo ea 8 then s.memWrite ea 8 v else s.storePair ea (ea + 4) 4 false (v >>> 32) v

/-- A single-precision load writes both lanes when HID2[PSE] is 1 (R47). -/
def State.setLoadedSingle (s : State) (frD : FReg) (w : Word) : State :=
  if s.pse then (s.setF0 frD (doubleFromSingle w)).setF1 frD (doubleFromSingle w)
  else s.setF0 frD (doubleFromSingle w)

/-- `x[rA] <- ea` in an update form. -/
def State.updateIf (s : State) (update : Bool) (rA : Reg) (ea : Word) : State := if update then s.setX rA ea else s

/-- A double-precision load by instruction `i`. -/
def State.loadFd (s : State) (i : Instr) (update : Bool) (frD : FReg) (rA : Reg) (ea : Word) : Out :=
  withFp s (s.wordAligned i update ea
    ((s.readDouble ea).finish fun v s => retire ((s.setF0 frD v).updateIf update rA ea)))

/-- A single-precision load by instruction `i`. -/
def State.loadFs (s : State) (i : Instr) (update : Bool) (frD : FReg) (rA : Reg) (ea : Word) : Out :=
  withFp s (s.wordAligned i update ea
    ((s.memRead ea 4).finish fun v s => retire ((s.setLoadedSingle frD (v.setWidth 32)).updateIf update rA ea)))

/-- A double-precision store by instruction `i`. -/
def State.storeFd (s : State) (i : Instr) (update : Bool) (frS : FReg) (rA : Reg) (ea : Word) : Out :=
  withFp s (s.wordAligned i update ea
    ((s.writeDouble ea (s.f0 frS)).finish fun _ s => retire (s.updateIf update rA ea)))

/-- A single-precision store by instruction `i`. -/
def State.storeFs (s : State) (i : Instr) (update : Bool) (frS : FReg) (rA : Reg) (ea : Word) : Out :=
  withFp s (s.wordAligned i update ea
    (((s.afterImage (s.f0 frS)).memWrite ea 4 ((s.singleImage (s.f0 frS)).setWidth 64)).finish fun _ s =>
      retire (s.updateIf update rA ea)))

/-- `lfd` (R511). -/
def execLfd (frD : FReg) (rA : Reg) (d : BitVec 16) (s : State) : Out :=
  s.loadFd (.lfd frD rA d) false frD rA (s.eaD rA d)

/-- `lfdu` (R512). -/
def execLfdu (frD : FReg) (rA : Reg) (d : BitVec 16) (s : State) : Out :=
  s.loadFd (.lfdu frD rA d) true frD rA (s.eaDu rA d)

/-- `lfdx` (R513). -/
def execLfdx (frD : FReg) (rA rB : Reg) (s : State) : Out :=
  s.loadFd (.lfdx frD rA rB) false frD rA (s.eaX rA rB)

/-- `lfdux` (R514). -/
def execLfdux (frD : FReg) (rA rB : Reg) (s : State) : Out :=
  s.loadFd (.lfdux frD rA rB) true frD rA (s.eaXu rA rB)

/-- `lfs` (R515). -/
def execLfs (frD : FReg) (rA : Reg) (d : BitVec 16) (s : State) : Out :=
  s.loadFs (.lfs frD rA d) false frD rA (s.eaD rA d)

/-- `lfsu` (R516). -/
def execLfsu (frD : FReg) (rA : Reg) (d : BitVec 16) (s : State) : Out :=
  s.loadFs (.lfsu frD rA d) true frD rA (s.eaDu rA d)

/-- `lfsx` (R517). -/
def execLfsx (frD : FReg) (rA rB : Reg) (s : State) : Out :=
  s.loadFs (.lfsx frD rA rB) false frD rA (s.eaX rA rB)

/-- `lfsux` (R518). -/
def execLfsux (frD : FReg) (rA rB : Reg) (s : State) : Out :=
  s.loadFs (.lfsux frD rA rB) true frD rA (s.eaXu rA rB)

/-- `stfd` (R519). -/
def execStfd (frS : FReg) (rA : Reg) (d : BitVec 16) (s : State) : Out :=
  s.storeFd (.stfd frS rA d) false frS rA (s.eaD rA d)

/-- `stfdu` (R520). -/
def execStfdu (frS : FReg) (rA : Reg) (d : BitVec 16) (s : State) : Out :=
  s.storeFd (.stfdu frS rA d) true frS rA (s.eaDu rA d)

/-- `stfdx` (R521). -/
def execStfdx (frS : FReg) (rA rB : Reg) (s : State) : Out :=
  s.storeFd (.stfdx frS rA rB) false frS rA (s.eaX rA rB)

/-- `stfdux` (R522). -/
def execStfdux (frS : FReg) (rA rB : Reg) (s : State) : Out :=
  s.storeFd (.stfdux frS rA rB) true frS rA (s.eaXu rA rB)

/-- `stfs` (R523). -/
def execStfs (frS : FReg) (rA : Reg) (d : BitVec 16) (s : State) : Out :=
  s.storeFs (.stfs frS rA d) false frS rA (s.eaD rA d)

/-- `stfsu` (R524). -/
def execStfsu (frS : FReg) (rA : Reg) (d : BitVec 16) (s : State) : Out :=
  s.storeFs (.stfsu frS rA d) true frS rA (s.eaDu rA d)

/-- `stfsx` (R525). -/
def execStfsx (frS : FReg) (rA rB : Reg) (s : State) : Out :=
  s.storeFs (.stfsx frS rA rB) false frS rA (s.eaX rA rB)

/-- `stfsux` (R526). -/
def execStfsux (frS : FReg) (rA rB : Reg) (s : State) : Out :=
  s.storeFs (.stfsux frS rA rB) true frS rA (s.eaXu rA rB)

/-- `stfiwx` (R527): the low half of lane 0. -/
def execStfiwx (frS : FReg) (rA rB : Reg) (s : State) : Out :=
  withFp s (s.wordAligned (.stfiwx frS rA rB) false (s.eaX rA rB)
    ((s.memWrite (s.eaX rA rB) 4 (s.f0 frS)).finish fun _ s => retire s))

end Sys2Proof.Machine
end

