-- ==== Sys2Proof/Machine/Integer.lean ====
section
/-! DEFINITION. The integer arithmetic instructions (40_integer_arithmetic.md). -/

namespace Sys2Proof.Machine

/-- The state after an XO-form instruction has its result `r` and overflow `ov`: rD, then `SetOV` if OE, then CR0 if
Rc (R200). -/
def State.arith (s : State) (rD : Reg) (r : Word) (ov oe rc : Bool) : State :=
  ((s.setX rD r).setOvIf oe ov).recordIf rc r

/-- `a + b + c` (R201 to R215: a subtraction adds the complement). -/
def sum32 (a b : Word) (c : Bool) : Word := a + b + (BitVec.ofBool c).setWidth 32

/-- The state after an addition that does not write XER[CA]. -/
def State.added (s : State) (rD : Reg) (a b : Word) (c oe rc : Bool) : State :=
  s.arith rD (sum32 a b c) (ovf32 a b c) oe rc

/-- The state after an addition that writes XER[CA]. -/
def State.addedCarrying (s : State) (rD : Reg) (a b : Word) (c oe rc : Bool) : State :=
  (s.setCa (carry32 a b c)).added rD a b c oe rc

/-- `add` (R201). -/
def execAdd (rD rA rB : Reg) (oe rc : Bool) (s : State) : Out :=
  retire (s.added rD (s.x rA) (s.x rB) false oe rc)

/-- `addc` (R202). -/
def execAddc (rD rA rB : Reg) (oe rc : Bool) (s : State) : Out :=
  retire (s.addedCarrying rD (s.x rA) (s.x rB) false oe rc)

/-- `adde` (R203). -/
def execAdde (rD rA rB : Reg) (oe rc : Bool) (s : State) : Out :=
  retire (s.addedCarrying rD (s.x rA) (s.x rB) s.ca oe rc)

/-- `addi` (R204): rA = 0 means the constant 0. -/
def execAddi (rD rA : Reg) (simm : BitVec 16) (s : State) : Out :=
  retire (s.setX rD (s.xOr0 rA + simm32 simm))

/-- `addic` (R205). -/
def execAddic (rD rA : Reg) (simm : BitVec 16) (s : State) : Out :=
  retire (s.addedCarrying rD (s.x rA) (simm32 simm) false false false)

/-- `addic.` (R206). -/
def execAddicRc (rD rA : Reg) (simm : BitVec 16) (s : State) : Out :=
  retire (s.addedCarrying rD (s.x rA) (simm32 simm) false false true)

/-- `addis` (R207): rA = 0 means the constant 0. -/
def execAddis (rD rA : Reg) (simm : BitVec 16) (s : State) : Out :=
  retire (s.setX rD (s.xOr0 rA + shifted32 simm))

/-- `addme` (R208). -/
def execAddme (rD rA : Reg) (oe rc : Bool) (s : State) : Out :=
  retire (s.addedCarrying rD (s.x rA) 0xFFFFFFFF s.ca oe rc)

/-- `addze` (R209). -/
def execAddze (rD rA : Reg) (oe rc : Bool) (s : State) : Out :=
  retire (s.addedCarrying rD (s.x rA) 0 s.ca oe rc)

/-- `subf` (R210): x[rB] - x[rA]. -/
def execSubf (rD rA rB : Reg) (oe rc : Bool) (s : State) : Out :=
  retire (s.added rD (~~~s.x rA) (s.x rB) true oe rc)

/-- `subfc` (R211). -/
def execSubfc (rD rA rB : Reg) (oe rc : Bool) (s : State) : Out :=
  retire (s.addedCarrying rD (~~~s.x rA) (s.x rB) true oe rc)

/-- `subfe` (R212). -/
def execSubfe (rD rA rB : Reg) (oe rc : Bool) (s : State) : Out :=
  retire (s.addedCarrying rD (~~~s.x rA) (s.x rB) s.ca oe rc)

/-- `subfic` (R213). -/
def execSubfic (rD rA : Reg) (simm : BitVec 16) (s : State) : Out :=
  retire (s.addedCarrying rD (~~~s.x rA) (simm32 simm) true false false)

/-- `subfme` (R214). -/
def execSubfme (rD rA : Reg) (oe rc : Bool) (s : State) : Out :=
  retire (s.addedCarrying rD (~~~s.x rA) 0xFFFFFFFF s.ca oe rc)

/-- `subfze` (R215). -/
def execSubfze (rD rA : Reg) (oe rc : Bool) (s : State) : Out :=
  retire (s.addedCarrying rD (~~~s.x rA) 0 s.ca oe rc)

/-- `neg` (R216). -/
def execNeg (rD rA : Reg) (oe rc : Bool) (s : State) : Out :=
  retire (s.arith rD (~~~s.x rA + 1) (s.x rA == 0x80000000) oe rc)

/-- The exact signed product. -/
def signedProduct (a b : Word) : Int := a.toInt * b.toInt

/-- `mulhw` (R217): bits 63:32 of the signed product. -/
def execMulhw (rD rA rB : Reg) (rc : Bool) (s : State) : Out :=
  retire (s.arith rD ((BitVec.ofInt 64 (signedProduct (s.x rA) (s.x rB))).extractLsb' 32 32) false false rc)

/-- `mulhwu` (R218): bits 63:32 of the unsigned product. -/
def execMulhwu (rD rA rB : Reg) (rc : Bool) (s : State) : Out :=
  retire (s.arith rD ((BitVec.ofNat 64 ((s.x rA).toNat * (s.x rB).toNat)).extractLsb' 32 32) false false rc)

/-- `mullw` (R219). -/
def execMullw (rD rA rB : Reg) (oe rc : Bool) (s : State) : Out :=
  let p := signedProduct (s.x rA) (s.x rB)
  retire (s.arith rD (BitVec.ofInt 32 p) (decide (p < -2 ^ 31 ∨ 2 ^ 31 ≤ p)) oe rc)

/-- `mulli` (R220). -/
def execMulli (rD rA : Reg) (simm : BitVec 16) (s : State) : Out :=
  retire (s.setX rD (BitVec.ofInt 32 (signedProduct (s.x rA) (simm32 simm))))

/-- The operands for which `divw` leaves its result undefined (R221). -/
def divwUndefined (a b : Word) : Bool := b == 0 || (a == 0x80000000 && b == 0xFFFFFFFF)

/-- `divw` (R221): the undefined quotients are draws (D15), OV says which they are. -/
def execDivw (rD rA rB : Reg) (oe rc : Bool) (s : State) : Out :=
  if divwUndefined (s.x rA) (s.x rB) then retire (s.drawn.arith rD (s.free.setWidth 32) true oe rc)
  else retire (s.arith rD (BitVec.ofInt 32 ((s.x rA).toInt.tdiv (s.x rB).toInt)) false oe rc)

/-- `divwu` (R222): the quotient by 0 is a draw (D15). -/
def execDivwu (rD rA rB : Reg) (oe rc : Bool) (s : State) : Out :=
  if s.x rB = 0 then retire (s.drawn.arith rD (s.free.setWidth 32) true oe rc)
  else retire (s.arith rD (s.x rA / s.x rB) false oe rc)

end Sys2Proof.Machine
end

