-- ==== Sys2Proof/Machine/Logical.lean ====
section
/-! DEFINITION. The logical, shift and rotate instructions (41_logical_shift_rotate.md). -/

namespace Sys2Proof.Machine

/-- The state after the result `r` is written to rA and recorded if Rc is 1 (R250). -/
def State.logic (s : State) (rA : Reg) (r : Word) (rc : Bool) : State := (s.setX rA r).recordIf rc r

/-- `and` (R251). -/
def execAnd (rS rA rB : Reg) (rc : Bool) (s : State) : Out := retire (s.logic rA (s.x rS &&& s.x rB) rc)

/-- `andc` (R252). -/
def execAndc (rS rA rB : Reg) (rc : Bool) (s : State) : Out := retire (s.logic rA (s.x rS &&& ~~~s.x rB) rc)

/-- `andi.` (R253). -/
def execAndiRc (rS rA : Reg) (uimm : BitVec 16) (s : State) : Out :=
  retire (s.logic rA (s.x rS &&& uimm32 uimm) true)

/-- `andis.` (R254). -/
def execAndisRc (rS rA : Reg) (uimm : BitVec 16) (s : State) : Out :=
  retire (s.logic rA (s.x rS &&& shifted32 uimm) true)

/-- `or` (R255). -/
def execOr (rS rA rB : Reg) (rc : Bool) (s : State) : Out := retire (s.logic rA (s.x rS ||| s.x rB) rc)

/-- `orc` (R256). -/
def execOrc (rS rA rB : Reg) (rc : Bool) (s : State) : Out := retire (s.logic rA (s.x rS ||| ~~~s.x rB) rc)

/-- `ori` (R257). -/
def execOri (rS rA : Reg) (uimm : BitVec 16) (s : State) : Out :=
  retire (s.logic rA (s.x rS ||| uimm32 uimm) false)

/-- `oris` (R258). -/
def execOris (rS rA : Reg) (uimm : BitVec 16) (s : State) : Out :=
  retire (s.logic rA (s.x rS ||| shifted32 uimm) false)

/-- `xor` (R259). -/
def execXor (rS rA rB : Reg) (rc : Bool) (s : State) : Out := retire (s.logic rA (s.x rS ^^^ s.x rB) rc)

/-- `xori` (R260). -/
def execXori (rS rA : Reg) (uimm : BitVec 16) (s : State) : Out :=
  retire (s.logic rA (s.x rS ^^^ uimm32 uimm) false)

/-- `xoris` (R261). -/
def execXoris (rS rA : Reg) (uimm : BitVec 16) (s : State) : Out :=
  retire (s.logic rA (s.x rS ^^^ shifted32 uimm) false)

/-- `nand` (R262). -/
def execNand (rS rA rB : Reg) (rc : Bool) (s : State) : Out := retire (s.logic rA (~~~(s.x rS &&& s.x rB)) rc)

/-- `nor` (R263). -/
def execNor (rS rA rB : Reg) (rc : Bool) (s : State) : Out := retire (s.logic rA (~~~(s.x rS ||| s.x rB)) rc)

/-- `eqv` (R264). -/
def execEqv (rS rA rB : Reg) (rc : Bool) (s : State) : Out := retire (s.logic rA (~~~(s.x rS ^^^ s.x rB)) rc)

/-- The shift amount of `slw`, `srw` and `sraw`: six bits (R270). -/
def shiftAmount (b : Word) : Nat := (b.extractLsb' 0 6).toNat

/-- `slw` (R270): amounts of 32 and above give 0. -/
def execSlw (rS rA rB : Reg) (rc : Bool) (s : State) : Out :=
  retire (s.logic rA (s.x rS <<< shiftAmount (s.x rB)) rc)

/-- `srw` (R271): amounts of 32 and above give 0. -/
def execSrw (rS rA rB : Reg) (rc : Bool) (s : State) : Out :=
  retire (s.logic rA (s.x rS >>> shiftAmount (s.x rB)) rc)

/-- The state after an algebraic right shift by `n`. -/
def State.shiftedAlgebraic (s : State) (rS rA : Reg) (n : Nat) (rc : Bool) : State :=
  let (r, ca) := shiftRightAlgebraic (s.x rS) n
  (s.setCa ca).logic rA r rc

/-- `sraw` (R272). -/
def execSraw (rS rA rB : Reg) (rc : Bool) (s : State) : Out :=
  retire (s.shiftedAlgebraic rS rA (shiftAmount (s.x rB)) rc)

/-- `srawi` (R273). -/
def execSrawi (rS rA : Reg) (sh : BitVec 5) (rc : Bool) (s : State) : Out :=
  retire (s.shiftedAlgebraic rS rA sh.toNat rc)

/-- `rlwimi` (R274): the bits outside the mask keep rA's old value. -/
def execRlwimi (rS rA : Reg) (sh mb me : BitVec 5) (rc : Bool) (s : State) : Out :=
  let m := maskMbMe mb me
  retire (s.logic rA ((rotl32 (s.x rS) sh &&& m) ||| (s.x rA &&& ~~~m)) rc)

/-- `rlwinm` (R275). -/
def execRlwinm (rS rA : Reg) (sh mb me : BitVec 5) (rc : Bool) (s : State) : Out :=
  retire (s.logic rA (rotl32 (s.x rS) sh &&& maskMbMe mb me) rc)

/-- `rlwnm` (R276): the amount is the low five bits of x[rB]. -/
def execRlwnm (rS rA rB : Reg) (mb me : BitVec 5) (rc : Bool) (s : State) : Out :=
  retire (s.logic rA (rotl32 (s.x rS) ((s.x rB).extractLsb' 0 5) &&& maskMbMe mb me) rc)

end Sys2Proof.Machine
end

