-- ==== Sys2Proof/Machine/Paired.lean ====
section
/-! DEFINITION. The paired-single and quantized instructions (48_paired_single.md). Lane 0 is `ps0`, lane 1 is `ps1`. -/

namespace Sys2Proof.Machine

/-! ### Quantization (R664, R665) -/

/-- A type code of a graphics quantization register (R62). -/
inductive QuantType where
  | float
  | u8
  | u16
  | s8
  | s16
deriving DecidableEq, Repr

/-- The meaning of a type code; codes 1, 2 and 3 are reserved (R62). -/
def quantType (code : BitVec 3) : Option QuantType :=
  match code.toNat with
  | 0 => some .float
  | 4 => some .u8
  | 5 => some .u16
  | 6 => some .s8
  | 7 => some .s16
  | _ => none

/-- The size of one value in bytes (R666). -/
def QuantType.size : QuantType → Nat
  | .float => 4
  | .u8 | .s8 => 1
  | .u16 | .s16 => 2

/-- The integer `(-1)^neg * mant * 2^(exp)` becomes when rounded as `QuantRound` says (R665). -/
def quantInteger (q : QuantRound) (neg : Bool) (mant : Nat) (exp : Int) : Int :=
  match q with
  | .towardZero => signedMant neg (roundAt 1 neg mant exp false 0).n
  | .nearestEven => signedMant neg (roundAt 0 neg mant exp false 0).n
  | .up => signedMant neg (roundAt 2 neg mant exp false 0).n
  | .down => signedMant neg (roundAt 3 neg mant exp false 0).n
  | .nearestAway => signedMant neg (((roundAt 1 neg mant (exp + 1) false 0).n + 1) / 2)

/-- The smallest and largest integer of a type (R665). -/
def QuantType.range : QuantType → Int × Int
  | .u8 => (0, 255)
  | .u16 => (0, 65535)
  | .s8 => (-128, 127)
  | .s16 => (-32768, 32767)
  | .float => (0, 0)

/-- `n` moved into the type's range. -/
def QuantType.saturate (t : QuantType) (n : Int) : Int := max t.range.1 (min t.range.2 n)

/-- `Dequant(type, scale, raw)` (R664). -/
def dequant (t : QuantType) (scale : BitVec 6) (raw : BitVec 64) : Lane :=
  let scaled (n : Int) : Lane := pack (decide (n < 0)) n.natAbs (-scale.toInt)
  match t with
  | .float => doubleFromSingle (raw.setWidth 32)
  | .u8 => scaled (raw.extractLsb' 0 8).toNat
  | .u16 => scaled (raw.extractLsb' 0 16).toNat
  | .s8 => scaled (raw.extractLsb' 0 8).toInt
  | .s16 => scaled (raw.extractLsb' 0 16).toInt

/-- `Quant(type, scale, v)` (R665): the value in the low bytes. A NaN, and a float that R531 leaves undefined, store
the draw given. -/
def quant (q : QuantRound) (t : QuantType) (scale : BitVec 6) (v : Lane) (draw : BitVec 64) : BitVec 64 :=
  match t with
  | .float => ((singleFromDouble v).getD (draw.setWidth 32)).setWidth 64
  | t =>
    match unpack v with
    | .nan => draw
    | .inf neg => BitVec.ofInt 64 (if neg then t.range.1 else t.range.2)
    | .zero _ => 0
    | .finite neg mant exp => BitVec.ofInt 64 (t.saturate (quantInteger q neg mant (exp + scale.toInt)))

/-! ### Quantized loads and stores (R666) -/

/-- GQR[I]. -/
def State.gqrOf (s : State) (i : BitVec 3) : Word := s.gqr.get i.toFin

/-- LD_TYPE and LD_SCALE (R62). -/
def loadType (g : Word) : Option QuantType := quantType (g.extractLsb' 16 3)
/-- LD_SCALE (R62). -/
def loadScale (g : Word) : BitVec 6 := g.extractLsb' 24 6
/-- ST_TYPE (R62). -/
def storeType (g : Word) : Option QuantType := quantType (g.extractLsb' 0 3)
/-- ST_SCALE (R62). -/
def storeScale (g : Word) : BitVec 6 := g.extractLsb' 8 6

/-- The value 1.0 (R666). -/
def laneOne : Lane := 0x3FF0000000000000

/-- Read the two lanes of a quantized load (R666): with W = 1 lane 1 is 1.0. -/
def State.readQuantized (s : State) (t : QuantType) (scale : BitVec 6) (single : Bool) (ea : Word) : Res (Lane × Lane) :=
  if single then (s.memRead ea t.size).bind fun v s => .ok (dequant t scale v, laneOne) s
  else
    (s.loadPair ea (ea + BitVec.ofNat 32 t.size) t.size true).bind fun v s =>
      .ok (dequant t scale v.1, dequant t scale v.2) s

/-- Write the lanes of a quantized store (R666): with W = 1 lane 0 only. Each lane has its own draw. -/
def State.writeQuantized (s : State) (t : QuantType) (scale : BitVec 6) (single : Bool) (ea : Word) (v0 v1 : Lane) :
    Res Unit :=
  let q0 := quant s.params.quantRound t scale v0 (s.freeAt 0)
  let q1 := quant s.params.quantRound t scale v1 (s.freeAt 1)
  if single then (s.drawnBy 2).memWrite ea t.size q0
  else (s.drawnBy 2).storePair ea (ea + BitVec.ofNat 32 t.size) t.size true q0 q1

/-- A quantized load: a reserved type and a misaligned address are refused (R664, R105). -/
def State.loadQuantized (s : State) (update single : Bool) (i : BitVec 3) (frD : FReg) (rA : Reg) (ea : Word) : Out :=
  withQuantized s (
    match loadType (s.gqrOf i) with
    | none => .refused .quantizedType
    | some t =>
      if !alignedTo ea t.size then .refused .quantizedMisaligned
      else
        (s.readQuantized t (loadScale (s.gqrOf i)) single ea).finish fun v s =>
          retire (((s.setF0 frD v.1).setF1 frD v.2).updateIf update rA ea))

/-- A quantized store: a reserved type and a misaligned address are refused (R665, R105). A ps0 that is not
single-representable is stored by R665 and R531 like any other value, although D17 makes a paired-single read of it a draw
(DEDUCED, assumption 48). -/
def State.storeQuantized (s : State) (update single : Bool) (i : BitVec 3) (frS : FReg) (rA : Reg) (ea : Word) : Out :=
  withQuantized s (
    match storeType (s.gqrOf i) with
    | none => .refused .quantizedType
    | some t =>
      if !alignedTo ea t.size then .refused .quantizedMisaligned
      else
        (s.writeQuantized t (storeScale (s.gqrOf i)) single ea (s.f0 frS) (s.f1 frS)).finish fun _ s =>
          retire (s.updateIf update rA ea))

/-- `psq_l` (R670). -/
def execPsqL (frD : FReg) (rA : Reg) (single : Bool) (gqr : BitVec 3) (d12 : BitVec 12) (s : State) : Out :=
  s.loadQuantized false single gqr frD rA (s.eaQ rA d12)

/-- `psq_lu` (R671). -/
def execPsqLu (frD : FReg) (rA : Reg) (single : Bool) (gqr : BitVec 3) (d12 : BitVec 12) (s : State) : Out :=
  s.loadQuantized true single gqr frD rA (s.eaQu rA d12)

/-- `psq_lx` (R672). -/
def execPsqLx (frD : FReg) (rA rB : Reg) (single : Bool) (gqr : BitVec 3) (s : State) : Out :=
  s.loadQuantized false single gqr frD rA (s.eaX rA rB)

/-- `psq_lux` (R673). -/
def execPsqLux (frD : FReg) (rA rB : Reg) (single : Bool) (gqr : BitVec 3) (s : State) : Out :=
  s.loadQuantized true single gqr frD rA (s.eaXu rA rB)

/-- `psq_st` (R674). -/
def execPsqSt (frS : FReg) (rA : Reg) (single : Bool) (gqr : BitVec 3) (d12 : BitVec 12) (s : State) : Out :=
  s.storeQuantized false single gqr frS rA (s.eaQ rA d12)

/-- `psq_stu` (R675). -/
def execPsqStu (frS : FReg) (rA : Reg) (single : Bool) (gqr : BitVec 3) (d12 : BitVec 12) (s : State) : Out :=
  s.storeQuantized true single gqr frS rA (s.eaQu rA d12)

/-- `psq_stx` (R676). -/
def execPsqStx (frS : FReg) (rA rB : Reg) (single : Bool) (gqr : BitVec 3) (s : State) : Out :=
  s.storeQuantized false single gqr frS rA (s.eaX rA rB)

/-- `psq_stux` (R677). -/
def execPsqStux (frS : FReg) (rA rB : Reg) (single : Bool) (gqr : BitVec 3) (s : State) : Out :=
  s.storeQuantized true single gqr frS rA (s.eaXu rA rB)

/-! ### Paired arithmetic (R662, R663) -/

/-- What one lane of a paired operation does: its outcome, whether a `ps0` it reads is not single-representable, and
whether it only copies (R697, R698), which is no arithmetic. -/
structure LaneOp where
  out    : FpOut
  opened : Bool
  copied : Bool

/-- A lane that computes `o` from the given `ps0` values, among others that are always single-representable. -/
def laneOp (reads : List Lane) (o : FpOut) : LaneOp := ⟨o, reads.any (fun v => !singleRepresentable v), false⟩

/-- A lane's outcome in the current mode: a copy is not affected by NI (R436). -/
def State.laneInMode (s : State) (result : BitVec 64) (op : LaneOp) : FpOut :=
  if op.copied then op.out else s.inMode single arithmeticBits result op.out

/-- The lane is free because of what it reads (R660). In non-IEEE mode a computed lane is free already. -/
def State.laneOpen (s : State) (op : LaneOp) : Bool := op.opened && (op.copied || !niOf s.fpscr)

/-- The target of a paired instruction: both lanes, free where they depend on a `ps0` that is not single-representable
(R660). Lane 1 stays single-representable (R46). -/
def State.writePair (s : State) (frD : FReg) (r0 r1 : Lane) (open0 open1 : Bool) (draw0 draw1 : BitVec 64) : State :=
  (s.setF0 frD (if open0 then draw0 else r0)).setF1 frD (if open1 then doubleFromSingle (draw1.setWidth 32) else r1)

/-- The end of paired arithmetic: the exception bits of both lanes, FPRF, FR and FI of the lane `main`; if either lane
has an enabled invalid operation or zero divide, neither is written (R663). `after` gives FPSCR from the outcome that
counts, the bits raised, and whether FPRF is free. -/
def State.arithPair (s : State) (frD : FReg) (rc : Bool) (op0 op1 : LaneOp) (mainIs1 : Bool)
    (after : FpOut → Word → Bool → Word) : Out :=
  let o0 := s.laneInMode (s.freeAt 1) op0
  let o1 := s.laneInMode (s.freeAt 2) op1
  let v := after (if mainIs1 then o1 else o0) (o0.raised ||| o1.raised) (s.laneOpen op0 || s.laneOpen op1)
  let s1 := { s.drawnBy 3 with fpscr := v }
  (if o0.writes && o1.writes then
      s1.writePair frD o0.result o1.result (s.laneOpen op0) (s.laneOpen op1) (s.freeAt 1) (s.freeAt 2)
    else s1).finishFp rc

/-- Paired arithmetic whose FPRF, FR and FI are lane 0's. -/
def State.arithLanes (s : State) (frD : FReg) (rc : Bool) (op0 op1 : LaneOp) : Out :=
  withPaired s (s.arithPair frD rc op0 op1 false s.fpscrAfter)

/-- `ps_add` (R680). -/
def execPsAdd (frD frA frB : FReg) (rc : Bool) (s : State) : Out :=
  s.arithLanes frD rc (laneOp [s.f0 frA, s.f0 frB] (fpAdd single s.fpscr (s.f0 frA) (s.f0 frB)))
    (laneOp [] (fpAdd single s.fpscr (s.f1 frA) (s.f1 frB)))

/-- `ps_sub` (R681). -/
def execPsSub (frD frA frB : FReg) (rc : Bool) (s : State) : Out :=
  s.arithLanes frD rc (laneOp [s.f0 frA, s.f0 frB] (fpSub single s.fpscr (s.f0 frA) (s.f0 frB)))
    (laneOp [] (fpSub single s.fpscr (s.f1 frA) (s.f1 frB)))

/-- `ps_div` (R683). -/
def execPsDiv (frD frA frB : FReg) (rc : Bool) (s : State) : Out :=
  s.arithLanes frD rc (laneOp [s.f0 frA, s.f0 frB] (fpDiv single s.fpscr (s.f0 frA) (s.f0 frB)))
    (laneOp [] (fpDiv single s.fpscr (s.f1 frA) (s.f1 frB)))

/-- `ps_mul` (R682). -/
def execPsMul (frD frA frC : FReg) (rc : Bool) (s : State) : Out :=
  s.arithLanes frD rc (laneOp [s.f0 frA, s.f0 frC] (fpMul single s.fpscr (s.f0 frA) (s.f0 frC)))
    (laneOp [] (fpMul single s.fpscr (s.f1 frA) (s.f1 frC)))

/-- `ps_muls0` (R699). -/
def execPsMuls0 (frD frA frC : FReg) (rc : Bool) (s : State) : Out :=
  s.arithLanes frD rc (laneOp [s.f0 frA, s.f0 frC] (fpMul single s.fpscr (s.f0 frA) (s.f0 frC)))
    (laneOp [s.f0 frC] (fpMul single s.fpscr (s.f1 frA) (s.f0 frC)))

/-- `ps_muls1` (R700). -/
def execPsMuls1 (frD frA frC : FReg) (rc : Bool) (s : State) : Out :=
  s.arithLanes frD rc (laneOp [s.f0 frA] (fpMul single s.fpscr (s.f0 frA) (s.f1 frC)))
    (laneOp [] (fpMul single s.fpscr (s.f1 frA) (s.f1 frC)))

/-- `ps_madd` (R687). -/
def execPsMadd (frD frA frB frC : FReg) (rc : Bool) (s : State) : Out :=
  s.arithLanes frD rc (laneOp [s.f0 frA, s.f0 frC, s.f0 frB] (fpMulAdd single s.fpscr false (s.f0 frA) (s.f0 frC) (s.f0 frB)))
    (laneOp [] (fpMulAdd single s.fpscr false (s.f1 frA) (s.f1 frC) (s.f1 frB)))

/-- `ps_msub` (R690). -/
def execPsMsub (frD frA frB frC : FReg) (rc : Bool) (s : State) : Out :=
  s.arithLanes frD rc (laneOp [s.f0 frA, s.f0 frC, s.f0 frB] (fpMulAdd single s.fpscr true (s.f0 frA) (s.f0 frC) (s.f0 frB)))
    (laneOp [] (fpMulAdd single s.fpscr true (s.f1 frA) (s.f1 frC) (s.f1 frB)))

/-- `ps_nmadd` (R691). -/
def execPsNmadd (frD frA frB frC : FReg) (rc : Bool) (s : State) : Out :=
  s.arithLanes frD rc (laneOp [s.f0 frA, s.f0 frC, s.f0 frB] ((fpMulAdd single s.fpscr false (s.f0 frA) (s.f0 frC) (s.f0 frB)).negated))
    (laneOp [] ((fpMulAdd single s.fpscr false (s.f1 frA) (s.f1 frC) (s.f1 frB)).negated))

/-- `ps_nmsub` (R692). -/
def execPsNmsub (frD frA frB frC : FReg) (rc : Bool) (s : State) : Out :=
  s.arithLanes frD rc (laneOp [s.f0 frA, s.f0 frC, s.f0 frB] ((fpMulAdd single s.fpscr true (s.f0 frA) (s.f0 frC) (s.f0 frB)).negated))
    (laneOp [] ((fpMulAdd single s.fpscr true (s.f1 frA) (s.f1 frC) (s.f1 frB)).negated))

/-- `ps_madds0` (R688). -/
def execPsMadds0 (frD frA frB frC : FReg) (rc : Bool) (s : State) : Out :=
  s.arithLanes frD rc (laneOp [s.f0 frA, s.f0 frC, s.f0 frB] (fpMulAdd single s.fpscr false (s.f0 frA) (s.f0 frC) (s.f0 frB)))
    (laneOp [s.f0 frC] (fpMulAdd single s.fpscr false (s.f1 frA) (s.f0 frC) (s.f1 frB)))

/-- `ps_madds1` (R689). -/
def execPsMadds1 (frD frA frB frC : FReg) (rc : Bool) (s : State) : Out :=
  s.arithLanes frD rc (laneOp [s.f0 frA, s.f0 frB] (fpMulAdd single s.fpscr false (s.f0 frA) (s.f1 frC) (s.f0 frB)))
    (laneOp [] (fpMulAdd single s.fpscr false (s.f1 frA) (s.f1 frC) (s.f1 frB)))

/-- A lane that is copied: no flag is raised (R697, R698). `opened` says that it is a `ps0` that is not
single-representable. -/
def copyLane (v : Lane) (opened : Bool) : LaneOp := ⟨.exact 0 v 0, opened, true⟩

/-- `ps_sum0` (R697). -/
def execPsSum0 (frD frA frB frC : FReg) (rc : Bool) (s : State) : Out :=
  withPaired s
    (s.arithPair frD rc (laneOp [s.f0 frA] (fpAdd single s.fpscr (s.f0 frA) (s.f1 frB)))
      (copyLane (s.f1 frC) false) false s.fpscrAfter)

/-- `ps_sum1` (R698): FPRF, FR and FI are the addition's. -/
def execPsSum1 (frD frA frB frC : FReg) (rc : Bool) (s : State) : Out :=
  withPaired s
    (s.arithPair frD rc (copyLane (s.f0 frC) !singleRepresentable (s.f0 frC))
      (laneOp [s.f0 frA] (fpAdd single s.fpscr (s.f0 frA) (s.f1 frB))) true s.fpscrAfter)

/-! ### Estimates (R694, R695) -/

/-- The single-precision estimate of 1/sqrt(x): `FrsqrteEst` rounded to single (R695). The rounding is as with overflow and
underflow disabled and raises nothing: the rule does not say, and lists neither OX nor UX (DEDUCED, assumption 23). -/
def reciprocalSqrtSingle (fpscr : Word) (b : Lane) : Lane :=
  (fpRoundSingle (fpscr &&& 0xFFFFFF9F) (estimateDouble (Config.frsqrteEst b))).result

/-- A lane of a paired estimate. -/
def estimateLane (reads : List Lane) (e : Estimate) : LaneOp := laneOp reads e.out

/-- A paired estimate: FR, FI and XX are undefined, but FR and FI are 0 where both lanes are a zero divide (R429, R694,
R695; assumption 23). -/
def State.estimatePair (s : State) (frD frB : FReg) (rc : Bool) (e0 e1 : Estimate) : Out :=
  withPaired s (s.arithPair frD rc (estimateLane [s.f0 frB] e0) (estimateLane [] e1) false
    fun o raised classOpen => s.fpscrAfterEstimate o raised classOpen (e0.zeroDivide && e1.zeroDivide && !niOf s.fpscr))

/-- `ps_res` (R694). -/
def execPsRes (frD frB : FReg) (rc : Bool) (s : State) : Out :=
  s.estimatePair frD frB rc (fpReciprocal s.fpscr (s.f0 frB) (s.freeAt 0))
    (fpReciprocal s.fpscr (s.f1 frB) (s.freeAt 0 >>> 2))

/-- `ps_rsqrte` (R695). -/
def execPsRsqrte (frD frB : FReg) (rc : Bool) (s : State) : Out :=
  s.estimatePair frD frB rc (fpReciprocalSqrt single s.fpscr (s.f0 frB) (reciprocalSqrtSingle s.fpscr (s.f0 frB)))
    (fpReciprocalSqrt single s.fpscr (s.f1 frB) (reciprocalSqrtSingle s.fpscr (s.f1 frB)))

/-! ### Moves, select and merge (R684 to R686, R693, R696, R701 to R704) -/

/-- The end of a paired move: a lane taken from a `ps0` that is not single-representable is free (R660); `from0` and
`from1` are the `ps0` values the lanes depend on. FPSCR does not change. -/
def State.movePair (s : State) (frD : FReg) (rc : Bool) (r0 r1 : Lane) (from0 from1 : List Lane) : Out :=
  withPaired s
    (((s.drawnBy 2).writePair frD r0 r1 (from0.any (fun v => !singleRepresentable v))
      (from1.any (fun v => !singleRepresentable v)) (s.freeAt 0) (s.freeAt 1)).finishMove rc)

/-- `ps_abs` (R684). -/
def execPsAbs (frD frB : FReg) (rc : Bool) (s : State) : Out :=
  s.movePair frD rc (withSign (s.f0 frB) false) (withSign (s.f1 frB) false) [s.f0 frB] []

/-- `ps_neg` (R685). -/
def execPsNeg (frD frB : FReg) (rc : Bool) (s : State) : Out :=
  s.movePair frD rc (flipSign (s.f0 frB)) (flipSign (s.f1 frB)) [s.f0 frB] []

/-- `ps_nabs` (R686). -/
def execPsNabs (frD frB : FReg) (rc : Bool) (s : State) : Out :=
  s.movePair frD rc (withSign (s.f0 frB) true) (withSign (s.f1 frB) true) [s.f0 frB] []

/-- `ps_mr` (R693). -/
def execPsMr (frD frB : FReg) (rc : Bool) (s : State) : Out :=
  s.movePair frD rc (s.f0 frB) (s.f1 frB) [s.f0 frB] []

/-- `ps_sel` (R696). -/
def execPsSel (frD frA frB frC : FReg) (rc : Bool) (s : State) : Out :=
  let r0 := if selectsFirst (s.f0 frA) then s.f0 frC else s.f0 frB
  let r1 := if selectsFirst (s.f1 frA) then s.f1 frC else s.f1 frB
  s.movePair frD rc r0 r1 [s.f0 frA, r0] []

/-- `ps_merge00` (R701). -/
def execPsMerge00 (frD frA frB : FReg) (rc : Bool) (s : State) : Out :=
  s.movePair frD rc (s.f0 frA) (s.f0 frB) [s.f0 frA] [s.f0 frB]

/-- `ps_merge01` (R702). -/
def execPsMerge01 (frD frA frB : FReg) (rc : Bool) (s : State) : Out :=
  s.movePair frD rc (s.f0 frA) (s.f1 frB) [s.f0 frA] []

/-- `ps_merge10` (R703). -/
def execPsMerge10 (frD frA frB : FReg) (rc : Bool) (s : State) : Out :=
  s.movePair frD rc (s.f1 frA) (s.f0 frB) [] [s.f0 frB]

/-- `ps_merge11` (R704). -/
def execPsMerge11 (frD frA frB : FReg) (rc : Bool) (s : State) : Out :=
  s.movePair frD rc (s.f1 frA) (s.f1 frB) [] []

/-! ### Compares (R705 to R708) -/

/-- Lane 0 as a paired compare reads it: the `k`-th free value where it is not single-representable (D17). -/
def State.pairedF0 (s : State) (r : FReg) (k : Nat) : Lane :=
  if singleRepresentable (s.f0 r) then s.f0 r else s.freeAt k

/-- `ps_cmpu0` (R705). -/
def execPsCmpu0 (crfD : CrField) (frA frB : FReg) (s : State) : Out :=
  let a := s.pairedF0 frA 0
  let b := s.pairedF0 frB 1
  withPaired s ((s.drawnBy 2).compareLanes crfD a b (unorderedBits a b))

/-- `ps_cmpo0` (R706). -/
def execPsCmpo0 (crfD : CrField) (frA frB : FReg) (s : State) : Out :=
  let a := s.pairedF0 frA 0
  let b := s.pairedF0 frB 1
  withPaired s ((s.drawnBy 2).compareLanes crfD a b (orderedBits s.fpscr a b))

/-- `ps_cmpu1` (R707). -/
def execPsCmpu1 (crfD : CrField) (frA frB : FReg) (s : State) : Out :=
  withPaired s (s.compareLanes crfD (s.f1 frA) (s.f1 frB) (unorderedBits (s.f1 frA) (s.f1 frB)))

/-- `ps_cmpo1` (R708). -/
def execPsCmpo1 (crfD : CrField) (frA frB : FReg) (s : State) : Out :=
  withPaired s (s.compareLanes crfD (s.f1 frA) (s.f1 frB) (orderedBits s.fpscr (s.f1 frA) (s.f1 frB)))

end Sys2Proof.Machine
end

