-- ==== Sys2Proof/Machine/Spr.lean ====
section
/-! DEFINITION. The special-purpose registers, the moves to and from them, and the moves of CR, MSR, the time base and
FPSCR (46_cache_spr_fpscr_cr.md R560 to R585, 10_state.md R51 to R73). -/

namespace Sys2Proof.Machine

/-- The registers a special-purpose register number can name (R52). -/
inductive Spr where
  | xer
  | lr
  | ctr
  | dsisr
  | dar
  | dec
  | sdr1
  | srr0
  | srr1
  | sprg (i : Fin 4)
  | ear
  | tbl
  | tbu
  | pvr
  | ibatU (i : Fin 8)
  | ibatL (i : Fin 8)
  | dbatU (i : Fin 8)
  | dbatL (i : Fin 8)
  | gqr (i : Fin 8)
  | hid2
  | wpar
  | dmau
  | dmal
  | ummcr0
  | ummcr1
  | upmc (i : Fin 4)
  | usia
  | mmcr0
  | mmcr1
  | pmc (i : Fin 4)
  | sia
  | hid0
  | hid1
  | iabr
  | hid4
  | dabr
  | l2cr
  | ictc
  | thrm (i : Fin 3)
deriving DecidableEq, Repr

/-- The eight numbers from `n` on, upper and lower register by turns, of the BAT pairs from `first` on. -/
def batNumbers (n : Nat) (upper lower : Fin 8 → Spr) (first : Fin 8) : List (Nat × Spr) :=
  (List.range 4).flatMap fun k => [(n + 2 * k, upper (first + Fin.ofNat 8 k)), (n + 2 * k + 1, lower (first + Fin.ofNat 8 k))]

/-- The numbers of both parts (R52). The time base has no number `mfspr` reads; 284 and 285 are written. -/
def sprNumbers : List (Nat × Spr) :=
  [(1, .xer), (8, .lr), (9, .ctr), (18, .dsisr), (19, .dar), (22, .dec), (25, .sdr1), (26, .srr0), (27, .srr1),
    (272, .sprg 0), (273, .sprg 1), (274, .sprg 2), (275, .sprg 3), (282, .ear), (284, .tbl), (285, .tbu), (287, .pvr)] ++
  batNumbers 528 .ibatU .ibatL 0 ++ batNumbers 536 .dbatU .dbatL 0 ++
  [(912, .gqr 0), (913, .gqr 1), (914, .gqr 2), (915, .gqr 3), (916, .gqr 4), (917, .gqr 5), (918, .gqr 6),
    (919, .gqr 7), (920, .hid2), (921, .wpar), (922, .dmau), (923, .dmal)] ++
  [(936, .ummcr0), (937, .upmc 0), (938, .upmc 1), (939, .usia), (940, .ummcr1), (941, .upmc 2), (942, .upmc 3),
    (952, .mmcr0), (953, .pmc 0), (954, .pmc 1), (955, .sia), (956, .mmcr1), (957, .pmc 2), (958, .pmc 3)] ++
  [(1008, .hid0), (1009, .hid1), (1010, .iabr), (1013, .dabr), (1017, .l2cr), (1019, .ictc), (1020, .thrm 0),
    (1021, .thrm 1), (1022, .thrm 2)]

/-- The numbers only Broadway has (R60). -/
def broadwayNumbers : List (Nat × Spr) :=
  batNumbers 560 .ibatU .ibatL 4 ++ batNumbers 568 .dbatU .dbatL 4 ++ [(1011, .hid4)]

/-- The register a number names on a part, if it names one (R52, R60). -/
def sprOf (part : Part) (n : BitVec 10) : Option Spr :=
  let table := if part = .broadway then sprNumbers ++ broadwayNumbers else sprNumbers
  (table.find? (fun e => e.1 = n.toNat)).map (·.2)

/-- The number is a supervisor's (R52, R563 (a)): its bit 4 is 1, whether or not a register has it. -/
def sprPrivileged (n : BitVec 10) : Bool := n.getLsbD 4

/-- What a register reads as whose bits `reserved` are reserved: one of them that was written as 1 need not read back
as 1 (R562). -/
def readReserved (reserved v draw : Word) : Word := (v &&& ~~~reserved) ||| (v &&& reserved &&& draw)

/-- What `mfspr` reads from a register, or `none` where it is not readable (R563, R564). A draw is the next free value. -/
def State.readSpr (s : State) (r : Spr) : Option Word :=
  let draw : Word := s.free.setWidth 32
  match r with
  | .xer => some s.xerRead
  | .lr => some s.lr
  | .ctr => some s.ctr
  | .dsisr => some s.dsisr
  | .dar => some s.dar
  | .dec => some s.dec
  | .sdr1 => some (readReserved 0x0000FE00 s.sdr1 draw)
  | .srr0 => some s.srr0
  | .srr1 => some s.srr1
  | .sprg i => some (s.sprg.get i)
  | .ear => some s.ear
  | .tbl | .tbu => none
  | .pvr => some s.params.pvr
  | .ibatU i => some (readReserved 0x0001E000 (s.ibat.get i).upper draw)
  | .ibatL i => some (readReserved 0x0001FFCC (s.ibat.get i).lower draw)
  | .dbatU i => some (readReserved 0x0001E000 (s.dbat.get i).upper draw)
  | .dbatL i => some (readReserved 0x0001FF84 (s.dbat.get i).lower draw)
  | .gqr i => some (readReserved 0xC0F8C0F8 (s.gqr.get i) draw)
  | .hid2 => some (readReserved 0x0000FFFF s.hid2 draw)
  | .wpar | .dmau | .dmal => some draw
  | .ummcr0 | .mmcr0 => some s.mmcr0
  | .ummcr1 | .mmcr1 => some s.mmcr1
  | .upmc _ | .pmc _ => some draw
  | .usia | .sia => some draw
  | .hid0 => some s.hid0
  | .hid1 => some s.hid1
  | .iabr => some s.iabr
  | .hid4 => some s.hid4
  | .dabr => some s.dabr
  | .l2cr => some ((s.l2cr &&& 0xFFFFFFFE) ||| (draw &&& 1))
  | .ictc => some s.ictc
  | .thrm _ => some draw

/-- HID0 written (R143): ICFI written 1 invalidates every instruction-cache block, effective with the next `isync`, as
ICE is (R862). What DCFI or DCE = 0 makes the data cache lose is settled by the next `sync` (R862, `State.dropping`). -/
def State.writeHid0 (s : State) (v : Word) : State :=
  let t := (s.superseding .ice).superseding .dce
  { (if v.getLsbD 11 then t.fetchFlushed else t) with hid0 := v }

/-- SDR1 written: a translation by page may not see it yet (R66, R861 (e)). -/
def State.writeSdr1 (s : State) (v : Word) : State :=
  { s.superseding .sdr1 with
    sdr1 := v, tables := { s.tables with changes := .sdr1 s.sdr1 :: s.tables.changes } }

/-- DEC written: a change of its bit 31 from 0 to 1 makes the decrementer interrupt pending (R56). -/
def State.writeDec (s : State) (v : Word) : State :=
  { s with dec := v, decPending := s.decPending || (!s.dec.getLsbD 31 && v.getLsbD 31) }

/-- An upper or lower half of a BAT pair written. -/
def Bat.withUpper (b : Bat) (v : Word) : Bat := { b with upper := v }
/-- The lower half written. -/
def Bat.withLower (b : Bat) (v : Word) : Bat := { b with lower := v }

/-- `SPR(n) <- v` with the side effects of the register's own rule (R562); a register that is not writable is as an
unknown number (R563). -/
def State.writeSpr (s : State) (r : Spr) (v : Word) : Res Unit :=
  let unknown : Res Unit := .stop (raiseProgram .illegalInstruction s)
  match r with
  | .xer => .ok () (s.writeXer v)
  | .lr => .ok () { s with lr := v }
  | .ctr => .ok () { s with ctr := v }
  | .dsisr => .ok () { s with dsisr := v }
  | .dar => .ok () { s with dar := v }
  | .dec => .ok () (s.writeDec v)
  | .sdr1 => .ok () (s.writeSdr1 v)
  | .srr0 => .ok () { s with srr0 := v }
  | .srr1 => .ok () { s with srr1 := v }
  | .sprg i => .ok () { s with sprg := s.sprg.set i v }
  | .ear => .ok () { s.superseding .ear with ear := v }
  | .tbl => .ok () { s with tb := s.tb.extractLsb' 32 32 ++ v }
  | .tbu => .ok () { s with tb := v ++ s.tb.extractLsb' 0 32 }
  | .pvr => unknown
  | .ibatU i => .ok () { s.superseding (.ibatU i) with ibat := s.ibat.set i ((s.ibat.get i).withUpper v) }
  | .ibatL i => .ok () { s.superseding (.ibatL i) with ibat := s.ibat.set i ((s.ibat.get i).withLower v) }
  | .dbatU i => .ok () { s.superseding (.dbatU i) with dbat := s.dbat.set i ((s.dbat.get i).withUpper v) }
  | .dbatL i => .ok () { s.superseding (.dbatL i) with dbat := s.dbat.set i ((s.dbat.get i).withLower v) }
  | .gqr i => .ok () { s with gqr := s.gqr.set i v }
  | .hid2 =>
    if v.getLsbD 30 || v.getLsbD 28 then .stop (.refused .lockedCacheUnit)
    else .ok () { s.superseding .hid2 with hid2 := (v &&& 0xF0FFFFFF) ||| (s.hid2 &&& 0x0F000000) }
  | .wpar | .dmau | .dmal => .stop (.refused .lockedCacheUnit)
  | .ummcr0 | .ummcr1 | .upmc _ | .usia => unknown
  | .mmcr0 => if v.getLsbD 26 then .stop (.refused .performanceMonitorInterrupt) else .ok () { s with mmcr0 := v }
  | .mmcr1 => .ok () { s with mmcr1 := v }
  | .pmc i => .ok () { s with pmc := s.pmc.set i v }
  | .sia => .ok () { s with sia := v }
  | .hid0 => .ok () (s.writeHid0 v)
  | .hid1 => unknown
  | .iabr => .ok () { s.superseding .iabr with iabr := v }
  | .hid4 => .ok () { s.superseding .hid4 with hid4 := v }
  | .dabr => .ok () { s.superseding .dabr with dabr := v }
  | .l2cr => .ok () { s with l2cr := v }
  | .ictc => .ok () { s with ictc := v }
  | .thrm i =>
    if i = 2 ∧ v.getLsbD 0 then .stop (.refused .thermalUnit) else .ok () { s with thrm := s.thrm.set i v }

/-- An access to a special-purpose register (R562 to R564): a supervisor's number in user mode is the privileged
exception, an unknown one the illegal-instruction exception. -/
def State.withSpr (s : State) (n : BitVec 10) (run : Spr → Out) : Out :=
  if sprPrivileged n && s.msrPr then raiseProgram .privilegedInstruction s
  else
    match sprOf s.params.part n with
    | some r => run r
    | none => raiseProgram .illegalInstruction s

/-- `mtspr` (R562). -/
def execMtspr (rS : Reg) (spr : BitVec 10) (s : State) : Out :=
  s.withSpr spr fun r => (s.writeSpr r (s.x rS)).finish fun _ s => retire s

/-- `mfspr` (R564). -/
def execMfspr (rD : Reg) (spr : BitVec 10) (s : State) : Out :=
  s.withSpr spr fun r =>
    match s.readSpr r with
    | some v => retire (s.drawn.setX rD v)
    | none => raiseProgram .illegalInstruction s

/-- `mftb` (R566): 268 is the lower half, 269 the upper. Another number is as an unknown special-purpose register (D19,
U6; assumption 46). -/
def execMftb (rD : Reg) (tbr : BitVec 10) (s : State) : Out :=
  if tbr = 268 then retire (s.setX rD (s.tb.extractLsb' 0 32))
  else if tbr = 269 then retire (s.setX rD (s.tb.extractLsb' 32 32))
  else if sprPrivileged tbr && s.msrPr then raiseProgram .privilegedInstruction s
  else raiseProgram .illegalInstruction s

/-- The 32-bit mask that selects the 4-bit fields whose bits are 1 in an 8-bit mask: bit 7 selects field 0, the most
significant (R565, R584). -/
def fieldMask (m : BitVec 8) : Word :=
  (List.range 8).foldl (fun acc k => acc ||| (if m.getLsbD k then 0xF#32 <<< (4 * k) else 0)) 0

/-- `mtcrf` (R565). -/
def execMtcrf (rS : Reg) (crm : BitVec 8) (s : State) : Out :=
  retire { s with cr := (s.x rS &&& fieldMask crm) ||| (s.cr &&& ~~~fieldMask crm) }

/-- `mfcr` (R567). -/
def execMfcr (rD : Reg) (s : State) : Out := retire (s.setX rD s.cr)

/-- The MSR bits `mtmsr` writes (R568). -/
def mtmsrMask : Word := 0x0005FF77

/-- The processor enters a power-saving state: POW is set and so is DOZE, NAP or SLEEP (R812). It is looked at where
`mtmsr` writes MSR only, as R812 has it: a mode bit that `mtspr` sets in HID0 while POW is 1 already puts nothing to sleep,
though D29 may be read to say so (DESIGN CHOICE, assumption 50). -/
def sleeps (msr hid0 : Word) : Bool := msr.getLsbD 18 && (hid0.getLsbD 23 || hid0.getLsbD 22 || hid0.getLsbD 21)

/-- `mtmsr` (R568, R862: a change of IR, DR or PR waits for `isync`): after the write, an enabled floating-point exception
that is already pending (R781), or the trace of an instruction that began with SE = 1 (R786), or the power-saving wait
(R812, assumption 50). -/
def execMtmsr (rS : Reg) (s : State) : Out :=
  privileged s (
    let v := s.x rS &&& mtmsrMask
    let s' := { s.superseding .msr with msr := v }
    if v.getLsbD 0 || v.getLsbD 16 then .refused .littleEndian
    else if fexOf s.fpscr && s'.msrFe then takeException .program (s.pc + 4) ProgramKind.fpEnabled.info s'
    else if s.msrSe then takeException .trace (s.pc + 4) 0 s'
    else .next { s' with pc := s.pc + 4, mode := if sleeps v s.hid0 then .powerSave else s.mode })

/-- `mfmsr` (R569). -/
def execMfmsr (rD : Reg) (s : State) : Out := privileged s (retire (s.setX rD s.msr))

/-! ### FPSCR (R579 to R585) -/

/-- The bits of FPSCR that `mcrfs` clears once it has copied them (R580). -/
def mcrfsClears (k : CrField) : Word := (0xF#32 <<< (28 - 4 * k.toNat)) &&& (0x80000000 ||| exceptionBits)

/-- `mcrfs` (R580). -/
def execMcrfs (crfD crfS : CrField) (s : State) : Out :=
  withFp s (retire ({ s with fpscr := summarize (s.fpscr &&& ~~~mcrfsClears crfS) }.setCrf crfD
    (s.fpscr.extractLsb' (28 - 4 * crfS.toNat) 4)))

/-- `mffs` (R581): the upper half is a draw (D33). -/
def execMffs (frD : FReg) (rc : Bool) (s : State) : Out :=
  withFp s ((s.drawn.setF0 frD (s.free.extractLsb' 0 32 ++ s.fpscr)).finishMove rc)

/-- `mtfsb0` (R582): FEX and VX only follow the recomputation. -/
def execMtfsb0 (crbD : CrBit) (rc : Bool) (s : State) : Out :=
  withFp s ({ s with fpscr := summarize (setBit s.fpscr (31 - crbD.toNat) false) }.finishFp rc)

/-- FPSCR after `mtfsb1` (R583): an exception bit that was 0 sets FX too; FEX and VX only follow the recomputation. -/
def fpscrAfterSet (fpscr : Word) (b : CrBit) : Word :=
  let bit : Word := 1#32 <<< (31 - b.toNat)
  if bit &&& exceptionBits ≠ 0 then raiseBits fpscr bit else summarize (fpscr ||| bit)

/-- `mtfsb1` (R583). -/
def execMtfsb1 (crbD : CrBit) (rc : Bool) (s : State) : Out :=
  withFp s (
    if crbD = 20 then .refused .reservedFpscrBit
    else { s with fpscr := fpscrAfterSet s.fpscr crbD }.finishFp rc)

/-- `mtfsf` (R584): FX is set only as part of field 0. -/
def execMtfsf (fm : BitVec 8) (frB : FReg) (rc : Bool) (s : State) : Out :=
  withFp s ({ s with
    fpscr := summarize (((s.f0 frB).setWidth 32 &&& fieldMask fm) ||| (s.fpscr &&& ~~~fieldMask fm)) }.finishFp rc)

/-- `mtfsfi` (R585). -/
def execMtfsfi (crfD : CrField) (imm : BitVec 4) (rc : Bool) (s : State) : Out :=
  withFp s ({ s with fpscr := summarize (replaceField s.fpscr crfD imm) }.finishFp rc)

end Sys2Proof.Machine
end

