-- ==== Sys2Proof/Machine/System.lean ====
section
/-! DEFINITION. The system instructions (47_system.md) and the rest of the supplement (49_supplement_unlisted.md). -/

namespace Sys2Proof.Machine

/-! ### Synchronization and the TLB (R621 to R626). A TLB is what a translation by page may still see of an older page
table (D23, R66). -/

/-- `sync` (R621). -/
def execSync (s : State) : Out := retire s.synced

/-- `isync` (R622). -/
def execIsync (s : State) : Out := retire s.resynced

/-- `eieio` (R623): one processor that runs in order has nothing to order. -/
def execEieio (s : State) : Out := retire s

/-- `tlbie` (R624). -/
def execTlbie (rB : Reg) (s : State) : Out := privileged s (retire (s.tlbSetCleared (s.x rB)))

/-- `tlbia` (R625): illegal where the part does not have it, in either mode (D10). -/
def execTlbia (s : State) : Out :=
  if !s.params.hasTlbia then raiseProgram .illegalInstruction s else privileged s (retire s.tlbCleared)

/-- `tlbsync` (R626). -/
def execTlbsync (s : State) : Out := privileged s (retire s)

/-! ### Segment registers (R627 to R630) -/

/-- The segment register an address selects (R58). -/
def segmentIndex (ea : Word) : Fin 16 := (ea.extractLsb' 28 4).toFin

/-- A segment register written: it acts after the next context synchronization (R862). -/
def State.writeSegment (s : State) (i : Fin 16) (v : Word) : State :=
  { s.superseding (.sr i) with sr := s.sr.set i v }

/-- `mtsr` (R627). -/
def execMtsr (rS : Reg) (sr : BitVec 4) (s : State) : Out :=
  privileged s (retire (s.writeSegment sr.toFin (s.x rS)))

/-- `mfsr` (R628). -/
def execMfsr (rD : Reg) (sr : BitVec 4) (s : State) : Out :=
  privileged s (retire (s.setX rD (s.sr.get sr.toFin)))

/-- `mtsrin` (R629). -/
def execMtsrin (rS rB : Reg) (s : State) : Out :=
  privileged s (retire (s.writeSegment (segmentIndex (s.x rB)) (s.x rS)))

/-- `mfsrin` (R630). -/
def execMfsrin (rD rB : Reg) (s : State) : Out :=
  privileged s (retire (s.setX rD (s.sr.get (segmentIndex (s.x rB)))))

/-! ### Calls, returns and traps (R640 to R644) -/

/-- `sc` (R640, R785). -/
def execSc (s : State) : Out := takeException .systemCall (s.pc + 4) 0 s

/-- `rfi` (R641, R795): not traced (R786). -/
def execRfi (s : State) : Out :=
  privileged s (
    if s.returned.msrLe then .refused .littleEndian
    else if fexOf s.fpscr && s.returned.msrFe then raiseProgram .fpEnabled s.returned
    else .next s.returned)

/-- `TrapCond(TO, a, b)` (R644). -/
def trapCond (cond : BitVec 5) (a b : Word) : Bool :=
  (cond.getLsbD 4 && a.slt b) || (cond.getLsbD 3 && b.slt a) || (cond.getLsbD 2 && a == b) ||
    (cond.getLsbD 1 && a.ult b) || (cond.getLsbD 0 && b.ult a)

/-- `tw` (R642). -/
def execTw (cond : BitVec 5) (rA rB : Reg) (s : State) : Out :=
  if trapCond cond (s.x rA) (s.x rB) then raiseProgram .trap s else retire s

/-- `twi` (R643). -/
def execTwi (cond : BitVec 5) (rA : Reg) (simm : BitVec 16) (s : State) : Out :=
  if trapCond cond (s.x rA) (simm32 simm) then raiseProgram .trap s else retire s

/-! ### The supplement (R741 to R747) -/

/-- `extsb` (R741). -/
def execExtsb (rS rA : Reg) (rc : Bool) (s : State) : Out :=
  let r := ((s.x rS).setWidth 8).signExtend 32
  retire ((s.setX rA r).recordIf rc r)

/-- `extsh` (R742). -/
def execExtsh (rS rA : Reg) (rc : Bool) (s : State) : Out :=
  let r := ((s.x rS).setWidth 16).signExtend 32
  retire ((s.setX rA r).recordIf rc r)

/-- `cntlzw` (R745). -/
def execCntlzw (rS rA : Reg) (rc : Bool) (s : State) : Out :=
  let r := BitVec.ofNat 32 (leadingZeros (s.x rS) 32)
  retire ((s.setX rA r).recordIf rc r)

/-- `lwarx` (R743): refused on caching-inhibited or write-through memory. -/
def execLwarx (rD rA rB : Reg) (s : State) : Out :=
  let ea := s.eaX rA rB
  s.wordAligned (.lwarx rD rA rB) false ea (
    (s.checkPart .load ea 4 true).finish fun m s =>
      if m.inhibited || m.writeThrough then .refused .reservationUncached
      else
        retire { (s.setX rD (zeroExtended (beValue (s.loaded m 4)))) with
          reserve := true, reserveAddr := blockBase m.pa })

/-- The end of `stwcx.`: CR0 tells whether the store was performed, and the reservation is gone (R744). -/
def State.afterConditional (s : State) (stored : Bool) : State :=
  { (s.setCrf 0 (crBits false false stored s.so)) with reserve := false }

/-- The store of `stwcx.`, and its end (R744). -/
def State.storeConditional (s : State) (rS : Reg) (ea : Word) : Out :=
  (s.checkPart .store ea 4 true).finish fun m t =>
    retire ((t.afterStore m (beBytes 4 ((s.x rS).setWidth 64))).afterConditional true)

/-- `stwcx.` (R744): checked as a store even when nothing is stored. With a reservation for another granule, a draw
says whether it stores. -/
def execStwcx (rS rA rB : Reg) (s : State) : Out :=
  let ea := s.eaX rA rB
  s.wordAligned (.stwcx_rc rS rA rB) false ea (
    (s.dataCheck .store ea).finish fun m s =>
      if !s.reserve then retire (s.afterConditional false)
      else if s.reserveAddr = blockBase m.pa then s.storeConditional rS ea
      else if s.free.getLsbD 0 then s.drawn.storeConditional rS ea
      else retire (s.drawn.afterConditional false))

/-- An external control access (R746, R747): DSI with EAR[E] = 0, then the alignment exception, then the checks of the
access; the access itself is refused, because no device answers it. -/
def State.externalControl (s : State) (i : Instr) (k : Access) (ea : Word) : Out :=
  if !(s.acting false .ear).getLsbD 31 then raiseDsi ea (0x00100000 ||| storeBit k) s
  else
    s.wordAligned i false ea (
      (s.dataCheck k ea).finish fun _ _ => .refused .externalControl)

/-- `eciwx` (R746). -/
def execEciwx (rD rA rB : Reg) (s : State) : Out := s.externalControl (.eciwx rD rA rB) .load (s.eaX rA rB)

/-- `ecowx` (R747). -/
def execEcowx (rS rA rB : Reg) (s : State) : Out := s.externalControl (.ecowx rS rA rB) .store (s.eaX rA rB)

end Sys2Proof.Machine
end

