-- ==== Sys2Proof/Machine/Dispatch.lean ====
section
/-! DEFINITION. The meaning of each instruction: one arm per constructor. -/

namespace Sys2Proof.Machine

/-- The effect of one instruction, fetched and accepted, on the machine. -/
def exec (i : Instr) (s : State) : Host.Outcome State Fault Refusal :=
  match i with
  | .add rD rA rB oe rc => Sys2Proof.Machine.execAdd rD rA rB oe rc s
  | .addc rD rA rB oe rc => Sys2Proof.Machine.execAddc rD rA rB oe rc s
  | .adde rD rA rB oe rc => Sys2Proof.Machine.execAdde rD rA rB oe rc s
  | .addi rD rA simm => Sys2Proof.Machine.execAddi rD rA simm s
  | .addic rD rA simm => Sys2Proof.Machine.execAddic rD rA simm s
  | .addic_rc rD rA simm => Sys2Proof.Machine.execAddicRc rD rA simm s
  | .addis rD rA simm => Sys2Proof.Machine.execAddis rD rA simm s
  | .addme rD rA oe rc => Sys2Proof.Machine.execAddme rD rA oe rc s
  | .addze rD rA oe rc => Sys2Proof.Machine.execAddze rD rA oe rc s
  | .subf rD rA rB oe rc => Sys2Proof.Machine.execSubf rD rA rB oe rc s
  | .subfc rD rA rB oe rc => Sys2Proof.Machine.execSubfc rD rA rB oe rc s
  | .subfe rD rA rB oe rc => Sys2Proof.Machine.execSubfe rD rA rB oe rc s
  | .subfic rD rA simm => Sys2Proof.Machine.execSubfic rD rA simm s
  | .subfme rD rA oe rc => Sys2Proof.Machine.execSubfme rD rA oe rc s
  | .subfze rD rA oe rc => Sys2Proof.Machine.execSubfze rD rA oe rc s
  | .neg rD rA oe rc => Sys2Proof.Machine.execNeg rD rA oe rc s
  | .mulhw rD rA rB rc => Sys2Proof.Machine.execMulhw rD rA rB rc s
  | .mulhwu rD rA rB rc => Sys2Proof.Machine.execMulhwu rD rA rB rc s
  | .mullw rD rA rB oe rc => Sys2Proof.Machine.execMullw rD rA rB oe rc s
  | .mulli rD rA simm => Sys2Proof.Machine.execMulli rD rA simm s
  | .divw rD rA rB oe rc => Sys2Proof.Machine.execDivw rD rA rB oe rc s
  | .divwu rD rA rB oe rc => Sys2Proof.Machine.execDivwu rD rA rB oe rc s
  | .and rS rA rB rc => Sys2Proof.Machine.execAnd rS rA rB rc s
  | .andc rS rA rB rc => Sys2Proof.Machine.execAndc rS rA rB rc s
  | .andi_rc rS rA uimm => Sys2Proof.Machine.execAndiRc rS rA uimm s
  | .andis_rc rS rA uimm => Sys2Proof.Machine.execAndisRc rS rA uimm s
  | .or rS rA rB rc => Sys2Proof.Machine.execOr rS rA rB rc s
  | .orc rS rA rB rc => Sys2Proof.Machine.execOrc rS rA rB rc s
  | .ori rS rA uimm => Sys2Proof.Machine.execOri rS rA uimm s
  | .oris rS rA uimm => Sys2Proof.Machine.execOris rS rA uimm s
  | .xor rS rA rB rc => Sys2Proof.Machine.execXor rS rA rB rc s
  | .xori rS rA uimm => Sys2Proof.Machine.execXori rS rA uimm s
  | .xoris rS rA uimm => Sys2Proof.Machine.execXoris rS rA uimm s
  | .nand rS rA rB rc => Sys2Proof.Machine.execNand rS rA rB rc s
  | .nor rS rA rB rc => Sys2Proof.Machine.execNor rS rA rB rc s
  | .eqv rS rA rB rc => Sys2Proof.Machine.execEqv rS rA rB rc s
  | .slw rS rA rB rc => Sys2Proof.Machine.execSlw rS rA rB rc s
  | .srw rS rA rB rc => Sys2Proof.Machine.execSrw rS rA rB rc s
  | .sraw rS rA rB rc => Sys2Proof.Machine.execSraw rS rA rB rc s
  | .srawi rS rA sh rc => Sys2Proof.Machine.execSrawi rS rA sh rc s
  | .rlwimi rS rA sh mb me rc => Sys2Proof.Machine.execRlwimi rS rA sh mb me rc s
  | .rlwinm rS rA sh mb me rc => Sys2Proof.Machine.execRlwinm rS rA sh mb me rc s
  | .rlwnm rS rA rB mb me rc => Sys2Proof.Machine.execRlwnm rS rA rB mb me rc s
  | .cmp crfD l rA rB => Sys2Proof.Machine.execCmp crfD l rA rB s
  | .cmpi crfD l rA simm => Sys2Proof.Machine.execCmpi crfD l rA simm s
  | .cmpl crfD l rA rB => Sys2Proof.Machine.execCmpl crfD l rA rB s
  | .cmpli crfD l rA uimm => Sys2Proof.Machine.execCmpli crfD l rA uimm s
  | .b li aa lk => Sys2Proof.Machine.execB li aa lk s
  | .bc bo bi bd aa lk => Sys2Proof.Machine.execBc bo bi bd aa lk s
  | .bclr bo bi lk => Sys2Proof.Machine.execBclr bo bi lk s
  | .bcctr bo bi lk => Sys2Proof.Machine.execBcctr bo bi lk s
  | .lbz rD rA d => Sys2Proof.Machine.execLbz rD rA d s
  | .lbzu rD rA d => Sys2Proof.Machine.execLbzu rD rA d s
  | .lbzx rD rA rB => Sys2Proof.Machine.execLbzx rD rA rB s
  | .lbzux rD rA rB => Sys2Proof.Machine.execLbzux rD rA rB s
  | .stb rS rA d => Sys2Proof.Machine.execStb rS rA d s
  | .stbu rS rA d => Sys2Proof.Machine.execStbu rS rA d s
  | .stbx rS rA rB => Sys2Proof.Machine.execStbx rS rA rB s
  | .stbux rS rA rB => Sys2Proof.Machine.execStbux rS rA rB s
  | .lhz rD rA d => Sys2Proof.Machine.execLhz rD rA d s
  | .lhzu rD rA d => Sys2Proof.Machine.execLhzu rD rA d s
  | .lhzx rD rA rB => Sys2Proof.Machine.execLhzx rD rA rB s
  | .lhzux rD rA rB => Sys2Proof.Machine.execLhzux rD rA rB s
  | .lha rD rA d => Sys2Proof.Machine.execLha rD rA d s
  | .lhau rD rA d => Sys2Proof.Machine.execLhau rD rA d s
  | .lhax rD rA rB => Sys2Proof.Machine.execLhax rD rA rB s
  | .lhaux rD rA rB => Sys2Proof.Machine.execLhaux rD rA rB s
  | .sth rS rA d => Sys2Proof.Machine.execSth rS rA d s
  | .sthu rS rA d => Sys2Proof.Machine.execSthu rS rA d s
  | .sthx rS rA rB => Sys2Proof.Machine.execSthx rS rA rB s
  | .sthux rS rA rB => Sys2Proof.Machine.execSthux rS rA rB s
  | .lhbrx rD rA rB => Sys2Proof.Machine.execLhbrx rD rA rB s
  | .sthbrx rS rA rB => Sys2Proof.Machine.execSthbrx rS rA rB s
  | .lwz rD rA d => Sys2Proof.Machine.execLwz rD rA d s
  | .lwzu rD rA d => Sys2Proof.Machine.execLwzu rD rA d s
  | .lwzx rD rA rB => Sys2Proof.Machine.execLwzx rD rA rB s
  | .lwzux rD rA rB => Sys2Proof.Machine.execLwzux rD rA rB s
  | .stw rS rA d => Sys2Proof.Machine.execStw rS rA d s
  | .stwu rS rA d => Sys2Proof.Machine.execStwu rS rA d s
  | .stwx rS rA rB => Sys2Proof.Machine.execStwx rS rA rB s
  | .stwux rS rA rB => Sys2Proof.Machine.execStwux rS rA rB s
  | .lwbrx rD rA rB => Sys2Proof.Machine.execLwbrx rD rA rB s
  | .stwbrx rS rA rB => Sys2Proof.Machine.execStwbrx rS rA rB s
  | .lmw rD rA d => Sys2Proof.Machine.execLmw rD rA d s
  | .stmw rS rA d => Sys2Proof.Machine.execStmw rS rA d s
  | .lswi rD rA nb => Sys2Proof.Machine.execLswi rD rA nb s
  | .lswx rD rA rB => Sys2Proof.Machine.execLswx rD rA rB s
  | .stswi rS rA nb => Sys2Proof.Machine.execStswi rS rA nb s
  | .stswx rS rA rB => Sys2Proof.Machine.execStswx rS rA rB s
  | .fadd frD frA frB rc => Sys2Proof.Machine.execFadd frD frA frB rc s
  | .fadds frD frA frB rc => Sys2Proof.Machine.execFadds frD frA frB rc s
  | .fsub frD frA frB rc => Sys2Proof.Machine.execFsub frD frA frB rc s
  | .fsubs frD frA frB rc => Sys2Proof.Machine.execFsubs frD frA frB rc s
  | .fmul frD frA frC rc => Sys2Proof.Machine.execFmul frD frA frC rc s
  | .fmuls frD frA frC rc => Sys2Proof.Machine.execFmuls frD frA frC rc s
  | .fdiv frD frA frB rc => Sys2Proof.Machine.execFdiv frD frA frB rc s
  | .fdivs frD frA frB rc => Sys2Proof.Machine.execFdivs frD frA frB rc s
  | .fmadd frD frA frB frC rc => Sys2Proof.Machine.execFmadd frD frA frB frC rc s
  | .fmadds frD frA frB frC rc => Sys2Proof.Machine.execFmadds frD frA frB frC rc s
  | .fmsub frD frA frB frC rc => Sys2Proof.Machine.execFmsub frD frA frB frC rc s
  | .fmsubs frD frA frB frC rc => Sys2Proof.Machine.execFmsubs frD frA frB frC rc s
  | .fnmadd frD frA frB frC rc => Sys2Proof.Machine.execFnmadd frD frA frB frC rc s
  | .fnmadds frD frA frB frC rc => Sys2Proof.Machine.execFnmadds frD frA frB frC rc s
  | .fnmsub frD frA frB frC rc => Sys2Proof.Machine.execFnmsub frD frA frB frC rc s
  | .fnmsubs frD frA frB frC rc => Sys2Proof.Machine.execFnmsubs frD frA frB frC rc s
  | .fabs frD frB rc => Sys2Proof.Machine.execFabs frD frB rc s
  | .fnabs frD frB rc => Sys2Proof.Machine.execFnabs frD frB rc s
  | .fneg frD frB rc => Sys2Proof.Machine.execFneg frD frB rc s
  | .fres frD frB rc => Sys2Proof.Machine.execFres frD frB rc s
  | .frsqrte frD frB rc => Sys2Proof.Machine.execFrsqrte frD frB rc s
  | .fsel frD frA frB frC rc => Sys2Proof.Machine.execFsel frD frA frB frC rc s
  | .fsqrt frD frB rc => Sys2Proof.Machine.execFsqrt frD frB rc s
  | .fsqrts frD frB rc => Sys2Proof.Machine.execFsqrts frD frB rc s
  | .frsp frD frB rc => Sys2Proof.Machine.execFrsp frD frB rc s
  | .fctiw frD frB rc => Sys2Proof.Machine.execFctiw frD frB rc s
  | .fctiwz frD frB rc => Sys2Proof.Machine.execFctiwz frD frB rc s
  | .fcmpo crfD frA frB => Sys2Proof.Machine.execFcmpo crfD frA frB s
  | .fcmpu crfD frA frB => Sys2Proof.Machine.execFcmpu crfD frA frB s
  | .fmr frD frB rc => Sys2Proof.Machine.execFmr frD frB rc s
  | .lfd frD rA d => Sys2Proof.Machine.execLfd frD rA d s
  | .lfdu frD rA d => Sys2Proof.Machine.execLfdu frD rA d s
  | .lfdx frD rA rB => Sys2Proof.Machine.execLfdx frD rA rB s
  | .lfdux frD rA rB => Sys2Proof.Machine.execLfdux frD rA rB s
  | .lfs frD rA d => Sys2Proof.Machine.execLfs frD rA d s
  | .lfsu frD rA d => Sys2Proof.Machine.execLfsu frD rA d s
  | .lfsx frD rA rB => Sys2Proof.Machine.execLfsx frD rA rB s
  | .lfsux frD rA rB => Sys2Proof.Machine.execLfsux frD rA rB s
  | .stfd frS rA d => Sys2Proof.Machine.execStfd frS rA d s
  | .stfdu frS rA d => Sys2Proof.Machine.execStfdu frS rA d s
  | .stfdx frS rA rB => Sys2Proof.Machine.execStfdx frS rA rB s
  | .stfdux frS rA rB => Sys2Proof.Machine.execStfdux frS rA rB s
  | .stfs frS rA d => Sys2Proof.Machine.execStfs frS rA d s
  | .stfsu frS rA d => Sys2Proof.Machine.execStfsu frS rA d s
  | .stfsx frS rA rB => Sys2Proof.Machine.execStfsx frS rA rB s
  | .stfsux frS rA rB => Sys2Proof.Machine.execStfsux frS rA rB s
  | .stfiwx frS rA rB => Sys2Proof.Machine.execStfiwx frS rA rB s
  | .dcbf rA rB => Sys2Proof.Machine.execDcbf rA rB s
  | .dcbi rA rB => Sys2Proof.Machine.execDcbi rA rB s
  | .dcbst rA rB => Sys2Proof.Machine.execDcbst rA rB s
  | .dcbt rA rB => Sys2Proof.Machine.execDcbt rA rB s
  | .dcbtst rA rB => Sys2Proof.Machine.execDcbtst rA rB s
  | .dcbz rA rB => Sys2Proof.Machine.execDcbz rA rB s
  | .icbi rA rB => Sys2Proof.Machine.execIcbi rA rB s
  | .mtspr rS spr => Sys2Proof.Machine.execMtspr rS spr s
  | .mfspr rD spr => Sys2Proof.Machine.execMfspr rD spr s
  | .mtcrf rS crm => Sys2Proof.Machine.execMtcrf rS crm s
  | .mftb rD tbr => Sys2Proof.Machine.execMftb rD tbr s
  | .mfcr rD => Sys2Proof.Machine.execMfcr rD s
  | .mtmsr rS => Sys2Proof.Machine.execMtmsr rS s
  | .mfmsr rD => Sys2Proof.Machine.execMfmsr rD s
  | .mcrfs crfD crfS => Sys2Proof.Machine.execMcrfs crfD crfS s
  | .mffs frD rc => Sys2Proof.Machine.execMffs frD rc s
  | .mtfsb0 crbD rc => Sys2Proof.Machine.execMtfsb0 crbD rc s
  | .mtfsb1 crbD rc => Sys2Proof.Machine.execMtfsb1 crbD rc s
  | .mtfsf fm frB rc => Sys2Proof.Machine.execMtfsf fm frB rc s
  | .mtfsfi crfD imm rc => Sys2Proof.Machine.execMtfsfi crfD imm rc s
  | .crand crbD crbA crbB => Sys2Proof.Machine.execCrand crbD crbA crbB s
  | .crandc crbD crbA crbB => Sys2Proof.Machine.execCrandc crbD crbA crbB s
  | .creqv crbD crbA crbB => Sys2Proof.Machine.execCreqv crbD crbA crbB s
  | .crnand crbD crbA crbB => Sys2Proof.Machine.execCrnand crbD crbA crbB s
  | .crnor crbD crbA crbB => Sys2Proof.Machine.execCrnor crbD crbA crbB s
  | .cror crbD crbA crbB => Sys2Proof.Machine.execCror crbD crbA crbB s
  | .crorc crbD crbA crbB => Sys2Proof.Machine.execCrorc crbD crbA crbB s
  | .crxor crbD crbA crbB => Sys2Proof.Machine.execCrxor crbD crbA crbB s
  | .mcrf crfD crfS => Sys2Proof.Machine.execMcrf crfD crfS s
  | .sync => Sys2Proof.Machine.execSync s
  | .isync => Sys2Proof.Machine.execIsync s
  | .eieio => Sys2Proof.Machine.execEieio s
  | .tlbie rB => Sys2Proof.Machine.execTlbie rB s
  | .tlbia => Sys2Proof.Machine.execTlbia s
  | .tlbsync => Sys2Proof.Machine.execTlbsync s
  | .mtsr rS sr => Sys2Proof.Machine.execMtsr rS sr s
  | .mfsr rD sr => Sys2Proof.Machine.execMfsr rD sr s
  | .mtsrin rS rB => Sys2Proof.Machine.execMtsrin rS rB s
  | .mfsrin rD rB => Sys2Proof.Machine.execMfsrin rD rB s
  | .sc => Sys2Proof.Machine.execSc s
  | .rfi => Sys2Proof.Machine.execRfi s
  | .tw cond rA rB => Sys2Proof.Machine.execTw cond rA rB s
  | .twi cond rA simm => Sys2Proof.Machine.execTwi cond rA simm s
  | .psq_l frD rA single gqr d12 => Sys2Proof.Machine.execPsqL frD rA single gqr d12 s
  | .psq_lu frD rA single gqr d12 => Sys2Proof.Machine.execPsqLu frD rA single gqr d12 s
  | .psq_lx frD rA rB single gqr => Sys2Proof.Machine.execPsqLx frD rA rB single gqr s
  | .psq_lux frD rA rB single gqr => Sys2Proof.Machine.execPsqLux frD rA rB single gqr s
  | .psq_st frS rA single gqr d12 => Sys2Proof.Machine.execPsqSt frS rA single gqr d12 s
  | .psq_stu frS rA single gqr d12 => Sys2Proof.Machine.execPsqStu frS rA single gqr d12 s
  | .psq_stx frS rA rB single gqr => Sys2Proof.Machine.execPsqStx frS rA rB single gqr s
  | .psq_stux frS rA rB single gqr => Sys2Proof.Machine.execPsqStux frS rA rB single gqr s
  | .ps_add frD frA frB rc => Sys2Proof.Machine.execPsAdd frD frA frB rc s
  | .ps_sub frD frA frB rc => Sys2Proof.Machine.execPsSub frD frA frB rc s
  | .ps_mul frD frA frC rc => Sys2Proof.Machine.execPsMul frD frA frC rc s
  | .ps_div frD frA frB rc => Sys2Proof.Machine.execPsDiv frD frA frB rc s
  | .ps_abs frD frB rc => Sys2Proof.Machine.execPsAbs frD frB rc s
  | .ps_neg frD frB rc => Sys2Proof.Machine.execPsNeg frD frB rc s
  | .ps_nabs frD frB rc => Sys2Proof.Machine.execPsNabs frD frB rc s
  | .ps_madd frD frA frB frC rc => Sys2Proof.Machine.execPsMadd frD frA frB frC rc s
  | .ps_madds0 frD frA frB frC rc => Sys2Proof.Machine.execPsMadds0 frD frA frB frC rc s
  | .ps_madds1 frD frA frB frC rc => Sys2Proof.Machine.execPsMadds1 frD frA frB frC rc s
  | .ps_msub frD frA frB frC rc => Sys2Proof.Machine.execPsMsub frD frA frB frC rc s
  | .ps_nmadd frD frA frB frC rc => Sys2Proof.Machine.execPsNmadd frD frA frB frC rc s
  | .ps_nmsub frD frA frB frC rc => Sys2Proof.Machine.execPsNmsub frD frA frB frC rc s
  | .ps_mr frD frB rc => Sys2Proof.Machine.execPsMr frD frB rc s
  | .ps_res frD frB rc => Sys2Proof.Machine.execPsRes frD frB rc s
  | .ps_rsqrte frD frB rc => Sys2Proof.Machine.execPsRsqrte frD frB rc s
  | .ps_sel frD frA frB frC rc => Sys2Proof.Machine.execPsSel frD frA frB frC rc s
  | .ps_sum0 frD frA frB frC rc => Sys2Proof.Machine.execPsSum0 frD frA frB frC rc s
  | .ps_sum1 frD frA frB frC rc => Sys2Proof.Machine.execPsSum1 frD frA frB frC rc s
  | .ps_muls0 frD frA frC rc => Sys2Proof.Machine.execPsMuls0 frD frA frC rc s
  | .ps_muls1 frD frA frC rc => Sys2Proof.Machine.execPsMuls1 frD frA frC rc s
  | .ps_merge00 frD frA frB rc => Sys2Proof.Machine.execPsMerge00 frD frA frB rc s
  | .ps_merge01 frD frA frB rc => Sys2Proof.Machine.execPsMerge01 frD frA frB rc s
  | .ps_merge10 frD frA frB rc => Sys2Proof.Machine.execPsMerge10 frD frA frB rc s
  | .ps_merge11 frD frA frB rc => Sys2Proof.Machine.execPsMerge11 frD frA frB rc s
  | .ps_cmpu0 crfD frA frB => Sys2Proof.Machine.execPsCmpu0 crfD frA frB s
  | .ps_cmpo0 crfD frA frB => Sys2Proof.Machine.execPsCmpo0 crfD frA frB s
  | .ps_cmpu1 crfD frA frB => Sys2Proof.Machine.execPsCmpu1 crfD frA frB s
  | .ps_cmpo1 crfD frA frB => Sys2Proof.Machine.execPsCmpo1 crfD frA frB s
  | .extsb rS rA rc => Sys2Proof.Machine.execExtsb rS rA rc s
  | .extsh rS rA rc => Sys2Proof.Machine.execExtsh rS rA rc s
  | .lwarx rD rA rB => Sys2Proof.Machine.execLwarx rD rA rB s
  | .stwcx_rc rS rA rB => Sys2Proof.Machine.execStwcx rS rA rB s
  | .cntlzw rS rA rc => Sys2Proof.Machine.execCntlzw rS rA rc s
  | .eciwx rD rA rB => Sys2Proof.Machine.execEciwx rD rA rB s
  | .ecowx rS rA rB => Sys2Proof.Machine.execEcowx rS rA rB s
  | .mcrxr crfD => Sys2Proof.Machine.execMcrxr crfD s
  | .dcbz_l rA rB => Sys2Proof.Machine.execDcbzL rA rB s

end Sys2Proof.Machine
end

