-- ==== Sys2Proof/Machine/Cycle.lean ====
section
/-! DEFINITION. One step of the machine: interrupts (60_exceptions.md R790 to R792), fetching, acceptance (30_encoding.md
R180 to R185), execution, and the time base (10_state.md R55, R56). -/

namespace Sys2Proof.Machine

/-- The time base and the decrementer advance by the ticks of this step (R55, R56). The decrementer interrupt becomes
pending when the count passes from 0 to 0xFFFFFFFF. -/
def State.ticked (s : State) : State :=
  let n := Config.tbTicks s.time
  { s with
    tb := s.tb + BitVec.ofNat 64 n
    dec := s.dec - BitVec.ofNat 32 n
    decPending := s.decPending || decide (s.dec.toNat < n)
    time := s.time + 1 }

/-- The outcome of a step, with the time that passed. -/
def afterTick : Out → Out
  | .next s => .next s.ticked
  | .fault f => .fault f
  | .refused r => .refused r

/-- The state a hard reset leaves (R776, R850): modified data in the data cache may be lost, memory is otherwise kept,
and so is the external interrupt line, which is the environment's. -/
def State.afterHardReset (s : State) : State :=
  let d := s.discarded (fun _ => true)
  { (State.hardReset s.params d.mem s.bus d.draws s.time) with lines := ⟨false, false, none, s.lines.extIrq⟩ }

/-- Only HID0[SLEEP] stops the decrementer from waking the processor (R812). -/
def State.decWakes (s : State) : Bool := s.mode != .powerSave || !s.hid0.getLsbD 21

/-- The asynchronous interrupt taken at this instruction boundary, if one is (R790): machine check, soft reset, and with
MSR[EE] = 1 the external interrupt and the decrementer. It ends a power-saving wait (R812). -/
def State.interrupt (s : State) : Option Out :=
  let awake : State := { s with mode := .running }
  match s.lines.machineCheckIn with
  | some cause => some (machineCheck cause.info { awake with lines := { s.lines with machineCheckIn := none } })
  | none =>
    if s.lines.softReset then
      some (takeException .systemReset s.pc 0 { awake with lines := { s.lines with softReset := false } })
    else if s.msrEe && s.lines.extIrq then some (takeException .externalInterrupt s.pc 0 awake)
    else if s.msrEe && s.decPending && s.decWakes then
      some (takeException .decrementer s.pc 0 { awake with decPending := false })
    else none

/-- The nine instructions the source does not list (R740). -/
def isSupplement : Instr → Bool
  | .extsb _ _ _ | .extsh _ _ _ | .lwarx _ _ _ | .stwcx_rc _ _ _ | .cntlzw _ _ _ | .eciwx _ _ _ | .ecowx _ _ _
  | .mcrxr _ | .dcbz_l _ _ => true
  | _ => false

/-- An instruction that was fetched and accepted, executed: a supplement instruction needs `SupplementEnabled` (R740). -/
def execAccepted (i : Instr) (s : State) : Out :=
  if isSupplement i && !s.params.supplement then .refused .supplementDisabled else exec i s

/-- The effect of the word that was fetched (R166, R182 to R185). -/
def execWord (w : Word) (s : State) : Out :=
  match classify w with
  | .illegal => raiseProgram .illegalInstruction s
  | .reservedBits => .refused .reservedBits
  | .invalidForm => .refused .invalidForm
  | .instr i => execAccepted i s

/-- One instruction: the instruction address breakpoint comes before everything else (R787, R792). -/
def State.instruction (s : State) : Out :=
  if s.iabrMatches then takeException .instructionAddressBreakpoint s.pc 0 s
  else s.fetch.finish execWord

/-- What happens next depends on a bit of HID4 other than SBE. HID4 is storage, and a program that depends on such a bit
is refused (R60, U28): where one is set, which steps depend on it is free (assumption 41). -/
def State.hid4Matters (s : State) : Bool :=
  decide (s.params.part = .broadway) && decide (s.hid4 &&& 0xFDFFFFFF ≠ 0) && Config.hid4Matters s.time s.hid4

/-- What the processor does at an instruction boundary when it is not reset. -/
def State.boundary (s : State) : Out :=
  if s.msrLe then .refused .littleEndian
  else if s.hid4Matters then .refused .hid4Bits
  else
    match s.interrupt with
    | some o => o
    | none => if s.mode = .powerSave then .next s else s.instruction

/-- One step: a hard reset, the halt of a machine check, or an instruction boundary and the time it takes. -/
def State.cycle (s : State) : Out :=
  if s.lines.hardReset then .next s.afterHardReset
  else if s.mode = .checkstop then .fault .checkstop
  else afterTick s.boundary

/-- The bytes of an instruction word given as a number, in memory order. -/
def fetchBytes (nbits w : Nat) : List Byte :=
  let b := bytesOfWord (BitVec.ofNat 32 (w % 2 ^ nbits))
  [b.1, b.2.1, b.2.2.1, b.2.2.2]

/-- The state with an instruction word in memory where the next fetch reads it, and no older version of it in the
instruction cache. Where the fetch address does not translate there is no such place. -/
def State.placeWord (s : State) (nbits w : Nat) : State :=
  match s.translate .fetch s.pc with
  | .mapped m =>
    { s with
      mem := s.mem.writeBytes m.pa (fetchBytes nbits w)
      stale := s.stale.filter (fun e => e.word ≠ m.pa.toNat / 4) }
  | .pageFault | .protection _ | .noExecute | .absentTable | .refused _ => s

end Sys2Proof.Machine
end

