-- ==== Sys2Proof/Safety.lean ====
section
/-! DEFINITION. The terms in which statements speak of safe runs: the invariants of the state, the states an instruction
may leave, and the values a lane holds. -/

namespace Sys2Proof.Machine

/-- The state an outcome goes on with. -/
def nextOf : Out → Option State
  | .next s => some s
  | .fault _ | .refused _ => none

/-! ### Invariants -/

/-- The program counter is a multiple of 4 (R32). -/
def State.pcAligned (s : State) : Prop := s.pc &&& 3 = 0

/-- MSR holds only the bits R50 defines, and neither LE nor ILE, which the spec refuses (D4). -/
def State.msrLegal (s : State) : Prop := s.msr &&& ~~~0x0004FF76 = 0

/-- FPSCR's computed bits VX and FEX are what R49 computes. -/
def State.fpscrComputed (s : State) : Prop :=
  s.fpscr.getLsbD 29 = (s.fpscr.getLsbD 24 || s.fpscr.getLsbD 23 || s.fpscr.getLsbD 22 || s.fpscr.getLsbD 21 ||
      s.fpscr.getLsbD 20 || s.fpscr.getLsbD 19 || s.fpscr.getLsbD 10 || s.fpscr.getLsbD 9 || s.fpscr.getLsbD 8) ∧
  s.fpscr.getLsbD 30 = ((s.fpscr.getLsbD 29 && s.fpscr.getLsbD 7) || (s.fpscr.getLsbD 28 && s.fpscr.getLsbD 6) ||
      (s.fpscr.getLsbD 27 && s.fpscr.getLsbD 5) || (s.fpscr.getLsbD 26 && s.fpscr.getLsbD 4) ||
      (s.fpscr.getLsbD 25 && s.fpscr.getLsbD 3))

/-- The features the spec refuses are off: the write-gather pipe and the locked cache, the performance-monitor interrupt
and the thermal unit (D19, D28). -/
def State.refusedUnitsOff (s : State) : Prop :=
  s.hid2.getLsbD 30 = false ∧ s.hid2.getLsbD 28 = false ∧ s.mmcr0.getLsbD 26 = false ∧
  (s.thrm.get 2).getLsbD 0 = false

/-- Memory is in its canonical form. -/
def State.memoryCanonical (s : State) : Prop := s.mem.wf = true

/-! ### What an instruction leaves -/

/-- The value does not fit a signed word. -/
def outside32 (v : Int) : Bool := decide (v < -2 ^ 31 ∨ 2 ^ 31 ≤ v)

/-- `t` is `s` after an integer instruction wrote `r` to `rD`: with `oe`, OV becomes `ov` and SO is set with it; CA
becomes `ca`; with `rc`, CR0 compares `r` with 0; no other register, flag, field or byte of memory changes, and pc
advances. -/
def ArithEnds (s t : State) (rD : Reg) (r : Word) (oe ov rc ca : Bool) : Prop :=
  t.x rD = r ∧ (∀ q, q ≠ rD → t.x q = s.x q) ∧
  t.ca = ca ∧ t.ov = (if oe then ov else s.ov) ∧ t.so = (s.so || (oe && ov)) ∧
  t.xer &&& 0x1FFFFFFF = s.xer &&& 0x1FFFFFFF ∧
  t.crf 0 = (if rc then crBits (decide (r.toInt < 0)) (decide (0 < r.toInt)) (decide (r = 0)) t.so else s.crf 0) ∧
  (∀ m, m ≠ 0 → t.crf m = s.crf m) ∧
  t = { s with gpr := t.gpr, xer := t.xer, cr := t.cr, pc := s.pc + 4 }

/-- `t` is `s` after a logical instruction wrote `r` to `rA`: XER does not change. -/
def LogicEnds (s t : State) (rA : Reg) (r : Word) (rc : Bool) : Prop :=
  ArithEnds s t rA r false false rc s.ca ∧ t.xer = s.xer

/-- `t` is `s` after an instruction that writes one CR field. -/
def FieldEnds (s t : State) (crfD : CrField) (v : BitVec 4) : Prop :=
  t.crf crfD = v ∧ (∀ m, m ≠ crfD → t.crf m = s.crf m) ∧ t = { s with cr := t.cr, pc := s.pc + 4 }

/-- `s` with pc advanced. -/
def State.ended (s : State) : State := { s with pc := s.pc + 4 }

/-- The `i`-th byte from `ea` on, where effective and physical addresses agree. -/
def State.byte (s : State) (ea : Word) (i : Nat) : Byte := s.mem.read (byteAt ea i)

/-- No data address breakpoint is armed. -/
def State.unwatched (s : State) : Prop := s.acting false .dabr &&& 3 = 0

/-- The `n` bytes from a physical address lie in memory of the kind. -/
def State.allOf (s : State) (kind : RegionKind) (pa : Word) (n : Nat) : Prop :=
  ∀ i < n, s.params.kindAt (byteAt pa i) = kind

/-- A data access to the `n` bytes from `ea` on reaches RAM and nothing stops it: real mode, RAM, no data address
breakpoint armed. -/
def State.plainData (s : State) (ea : Word) (n : Nat) : Prop := s.msrDr = false ∧ s.unwatched ∧ s.allOf .ram ea n

/-- A load of the `n` bytes through a mapping with these attributes W and I misses no store: none is left that came
through others (R860 (f)), and the data cache is not dropping one (R860 (e)). -/
def State.unmixed (s : State) (pa : Word) (n : Nat) (attr : BitVec 2) : Prop :=
  ∀ e ∈ s.dirty, ∀ i < n, e.word = byteAt pa i / 4 →
    e.mixed = false ∧ e.attr = attr ∧ (e.cached && s.dropping) = false

/-- No stored word is left for the next `sync` to decide (R860 (e), (f)): the data cache is not dropping any, and none
that it may hold back was stored to through mappings with different W or I. -/
def State.decided (s : State) : Prop := s.dropping = false ∧ ∀ e ∈ s.dirty, (e.cached && e.mixed) = false

/-- A load of the `n` bytes from `ea` on reads what was stored last: `plainData`, and no store with other attributes than
real mode's, W = I = 0, is left. -/
def State.plainLoad (s : State) (ea : Word) (n : Nat) : Prop := s.plainData ea n ∧ s.unmixed ea n 0

/-- `t` is `s` after the bytes `bs` were stored from `ea` on: no other byte of memory changes, and nothing else but the
record of what the caches and the TLB may hold. -/
def StoreEnds (s t : State) (ea : Word) (bs : List Byte) : Prop :=
  (∀ i (h : i < bs.length), t.byte ea i = bs[i]) ∧
  (∀ a, (∀ i < bs.length, a ≠ byteAt ea i) → t.mem.read a = s.mem.read a) ∧
  t = { s with mem := t.mem, stale := t.stale, dirty := t.dirty, tables := t.tables, pc := s.pc + 4 }

/-- What a context synchronization (R135) makes of the record of what is not seen yet: of the late registers only a
write of DCE stays (R861, R862), no word becomes stale, and a word for which the sequence of R140 is complete is fresh.
Two clauses are the model's own reading: that a late HID4 or EAR, which R862 does not list, acts from here on (log 8), and
that with HID0[ICE] = 0, as HID0 was last written (R862), the sequence is complete once a `sync` followed the `dcbst` or
`dcbf`, without R140's second `sync` (log 10). -/
def ContextSynced (s t : State) : Prop :=
  (∀ e, e ∈ t.late ↔ e ∈ s.late ∧ e.reg = .dce) ∧
  ∀ e ∈ t.stale, ∃ o ∈ s.stale, e.word = o.word ∧ e.olds = o.olds ∧ o.stage ≠ .settled ∧
    (s.hid0.getLsbD 15 = false → o.stage = .written ∨ o.stage = .stored)

/-- The bytes of a word, a halfword and a byte, most significant first. -/
def wordBytes (v : Word) : List Byte := [v.extractLsb' 24 8, v.extractLsb' 16 8, v.extractLsb' 8 8, v.extractLsb' 0 8]
/-- The bytes of the low half of a word. -/
def halfBytes (v : Word) : List Byte := [v.extractLsb' 8 8, v.extractLsb' 0 8]
/-- The bytes of a doubleword. -/
def doubleBytes (v : Lane) : List Byte := wordBytes (v.extractLsb' 32 32) ++ wordBytes (v.extractLsb' 0 32)

/-- Bit `i` (LSB-0) lies under `MASK(mb, me)` (R10). -/
def underMask (mb me : BitVec 5) (i : Nat) : Bool :=
  if mb.toNat ≤ me.toNat then decide (mb.toNat ≤ 31 - i ∧ 31 - i ≤ me.toNat)
  else decide (31 - i ≤ me.toNat ∨ mb.toNat ≤ 31 - i)

/-- Bit `i` of a word rotated left by `n`. -/
def rotatedBit (v : Word) (n : Nat) (i : Nat) : Bool := v.getLsbD ((i + 32 - n) % 32)

/-- The exception bits of FPSCR that arithmetic sets and never clears. -/
def stickyBits : Word := exceptionBits

/-- `t` is `s` after a floating-point arithmetic instruction with target `frD`: no other floating-point register
changes, FPSCR's control bits do not change, CR1 copies FPSCR[31:28] with `rc`, no other CR field changes, and nothing
else but the count of draws and pc. -/
def FpEnds (s t : State) (frD : FReg) (rc : Bool) : Prop :=
  (∀ r, r ≠ frD → t.f0 r = s.f0 r ∧ t.f1 r = s.f1 r) ∧
  t.fpscr &&& 0xFF = s.fpscr &&& 0xFF ∧
  t.crf 1 = (if rc then t.fpscr.extractLsb' 28 4 else s.crf 1) ∧ (∀ m, m ≠ 1 → t.crf m = s.crf m) ∧
  t = { s with ps0 := t.ps0, ps1 := t.ps1, cr := t.cr, fpscr := t.fpscr, draws := t.draws, pc := s.pc + 4 }

/-- FPSCR went from `v` to `w` by operations that raised `raised`: the exception bits accumulate, and FX is set where one
of them was 0 (R433). -/
def FpRaised (v w raised : Word) : Prop :=
  w &&& 0x1FF80700 = (v ||| raised) &&& 0x1FF80700 ∧
  w.getLsbD 31 = (v.getLsbD 31 || decide (raised &&& 0x1FF80700 &&& ~~~v ≠ 0))

/-- FPSCR went from `v` to `w` by arithmetic whose outcome is `o` and which raised `raised`: FPRF, FR and FI describe the
result (R427 (7)), a disabled overflow leaves FR open (R430), and an enabled invalid operation or zero divide leaves FPRF
and clears FR and FI (R427 (2), R429). -/
def FpStatus (v w : Word) (o : FpOut) (raised : Word) : Prop :=
  FpRaised v w raised ∧ w.extractLsb' 12 5 = (if o.writes then o.fprf else v.extractLsb' 12 5) ∧
  w.getLsbD 17 = o.fi ∧ (o.frOpen = false → w.getLsbD 18 = o.fr) ∧ (o.writes = false → w.extractLsb' 17 2 = 0)

/-- An operation that raises these bits is an invalid operation that VE enables, or a zero divide that ZE enables: the
target is not written (R427 (2), R429). -/
def suppressedBy (fpscr raised : Word) : Bool :=
  (veOf fpscr && decide (raised &&& vxBits ≠ 0)) || (zeOf fpscr && decide (raised &&& zxBit ≠ 0))

/-- `t` is `s` after a move of the floating-point registers: FPSCR does not change. -/
def FpMoveEnds (s t : State) (frD : FReg) (rc : Bool) (v0 v1 : Lane) : Prop :=
  t.f0 frD = v0 ∧ t.f1 frD = v1 ∧ t.fpscr = s.fpscr ∧ FpEnds s t frD rc

/-- The step is an instruction boundary of a processor in mode `m`: no reset, not little-endian, and nothing that depends
on a bit of HID4 other than SBE (R60). -/
def State.atBoundary (s : State) (m : RunMode) : Prop :=
  s.lines.hardReset = false ∧ s.mode = m ∧ s.msrLe = false ∧ s.hid4Matters = false

/-- Nothing but the next instruction happens at this boundary: no reset, no wait or halt, no interrupt, no breakpoint. -/
def State.ready (s : State) : Prop := s.atBoundary .running ∧ s.interrupt = none ∧ s.iabrMatches = false

/-- `n` bytes from `ea` on as a number, the first the most significant. -/
def State.rawValue (s : State) (ea : Word) (n : Nat) : BitVec 64 := beValue ((List.range n).map (s.byte ea))

/-- The word at `ea`. -/
def State.wordAt (s : State) (ea : Word) : Word := s.byte ea 0 ++ s.byte ea 1 ++ s.byte ea 2 ++ s.byte ea 3

/-- The doubleword at `ea`. -/
def State.doubleAt (s : State) (ea : Word) : Lane := s.wordAt ea ++ s.wordAt (ea + 4)

/-! ### The page table (R116) -/

/-- The address of a page table entry group: `secondary` selects the complemented hash. -/
def groupAt (sdr1 seg ea : Word) (secondary : Bool) : Word :=
  let hash1 : BitVec 19 := seg.extractLsb' 0 19 ^^^ (ea.extractLsb' 12 16).setWidth 19
  let hash : BitVec 19 := if secondary then ~~~hash1 else hash1
  sdr1.extractLsb' 25 7 ++ (sdr1.extractLsb' 16 9 ||| (hash.extractLsb' 10 9 &&& sdr1.extractLsb' 0 9)) ++
    hash.extractLsb' 0 10 ++ 0#6

/-- Word 0 of an entry that translates `ea` in a segment: V, VSID, H and API. -/
def entryWord (seg ea : Word) (secondary : Bool) : Word :=
  1#1 ++ seg.extractLsb' 0 24 ++ BitVec.ofBool secondary ++ ea.extractLsb' 22 6

/-- The address of the `i`-th entry of a group. -/
def entryAt (sdr1 seg ea : Word) (h : Bool) (i : Nat) : Word := groupAt sdr1 seg ea h + BitVec.ofNat 32 (8 * i)

/-- The `i`-th entry of a group translates `ea`. -/
def State.hasEntry (s : State) (sdr1 seg ea : Word) (h : Bool) (i : Nat) : Prop :=
  s.wordAt (entryAt sdr1 seg ea h i) = entryWord seg ea h

/-- No translation of the page predates the last change of the page table: its TLB set was cleared since, and the
changes were completed (R861). -/
def State.tableSettled (s : State) (ea : Word) : Prop :=
  s.tables.synced = s.tables.changes.length ∧ s.tables.cleared.get (tlbSet ea) = s.tables.changes.length

/-- Both groups for `ea` lie in RAM, and nothing older than the table is seen. -/
def State.tableReady (s : State) (sdr1 seg ea : Word) : Prop :=
  s.tableSettled ea ∧ ∀ h, s.allOf .ram (groupAt sdr1 seg ea h) 64

/-- No entry translates `ea`. -/
def State.noEntry (s : State) (sdr1 seg ea : Word) : Prop := ∀ h, ∀ i < 8, ¬s.hasEntry sdr1 seg ea h i

/-- The entry at `a` alone translates `ea`. -/
def State.onlyEntry (s : State) (sdr1 seg ea a : Word) : Prop :=
  ∃ h, ∃ i < 8, a = entryAt sdr1 seg ea h i ∧ s.hasEntry sdr1 seg ea h i ∧
    ∀ g, ∀ j < 8, s.hasEntry sdr1 seg ea g j → g = h ∧ j = i

/-! ### Exceptions and reset -/

/-- The bits of DSISR that describe the instruction word `w` after an alignment exception (R780). -/
def describes (dsisr w : Word) (xForm : Bool) : Prop :=
  dsisr.extractLsb' 17 15 = 0 ∧ dsisr.extractLsb' 5 5 = w.extractLsb' 21 5 ∧
  dsisr.extractLsb' 10 7 =
    (if xForm then w.extractLsb' 1 2 ++ w.extractLsb' 6 1 ++ w.extractLsb' 7 4
     else 0#2 ++ w.extractLsb' 26 1 ++ w.extractLsb' 27 4)

/-- `t` is `s` after instruction `i` raised an alignment exception at `ea`; `raField` says that DSISR names rA. -/
def AlignmentRaised (s t : State) (i : Instr) (xForm raField : Bool) (ea : Word) : Prop :=
  ∃ dsisr n, describes dsisr (encode i) xForm ∧
    (raField = true → dsisr.extractLsb' 0 5 = (encode i).extractLsb' 16 5 ∧ n = 0) ∧
    t = ({ s with draws := s.draws + n, dar := ea, dsisr := dsisr } : State).entered .alignment s.pc 0

/-- The values R74 and R850 give the registers at a hard reset. -/
def State.hasResetValues (s : State) : Prop :=
  s.pc = 0xFFF00100 ∧ s.msr = 0x00000040 ∧ s.cr = 0 ∧ s.xer = 0 ∧ s.lr = 0 ∧ s.ctr = 0 ∧ s.fpscr = 0 ∧ s.srr0 = 0 ∧
  s.srr1 = 0 ∧ s.dar = 0 ∧ s.dsisr = 0 ∧ s.sdr1 = 0 ∧ (∀ i : Fin 4, s.sprg.get i = 0) ∧ s.ear = 0 ∧
  s.dec = 0xFFFFFFFF ∧ s.tb = 0 ∧ s.hid0 = 0 ∧ s.hid2 = 0 ∧ s.hid4 = 0 ∧ s.l2cr = 0 ∧ s.ictc = 0 ∧
  (∀ i : Fin 8, s.gqr.get i = 0) ∧ s.wpar = 0 ∧ s.dmau = 0 ∧ s.dmal = 0 ∧
  (∀ i : Fin 3, s.thrm.get i = 0) ∧ s.mmcr0 = 0 ∧ s.mmcr1 = 0 ∧ s.sia = 0 ∧ s.iabr = 0 ∧ s.dabr = 0 ∧
  s.reserve = false ∧ s.decPending = false ∧ s.mode = .running

/-- `s` with the trace and floating-point exception enables of MSR cleared. -/
def State.untrapped (s : State) : State := { s with msr := s.msr &&& 0xFFFFF0FF }

/-! ### Groups of instructions -/

/-- The target and Rc of a scalar floating-point arithmetic, rounding, conversion or estimate instruction (R427). The
square roots are among them; they are illegal without `HasFsqrt`. -/
def scalarArithmetic : Instr → Option (FReg × Bool)
  | .fadd d _ _ rc | .fadds d _ _ rc | .fsub d _ _ rc | .fsubs d _ _ rc | .fmul d _ _ rc | .fmuls d _ _ rc
  | .fdiv d _ _ rc | .fdivs d _ _ rc | .fmadd d _ _ _ rc | .fmadds d _ _ _ rc | .fmsub d _ _ _ rc
  | .fmsubs d _ _ _ rc | .fnmadd d _ _ _ rc | .fnmadds d _ _ _ rc | .fnmsub d _ _ _ rc | .fnmsubs d _ _ _ rc
  | .fres d _ rc | .frsqrte d _ rc | .fsqrt d _ rc | .fsqrts d _ rc | .frsp d _ rc | .fctiw d _ rc
  | .fctiwz d _ rc => some (d, rc)
  | _ => none

/-- The target and Rc of a paired-single arithmetic or estimate instruction (R663). -/
def pairedArithmetic : Instr → Option (FReg × Bool)
  | .ps_add d _ _ rc | .ps_sub d _ _ rc | .ps_mul d _ _ rc | .ps_div d _ _ rc | .ps_madd d _ _ _ rc
  | .ps_madds0 d _ _ _ rc | .ps_madds1 d _ _ _ rc | .ps_msub d _ _ _ rc | .ps_nmadd d _ _ _ rc
  | .ps_nmsub d _ _ _ rc | .ps_sum0 d _ _ _ rc | .ps_sum1 d _ _ _ rc | .ps_muls0 d _ _ rc | .ps_muls1 d _ _ rc
  | .ps_res d _ rc | .ps_rsqrte d _ rc => some (d, rc)
  | _ => none

/-- The paired-single moves, merges, select and compares. -/
def isPairedMove : Instr → Bool
  | .ps_abs _ _ _ | .ps_neg _ _ _ | .ps_nabs _ _ _ | .ps_mr _ _ _ | .ps_sel _ _ _ _ _ | .ps_merge00 _ _ _ _
  | .ps_merge01 _ _ _ _ | .ps_merge10 _ _ _ _ | .ps_merge11 _ _ _ _ | .ps_cmpu0 _ _ _ | .ps_cmpo0 _ _ _
  | .ps_cmpu1 _ _ _ | .ps_cmpo1 _ _ _ => true
  | _ => false

/-- The scalar arithmetic that never writes lane 1 (R47). -/
def writesLane0Only : Instr → Bool
  | .fadd _ _ _ _ | .fsub _ _ _ _ | .fmul _ _ _ _ | .fdiv _ _ _ _ | .fmadd _ _ _ _ _ | .fmsub _ _ _ _ _
  | .fnmadd _ _ _ _ _ | .fnmsub _ _ _ _ _ | .frsqrte _ _ _ | .fsqrt _ _ _ | .fctiw _ _ _ | .fctiwz _ _ _ => true
  | _ => false

/-- A paired-single instruction that is not a quantized load or store. -/
def isPaired (i : Instr) : Bool := (pairedArithmetic i).isSome || isPairedMove i

/-- The quantized loads and stores. -/
def isQuantized : Instr → Bool
  | .psq_l _ _ _ _ _ | .psq_lu _ _ _ _ _ | .psq_lx _ _ _ _ _ | .psq_lux _ _ _ _ _ | .psq_st _ _ _ _ _
  | .psq_stu _ _ _ _ _ | .psq_stx _ _ _ _ _ | .psq_stux _ _ _ _ _ => true
  | _ => false

/-- The scalar floating-point instructions that are not arithmetic: moves, compares, loads, stores and the moves of
FPSCR. -/
def isScalarOther : Instr → Bool
  | .fabs _ _ _ | .fnabs _ _ _ | .fneg _ _ _ | .fmr _ _ _ | .fsel _ _ _ _ _ | .fcmpo _ _ _ | .fcmpu _ _ _
  | .lfd _ _ _ | .lfdu _ _ _ | .lfdx _ _ _ | .lfdux _ _ _ | .lfs _ _ _ | .lfsu _ _ _ | .lfsx _ _ _ | .lfsux _ _ _
  | .stfd _ _ _ | .stfdu _ _ _ | .stfdx _ _ _ | .stfdux _ _ _ | .stfs _ _ _ | .stfsu _ _ _ | .stfsx _ _ _
  | .stfsux _ _ _ | .stfiwx _ _ _ | .mcrfs _ _ | .mffs _ _ | .mtfsb0 _ _ | .mtfsb1 _ _ | .mtfsf _ _ _
  | .mtfsfi _ _ _ => true
  | _ => false

/-- The square roots, which exist only with `HasFsqrt` (D9). -/
def isSquareRoot : Instr → Bool
  | .fsqrt _ _ _ | .fsqrts _ _ _ => true
  | _ => false

/-- The privileged instructions of R801. -/
def isPrivileged : Instr → Bool
  | .mtmsr _ | .mfmsr _ | .dcbi _ _ | .tlbie _ | .tlbia | .tlbsync | .mtsr _ _ | .mfsr _ _ | .mtsrin _ _
  | .mfsrin _ _ | .rfi => true
  | .mtspr _ n | .mfspr _ n => n.getLsbD 4
  | _ => false

/-- `t` keeps every register that only the supervisor may write, the input lines and the parameters. -/
def KeepsSupervisor (s t : State) : Prop :=
  t.msr = s.msr ∧ t.srr0 = s.srr0 ∧ t.srr1 = s.srr1 ∧ t.dar = s.dar ∧ t.dsisr = s.dsisr ∧ t.dec = s.dec ∧
  t.tb = s.tb ∧ t.sdr1 = s.sdr1 ∧ t.sprg = s.sprg ∧ t.ear = s.ear ∧ t.sr = s.sr ∧ t.ibat = s.ibat ∧ t.dbat = s.dbat ∧
  t.gqr = s.gqr ∧ t.hid0 = s.hid0 ∧ t.hid1 = s.hid1 ∧ t.hid2 = s.hid2 ∧ t.hid4 = s.hid4 ∧ t.wpar = s.wpar ∧
  t.dmau = s.dmau ∧ t.dmal = s.dmal ∧ t.mmcr0 = s.mmcr0 ∧ t.mmcr1 = s.mmcr1 ∧ t.pmc = s.pmc ∧ t.sia = s.sia ∧
  t.iabr = s.iabr ∧ t.dabr = s.dabr ∧ t.l2cr = s.l2cr ∧ t.ictc = s.ictc ∧ t.thrm = s.thrm ∧
  t.decPending = s.decPending ∧ t.lines = s.lines ∧ t.mode = s.mode ∧ t.params = s.params ∧ t.time = s.time

/-! ### Values of lanes -/

/-- The result of the estimate of 1/x, or of 1 over its square root, with the exception bit it raises, where R490 and R491
fix it: a zero, an infinity, a NaN, and for the root a negative number. The result is not written where the exception is
enabled. -/
def estimateSpecial (root : Bool) (x : Lane) : Option (Lane × Word) :=
  match unpack x with
  | .zero neg => some (infinity neg, zxBit)
  | .inf neg => some (if root && neg then (defaultNan, vxsqrtBit) else (layout neg 0 0, 0))
  | .finite neg _ _ => if root && neg then some (defaultNan, vxsqrtBit) else none
  | .nan => some (quiet x, if isSnan x then vxsnanBit else 0)

/-- The number a lane holds; 0 for zeros, infinities and NaNs. -/
def laneValue (v : Lane) : ℚ :=
  match unpack v with
  | .finite neg mant exp => (if neg then -1 else 1) * mant * (2 : ℚ) ^ exp
  | _ => 0

/-- The lane is a number other than an infinity. -/
def isFinite (v : Lane) : Bool :=
  match unpack v with
  | .zero _ | .finite _ _ _ => true
  | .inf _ | .nan => false

/-- The lane `a` holds a smaller number than `b`, infinities included; neither is a NaN. -/
def laneLess (a b : Lane) : Bool :=
  match unpack a, unpack b with
  | .inf x, .inf y => x && !y
  | .inf x, _ => x
  | _, .inf y => !y
  | _, _ => decide (laneValue a < laneValue b)

/-- FL FG FE FU of two lanes (R498). -/
def laneOrder (a b : Lane) : BitVec 4 :=
  if isNan a || isNan b then 1 else crBits (laneLess a b) (laneLess b a) (!laneLess a b && !laneLess b a) false

/-- The number a single-format word holds (R420), where its exponent field is not all ones. -/
def singleValue (w : Word) : ℚ :=
  let sign : ℚ := if w.getLsbD 31 then -1 else 1
  let e := (w.extractLsb' 23 8).toNat
  let f := (w.extractLsb' 0 23).toNat
  if e = 0 then sign * f * (2 : ℚ) ^ (-149 : Int) else sign * ((2 ^ 23 + f : Nat) : ℚ) * (2 : ℚ) ^ ((e : Int) - 150)

/-- A rational moved to an integer toward zero. -/
def truncated (z : ℚ) : Int := if 0 ≤ z then ⌊z⌋ else ⌈z⌉

/-- `n` is the integer that `z` rounds to under RN (R426 (3)). -/
def RoundsTo (rn : BitVec 2) (z : ℚ) (n : Int) : Prop :=
  (rn = 0 → |(n : ℚ) - z| ≤ 1 / 2 ∧ (|(n : ℚ) - z| = 1 / 2 → n % 2 = 0)) ∧
  (rn = 1 → n = truncated z) ∧ (rn = 2 → n = ⌈z⌉) ∧ (rn = 3 → n = ⌊z⌋)

end Sys2Proof.Machine
end

