-- ==== Sys2Proof/Certificates/Slice0/Obligations.lean ====
section
/-! DEFINITION. The statements for the provers. Each says which rules of spec/ it rests on. -/

open Sys2Proof Sys2Proof.Machine

/-- Decoding the encoding of an instruction gives it back (R166, R184, R185). -/
def Obligations.DecodeEncode : Prop :=
  ∀ i : Instr, decode (encode i) = some i ∧ (i.wellFormed = true → classify (encode i) = .instr i)

/-- Words with illegal primary or unused extended opcodes raise the illegal-instruction exception (R182, R183). -/
def Obligations.IllegalOpcodes : Prop :=
  (∀ (w : Word) (s : State), s.msrIle = false →
    (opcd w ∈ [2, 30, 58, 62] ∨ opcd w ∈ [0, 1, 5, 6, 9, 22] ∨ (opcd w = 17 ∧ w.getLsbD 1 = false) ∨
      (opcd w = 4 ∧ xo5 w ∉ [10, 11, 12, 13, 14, 15, 18, 20, 21, 23, 24, 25, 26, 28, 29, 30, 31] ∧
        xo6 w ∉ [6, 7, 38, 39] ∧
        xo10 w ∉ [0, 32, 40, 64, 72, 96, 136, 264, 528, 560, 592, 624, 1014]) ∨
      (opcd w = 19 ∧ xo10 w ∉ [0, 16, 33, 50, 129, 150, 193, 225, 257, 289, 417, 449, 528]) ∨
      (opcd w = 31 ∧
        xo10 w ∉ [0, 4, 19, 20, 23, 24, 26, 28, 32, 54, 55, 60, 83, 86, 87, 119, 124, 144, 146, 150, 151, 183, 210,
          215, 242, 246, 247, 278, 279, 284, 306, 310, 311, 316, 339, 343, 370, 371, 375, 407, 412, 438, 439, 444, 467,
          470, 476, 512, 533, 534, 535, 536, 566, 567, 595, 597, 598, 599, 631, 659, 661, 662, 663, 695, 725, 727, 759,
          790, 792, 824, 854, 918, 922, 954, 982, 983, 1014] ∧
        xo9 w ∉ [8, 10, 11, 40, 75, 104, 136, 138, 200, 202, 232, 234, 235, 266, 459, 491]) ∨
      (opcd w = 59 ∧ xo5 w ∉ [18, 20, 21, 22, 24, 25, 28, 29, 30, 31]) ∨
      (opcd w = 63 ∧ xo5 w ∉ [18, 20, 21, 22, 23, 25, 26, 28, 29, 30, 31] ∧
        xo10 w ∉ [0, 12, 14, 15, 32, 38, 40, 64, 70, 72, 134, 136, 264, 583, 711])) →
    execWord w s = .next (s.entered .program s.pc 0x00080000)) ∧
  (∀ (i : Instr) (s : State), isSupplement i = true → s.params.supplement = false →
    execWord (encode i) s = .refused .supplementDisabled)

/-- Words the spec writes out decode to the instructions it writes them for (R201, R204, R275, R312, R373, R479, R562,
R591, R644, R670, R697, R744). -/
def Obligations.SpecWordsDecode : Prop :=
  classify 0x7C642E15 = .instr (.add 3 4 5 true true) ∧
  classify 0x41820010 = .instr (.bc 12 2 4 false false) ∧
  classify 0x4200FFF8 = .instr (.bc 16 0 0x3FFE false false) ∧
  classify 0x4E800021 = .instr (.bclr 20 0 true) ∧
  classify 0x3864FFFF = .instr (.addi 3 4 0xFFFF) ∧
  classify 0x7FE00008 = .instr (.tw 31 0 0) ∧
  classify 0x5483273F = .instr (.rlwinm 4 3 4 28 31 true) ∧
  classify 0x5483402E = .instr (.rlwinm 4 3 8 0 23 false) ∧
  classify 0x80640010 = .instr (.lwz 3 4 16) ∧
  classify 0xFC2220FA = .instr (.fmadd 1 2 4 3 false) ∧
  classify 0xE0232010 = .instr (.psq_l 1 3 false 2 16) ∧
  classify 0x102220D4 = .instr (.ps_sum0 1 2 4 3 false) ∧
  classify 0x7C7043A6 = .instr (.mtspr 3 272) ∧
  classify 0x4C064A02 = .instr (.crand 0 6 9) ∧
  classify 0x7C60212D = .instr (.stwcx_rc 3 0 4)

/-- A step runs the instruction whose bytes are at the program counter (R12, R55, R56, R128, R150). Where it rests on
the model's own reading or choice: log 41. -/
def Obligations.StepRunsDecoded : Prop :=
  (∀ (s : State) (m : Mapped) (i : Instr), s.ready → s.translate .fetch s.pc = .mapped m → m.pte = none →
    (∀ j < 4, s.params.kindAt (byteAt m.pa j) = .ram ∨ s.params.kindAt (byteAt m.pa j) = .rom) →
    (∀ e ∈ s.stale, e.word ≠ m.pa.toNat / 4) →
    classify (wordOfBytes (s.mem.read (byteAt m.pa 0)) (s.mem.read (byteAt m.pa 1)) (s.mem.read (byteAt m.pa 2))
      (s.mem.read (byteAt m.pa 3))) = .instr i →
    (isSupplement i = true → s.params.supplement = true) →
    step s = afterTick (exec i s)) ∧
  (∀ (s t : State) (w : Word) (i : Instr), s.ready → s.fetch = .ok w t → classify w = .instr i →
    (isSupplement i = true → t.params.supplement = true) →
    step s = afterTick (exec i t) ∧ t = { s with mem := t.mem, draws := t.draws }) ∧
  (∀ u : State, ∃ n : Nat, afterTick (.next u) = .next { u with
    tb := u.tb + BitVec.ofNat 64 n
    dec := u.dec - BitVec.ofNat 32 n
    decPending := u.decPending || decide (u.dec.toNat < n)
    time := u.time + 1 })

/-- Exception entry saves pc and MSR, keeps only ILE, ME and IP, and goes to the vector (R135, R140, R771, R773, R774,
R775, R861, R862). What its clause `ContextSynced` says of R140's sequence with HID0[ICE] = 0 (no second sync) and of a late
HID4 or EAR is the model's own reading: log 8, 10. -/
def Obligations.ExceptionEntry : Prop :=
  ∀ (e : Exception) (ra info : Word) (s : State),
    (s.msr.getLsbD 16 = false → ∃ t, takeException e ra info s = .next t ∧
      t.srr0 = ra &&& 0xFFFFFFFC ∧ t.srr1 = (s.msr &&& 0x87C0FFFF) ||| info ∧
      t.msr = s.msr &&& (if e = .machineCheck then 0x00010040 else 0x00011040) ∧
      t.pc = (if s.msr.getLsbD 6 then 0xFFF00000 else 0) ||| e.offset ∧
      ContextSynced s t ∧
      t = { s with srr0 := t.srr0, srr1 := t.srr1, msr := t.msr, pc := t.pc, stale := t.stale, late := t.late }) ∧
    (s.msr.getLsbD 16 = true → takeException e ra info s = .refused .littleEndian) ∧
    ∀ v ∈ [(Exception.systemReset, 0x00100#32), (.machineCheck, 0x00200), (.dsi, 0x00300), (.isi, 0x00400),
      (.externalInterrupt, 0x00500), (.alignment, 0x00600), (.program, 0x00700), (.fpUnavailable, 0x00800),
      (.decrementer, 0x00900), (.systemCall, 0x00C00), (.trace, 0x00D00),
      (.instructionAddressBreakpoint, 0x01300)], v.1.offset = v.2

/-- sc raises SystemCall with the next address, in either mode (R135, R140, R771, R775, R785, R861, R862). What its clause
`ContextSynced` says of R140's sequence with HID0[ICE] = 0 (no second sync) and of a late HID4 or EAR is the model's own
reading: log 8, 10. -/
def Obligations.SystemCall : Prop :=
  ∀ s : State, s.msrIle = false → ∃ t, exec .sc s = .next t ∧
    t.srr0 = (s.pc + 4) &&& 0xFFFFFFFC ∧ t.srr1 = s.msr &&& 0x87C0FFFF ∧ t.msr = s.msr &&& 0x00011040 ∧
    t.pc = (if s.msrIp then 0xFFF00C00 else 0x00000C00) ∧
    ContextSynced s t ∧
    t = { s with srr0 := t.srr0, srr1 := t.srr1, msr := t.msr, pc := t.pc, stale := t.stale, late := t.late }

/-- rfi restores MSR from SRR1 and pc from SRR0, and undoes a system call (R135, R140, R641, R781, R795, R861, R862). What
its clause `ContextSynced` says of R140's sequence with HID0[ICE] = 0 (no second sync) and of a late HID4 or EAR is the
model's own reading: log 8, 10. -/
def Obligations.ReturnFromInterrupt : Prop :=
  (∀ s : State, s.msrPr = false → s.srr1.getLsbD 0 = false →
    (fexOf s.fpscr = true → s.srr1.getLsbD 11 = false ∧ s.srr1.getLsbD 8 = false) →
    ∃ t, exec .rfi s = .next t ∧ ContextSynced s t ∧ t = { s with
      msr := (s.msr &&& 0x00010000) ||| (s.srr1 &&& 0x0000FF77)
      pc := s.srr0 &&& 0xFFFFFFFC
      stale := t.stale
      late := t.late }) ∧
  (∀ s : State, s.msrPr = false → s.srr1.getLsbD 0 = true → exec .rfi s = .refused .littleEndian) ∧
  (∀ s : State, s.msrPr = false → s.msrIle = false → s.srr1.getLsbD 0 = false → fexOf s.fpscr = true →
    (s.srr1.getLsbD 11 = true ∨ s.srr1.getLsbD 8 = true) →
    ∃ t, exec .rfi s = .next t ∧ t.srr0 = s.srr0 &&& 0xFFFFFFFC ∧
      t.srr1 = (s.srr1 &&& 0x0000FF77) ||| 0x00100000 ∧ t.pc = vectorAddress (s.srr1.getLsbD 6) .program) ∧
  (∀ s : State, s.pcAligned → s.msrLegal → (fexOf s.fpscr = true → s.msrFe = false) →
    ∃ t u, exec .sc s = .next t ∧ exec .rfi t = .next u ∧ u.pc = s.pc + 4 ∧ u.msr = s.msr &&& 0x0000FF77 ∧
      u = { s with pc := u.pc, msr := u.msr, srr0 := u.srr0, srr1 := u.srr1, stale := u.stale, late := u.late })

/-- tw and twi trap exactly when the trap condition holds (R644). -/
def Obligations.Traps : Prop :=
  (∀ (cond : BitVec 5) (a b : Word), trapCond cond a b = true ↔
    (cond.getLsbD 4 = true ∧ a.toInt < b.toInt) ∨ (cond.getLsbD 3 = true ∧ b.toInt < a.toInt) ∨
      (cond.getLsbD 2 = true ∧ a = b) ∨ (cond.getLsbD 1 = true ∧ a.toNat < b.toNat) ∨
      (cond.getLsbD 0 = true ∧ b.toNat < a.toNat)) ∧
  (∀ a b : Word, trapCond 0 a b = false ∧ trapCond 31 a b = true) ∧ encode (.tw 31 0 0) = 0x7FE00008 ∧
  (∀ (cond : BitVec 5) (rA rB : Reg) (simm : BitVec 16) (s : State), s.msrIle = false → s.msrSe = false →
    exec (.tw cond rA rB) s =
      (if trapCond cond (s.x rA) (s.x rB) then .next (s.entered .program s.pc 0x00020000) else .next s.ended) ∧
    exec (.twi cond rA simm) s =
      (if trapCond cond (s.x rA) (simm.signExtend 32) then .next (s.entered .program s.pc 0x00020000)
       else .next s.ended))

/-- Privileged instructions raise Program(PrivilegedInstruction) in user mode (R801, R563, R781). -/
def Obligations.PrivilegedInUserMode : Prop :=
  ∀ (i : Instr) (s : State), isPrivileged i = true → (i = .tlbia → s.params.hasTlbia = true) →
    s.msrPr = true → s.msrIle = false → exec i s = .next (s.entered .program s.pc 0x00040000)

/-- Floating-point and paired instructions raise FPUnavailable with MSR[FP] = 0 (R783, R46, R661). -/
def Obligations.FpUnavailable : Prop :=
  ∀ (i : Instr) (s : State), s.msrFp = false → s.msrIle = false →
    (((scalarArithmetic i).isSome = true ∧ (isSquareRoot i = true → s.params.hasFsqrt = true)) ∨
      isScalarOther i = true ∨ (isPaired i = true ∧ s.pse = true) ∨
      (isQuantized i = true ∧ s.pse = true ∧ s.lsqe = true)) →
    exec i s = .next (s.entered .fpUnavailable s.pc 0)

/-- Gated instructions are illegal where their gate is closed, even with MSR[FP] = 0 (R661, R783, R493, R494, R625,
R749). -/
def Obligations.GatedInstructionsIllegal : Prop :=
  ∀ (i : Instr) (s : State), s.msrIle = false →
    ((isPaired i = true ∧ s.pse = false) ∨ (isQuantized i = true ∧ (s.pse = false ∨ s.lsqe = false)) ∨
      ((∃ rA rB, i = .dcbz_l rA rB) ∧ (s.pse = false ∨ s.lce = false)) ∨
      (isSquareRoot i = true ∧ s.params.hasFsqrt = false) ∨ (i = .tlbia ∧ s.params.hasTlbia = false)) →
    exec i s = .next (s.entered .program s.pc 0x00080000)

/-- mtspr, mfspr and mftb of a number not in the table for that direction are illegal (R52, R60, R563, R566). Where it
rests on the model's own reading or choice: log 46. -/
def Obligations.UnknownSprIllegal : Prop :=
  (∀ (n : BitVec 10) (r : Reg) (s : State), s.msrIle = false → s.msrPr = true → n.getLsbD 4 = true → n ≠ 268 → n ≠ 269 →
    exec (.mftb r n) s = .next (s.entered .program s.pc 0x00040000)) ∧
  ∀ (n : BitVec 10) (r : Reg) (s : State), s.msrIle = false → (n.getLsbD 4 = true → s.msrPr = false) →
    (n.toNat ∉ [1, 8, 9, 18, 19, 22, 25, 26, 27, 272, 273, 274, 275, 282, 284, 285, 528, 529, 530, 531, 532, 533, 534,
        535, 536, 537, 538, 539, 540, 541, 542, 543, 912, 913, 914, 915, 916, 917, 918, 919, 920, 921, 922, 923, 952,
        953, 954, 955, 956, 957, 958, 1008, 1010, 1013, 1017, 1019, 1020, 1021, 1022] →
      ¬(s.params.part = .broadway ∧ (560 ≤ n.toNat ∧ n.toNat ≤ 575 ∨ n.toNat = 1011)) →
      exec (.mtspr r n) s = .next (s.entered .program s.pc 0x00080000)) ∧
    (n.toNat ∉ [1, 8, 9, 18, 19, 22, 25, 26, 27, 272, 273, 274, 275, 282, 287, 528, 529, 530, 531, 532, 533, 534, 535,
        536, 537, 538, 539, 540, 541, 542, 543, 912, 913, 914, 915, 916, 917, 918, 919, 920, 921, 922, 923, 936, 937,
        938, 939, 940, 941, 942, 952, 953, 954, 955, 956, 957, 958, 1008, 1009, 1010, 1013, 1017, 1019, 1020, 1021,
        1022] →
      ¬(s.params.part = .broadway ∧ (560 ≤ n.toNat ∧ n.toNat ≤ 575 ∨ n.toNat = 1011)) →
      exec (.mfspr r n) s = .next (s.entered .program s.pc 0x00080000)) ∧
    (n ≠ 268 → n ≠ 269 → exec (.mftb r n) s = .next (s.entered .program s.pc 0x00080000))

/-- An enabled floating-point exception is taken after FPSCR and the target are updated (R427, R434, R781). Where it
rests on the model's own reading or choice: log 40. -/
def Obligations.EnabledFpException : Prop :=
  ∀ (i : Instr) (s : State) (frD : FReg) (rc : Bool), scalarArithmetic i = some (frD, rc) → s.msrFp = true →
    s.msrFe = true → s.msrIle = false → niOf s.fpscr = false → (isSquareRoot i = true → s.params.hasFsqrt = true) →
    ∃ u, exec i s.untrapped = .next u ∧
      (u.fpscr.getLsbD 30 = true → exec i s = .next (({ u with msr := s.msr } : State).entered .program s.pc 0x00100000)) ∧
      (u.fpscr.getLsbD 30 = false → s.msrSe = false → exec i s = .next { u with msr := s.msr })

/-- With MSR[SE] = 1 add, cmp, mfcr, isync and the branches are followed by Trace; with MSR[BE] = 1 the branches are
(R786, R775). -/
def Obligations.TraceException : Prop :=
  ∀ (i : Instr) (s : State), s.msrIle = false →
    (((∃ rD rA rB oe rc, i = .add rD rA rB oe rc) ∨ (∃ f rA rB, i = .cmp f false rA rB) ∨ (∃ rD, i = .mfcr rD) ∨
        i = .isync) ∧ s.msrSe = true) ∨
      (((∃ li aa lk, i = .b li aa lk) ∨ (∃ bo bi bd aa lk, i = .bc bo bi bd aa lk) ∨ (∃ bo bi lk, i = .bclr bo bi lk) ∨
        (∃ bo bi lk, i = .bcctr bo bi lk)) ∧ (s.msrSe = true ∨ s.msrBe = true)) →
    ∃ u, exec i s.untrapped = .next u ∧ exec i s = .next (({ u with msr := s.msr } : State).entered .trace u.pc 0)

/-- Misaligned multiple, floating-point and reservation accesses raise Alignment with DAR and DSISR (R105, R556, R780,
R792). Where it rests on the model's own reading or choice: log 38. -/
def Obligations.AlignmentException : Prop :=
  ∀ (s : State) (r rA rB : Reg) (d : BitVec 16), s.msrIle = false →
    let base : Word := if rA = 0 then 0 else s.x rA
    let eaD := base + d.signExtend 32
    let eaX := base + s.x rB
    let upD := s.x rA + d.signExtend 32
    let upX := s.x rA + s.x rB
    (eaD.toNat % 4 ≠ 0 → ∀ i ∈ [Instr.lmw r rA d, .stmw r rA d],
      ∃ t, exec i s = .next t ∧ AlignmentRaised s t i false (i == .lmw r rA d) eaD) ∧
    (eaX.toNat % 4 ≠ 0 → ∀ i ∈ [Instr.lwarx r rA rB, .stwcx_rc r rA rB],
      ∃ t, exec i s = .next t ∧ AlignmentRaised s t i true false eaX) ∧
    (s.dce = false → ∃ t, exec (.dcbz rA rB) s = .next t ∧ AlignmentRaised s t (.dcbz rA rB) true false eaX) ∧
    (s.msrFp = true → eaD.toNat % 4 ≠ 0 →
      ∀ i ∈ [Instr.lfs r rA d, .lfd r rA d, .stfs r rA d, .stfd r rA d],
        ∃ t, exec i s = .next t ∧ AlignmentRaised s t i false false eaD) ∧
    (s.msrFp = true → eaX.toNat % 4 ≠ 0 →
      ∀ i ∈ [Instr.lfsx r rA rB, .lfdx r rA rB, .stfsx r rA rB, .stfdx r rA rB, .stfiwx r rA rB],
        ∃ t, exec i s = .next t ∧ AlignmentRaised s t i true false eaX) ∧
    (s.msrFp = true → upD.toNat % 4 ≠ 0 →
      ∀ i ∈ [Instr.lfsu r rA d, .lfdu r rA d, .stfsu r rA d, .stfdu r rA d],
        ∃ t, exec i s = .next t ∧ AlignmentRaised s t i false true upD) ∧
    (s.msrFp = true → upX.toNat % 4 ≠ 0 →
      ∀ i ∈ [Instr.lfsux r rA rB, .lfdux r rA rB, .stfsux r rA rB, .stfdux r rA rB],
        ∃ t, exec i s = .next t ∧ AlignmentRaised s t i true true upX)

/-- The instruction address breakpoint comes before the instruction; a fetch that does not translate raises ISI (R113,
R114, R115, R116, R117, R119, R128, R779, R787, R792). Where it rests on the model's own reading or choice: log 18,
41. -/
def Obligations.InstructionBreakpoint : Prop :=
  ∀ s : State, s.atBoundary .running → s.msrIle = false → s.interrupt = none →
    let iabr := s.acting true .iabr
    let hit : Prop := iabr.getLsbD 1 = true ∧ iabr.extractLsb' 2 30 = s.pc.extractLsb' 2 30 ∧ iabr.getLsbD 0 = s.msrIr
    let seg := s.acting true (.sr (s.pc.extractLsb' 28 4).toFin)
    let sdr1 := s.acting true .sdr1
    let blocks := (s.bats .fetch).filter fun b => b.covers (s.userFor true) s.pc
    let isi (info : Word) : Prop := step s = .next (s.entered .isi s.pc info).ticked
    (hit → step s = .next (s.entered .instructionAddressBreakpoint s.pc 0).ticked) ∧
    (¬hit → step s = afterTick (s.fetch.finish execWord)) ∧
    (¬hit → s.msrIr = true → ∀ b : Bat, blocks = [b] → b.wellFormed = true →
      (b.lower.getLsbD 3 = true → isi 0x10000000) ∧
      (b.lower.getLsbD 3 = false → b.lower.extractLsb' 0 2 = 0 → isi 0x08000000)) ∧
    (¬hit → s.msrIr = true → blocks = [] → seg.getLsbD 31 = false →
      (seg.getLsbD 28 = true → isi 0x10000000) ∧
      (seg.getLsbD 28 = false → s.tableReady sdr1 seg s.pc →
        (s.noEntry sdr1 seg s.pc → isi 0x40000000) ∧
        ∀ a, s.onlyEntry sdr1 seg s.pc a →
          ((s.wordAt (a + 4)).getLsbD 3 = true → isi 0x10000000) ∧
          ((s.wordAt (a + 4)).getLsbD 3 = false → (s.wordAt (a + 4)).extractLsb' 0 2 = 0 →
            (if s.userFor true then seg.getLsbD 29 else seg.getLsbD 30) = true → isi 0x08000000)))

/-- Blocks and pages translate a load or store, mark it and protect it, or it raises DSI; a device is reached once
(R100, R108, R111, R113, R114, R115, R116, R117, R118, R778). -/
def Obligations.DataStorage : Prop :=
  ∀ (s : State) (rD rA : Reg) (d : BitVec 16), s.msrIle = false →
    let ea : Word := (if rA = 0 then 0 else s.x rA) + d.signExtend 32
    let lwz := exec (.lwz rD rA d) s
    let stw := exec (.stw rD rA d) s
    let dsi (cause : Word) : State := ({ s with dar := ea, dsisr := cause } : State).entered .dsi s.pc 0
    let blocks := (s.bats .load).filter fun p => p.covers s.msrPr ea
    let seg := s.acting false (.sr (ea.extractLsb' 28 4).toFin)
    let sdr1 := s.acting false .sdr1
    let free : Prop := s.msrSe = false ∧ s.unwatched ∧ ea.toNat % 4096 ≤ 4092
    (∀ b : Bat, s.msrDr = true → blocks = [b] → b.wellFormed = true →
      let pa := b.physical ea
      (b.lower.extractLsb' 0 2 = 0 → lwz = .next (dsi 0x08000000)) ∧
      (b.lower.extractLsb' 0 2 ≠ 2 → stw = .next (dsi 0x0A000000)) ∧
      (∀ i < 17, pa.getLsbD i = ea.getLsbD i) ∧
      (b.lower.extractLsb' 0 2 ≠ 0 → free → s.allOf .ram pa 4 → s.unmixed pa 4 (b.lower.extractLsb' 5 2) →
        lwz = .next (s.setX rD (s.wordAt pa)).ended) ∧
      (b.lower.extractLsb' 0 2 = 2 → free → s.allOf .ram pa 4 →
        ∃ t, stw = .next t ∧ StoreEnds s t pa (wordBytes (s.x rD))) ∧
      (b.lower.getLsbD 5 = true → b.lower.getLsbD 3 = true → free → ea.toNat % 4 = 0 → s.allOf .device pa 4 →
        (b.lower.extractLsb' 0 2 ≠ 0 → ∃ w : Word,
          lwz = .next (({ s with bus := ⟨false, pa, wordBytes w⟩ :: s.bus } : State).setX rD w).ended) ∧
        (b.lower.extractLsb' 0 2 = 2 →
          stw = .next ({ s with bus := ⟨true, pa, wordBytes (s.x rD)⟩ :: s.bus } : State).ended))) ∧
    (s.msrDr = true → blocks = [] → seg.getLsbD 31 = false → s.tableReady sdr1 seg ea →
      (s.noEntry sdr1 seg ea → lwz = .next (dsi 0x40000000) ∧ stw = .next (dsi 0x42000000)) ∧
      ∀ a, s.onlyEntry sdr1 seg ea a →
        let w1 := s.wordAt (a + 4)
        let pa : Word := w1.extractLsb' 12 20 ++ ea.extractLsb' 0 12
        let pp := w1.extractLsb' 0 2
        let key := if s.msrPr then seg.getLsbD 29 else seg.getLsbD 30
        (key = true ∧ pp = 0 → lwz = .next (dsi 0x08000000)) ∧
        (pp = 3 ∨ (key = true ∧ pp ≠ 2) → stw = .next (dsi 0x0A000000)) ∧
        (¬(key = true ∧ pp = 0) → free → s.allOf .ram pa 4 → s.unmixed pa 4 (w1.extractLsb' 5 2) →
          ∃ t, lwz = .next t ∧ t = ({ s with mem := t.mem } : State).ended.setX rD (t.wordAt pa) ∧
            ∀ x, t.mem.read x = if x = byteAt a 6 then s.mem.read x ||| 0x01 else s.mem.read x) ∧
        (¬(pp = 3 ∨ (key = true ∧ pp ≠ 2)) → free → s.allOf .ram pa 4 →
          ∃ t, stw = .next t ∧
            t = ({ s with mem := t.mem, stale := t.stale, dirty := t.dirty, tables := t.tables } : State).ended ∧
            (∀ i (h : i < 4), t.byte pa i = (wordBytes (s.x rD))[i]) ∧
            ∀ x, (∀ i < 4, x ≠ byteAt pa i) → t.mem.read x =
              if x = byteAt a 6 then s.mem.read x ||| 0x01 else
              if x = byteAt a 7 then s.mem.read x ||| 0x80 else s.mem.read x)) ∧
    (s.msrDr = false → (s.acting false .dabr).extractLsb' 3 29 = ea.extractLsb' 3 29 →
      (s.acting false .dabr).getLsbD 2 = false → (s.acting false .dabr).getLsbD 0 = true →
      lwz = .next (dsi 0x00400000))

/-- A load, store or fetch of an absent address is a machine check, or halts the processor for ever (R777, R100, R109,
R128). Where it rests on the model's own reading or choice: log 14. -/
def Obligations.MachineCheck : Prop :=
  (∀ (s : State) (rD rA : Reg) (d : BitVec 16), s.msrDr = false → s.unwatched →
    let ea : Word := (if rA = 0 then 0 else s.x rA) + d.signExtend 32
    let reaches (n : Nat) : Prop := ∃ j < n, s.params.kindAt (byteAt ea j) = .absent
    let checked (i : Instr) : Prop :=
      (s.msrMe = true → s.msrIle = false → ∃ ra, exec i s = .next (s.drawn.entered .machineCheck ra 0x00040000)) ∧
      (s.msrMe = false → exec i s = .next { s with mode := .checkstop })
    (reaches 1 → checked (.lbz rD rA d) ∧ checked (.stb rD rA d)) ∧
    (reaches 4 → ea.toNat % 4096 ≤ 4092 → checked (.lwz rD rA d) ∧ checked (.stw rD rA d))) ∧
  (∀ s : State, s.ready → s.msrIr = false → (∃ j < 4, s.params.kindAt (byteAt s.pc j) = .absent) →
    (s.msrMe = true → s.msrIle = false →
      ∃ ra, step s = .next (s.drawn.entered .machineCheck ra 0x00040000).ticked) ∧
    (s.msrMe = false → step s = .next ({ s with mode := .checkstop } : State).ticked)) ∧
  (∀ s : State, s.mode = .checkstop → s.lines.hardReset = false → step s = .fault .checkstop)

/-- Asynchronous interrupts are taken in order: machine check, soft reset, external, decrementer (R776, R777, R782,
R784, R790, R791). Where it rests on the model's own reading or choice: log 7, 41. -/
def Obligations.InterruptPriority : Prop :=
  ∀ s : State, s.atBoundary .running → s.msrIle = false →
    (∀ c ∈ [(MachineCheckCause.pin, 0x00080000#32), (.transferError, 0x00040000), (.dataParity, 0x00020000),
        (.addressParity, 0x00010000), (.level2, 0x00100000)], s.lines.machineCheckIn = some c.1 →
      (s.msrMe = true → ∃ ra, step s = .next
        (({ s with lines := { s.lines with machineCheckIn := none }, draws := s.draws + 1 } : State).entered
          .machineCheck ra c.2).ticked) ∧
      (s.msrMe = false → ∃ t, step s = .next t ∧ t.mode = .checkstop ∧ t.pc = s.pc)) ∧
    (s.lines.machineCheckIn = none → s.lines.softReset = true → step s = .next
      (({ s with lines := { s.lines with softReset := false } } : State).entered .systemReset s.pc 0).ticked) ∧
    (s.lines.machineCheckIn = none → s.lines.softReset = false → s.msrEe = true → s.lines.extIrq = true →
      step s = .next (s.entered .externalInterrupt s.pc 0).ticked) ∧
    (s.lines.machineCheckIn = none → s.lines.softReset = false → s.msrEe = true → s.lines.extIrq = false →
      s.decPending = true → step s = .next
      (({ s with decPending := false } : State).entered .decrementer s.pc 0).ticked) ∧
    (s.lines.machineCheckIn = none → s.lines.softReset = false →
      (s.msrEe = false ∨ (s.lines.extIrq = false ∧ s.decPending = false)) → s.interrupt = none)

/-- A hard reset gives every register its reset value and keeps memory and the parameters (R74, R776, R850). Where it
rests on the model's own reading or choice: log 11, 33, 45. -/
def Obligations.HardReset : Prop :=
  State.reset.hasResetValues ∧
  ∀ s : State, s.lines.hardReset = true → ∃ t, step s = .next t ∧ t.hasResetValues ∧ t.params = s.params ∧
    t.bus = s.bus ∧ t.lines.hardReset = false ∧ t.lines.extIrq = s.lines.extIrq ∧ (s.dirty = [] → t.mem = s.mem)

/-- add, subf and neg complete with the sum or difference, OV, SO and CR0 (R15, R200, R201, R210, R216). -/
def Obligations.AddSubtract : Prop :=
  ∀ (rD rA rB : Reg) (oe rc : Bool) (s : State), s.msrSe = false →
    let a := s.x rA
    let b := s.x rB
    (∃ t, exec (.add rD rA rB oe rc) s = .next t ∧
      ArithEnds s t rD (a + b) oe (outside32 (a.toInt + b.toInt)) rc s.ca) ∧
    (∃ t, exec (.subf rD rA rB oe rc) s = .next t ∧
      ArithEnds s t rD (b - a) oe (outside32 (b.toInt - a.toInt)) rc s.ca) ∧
    (∃ t, exec (.neg rD rA oe rc) s = .next t ∧ ArithEnds s t rD (-a) oe (outside32 (-a.toInt)) rc s.ca)

/-- The carrying and extended additions and subtractions complete with result, CA, OV, SO and CR0 (R10, R200, R202,
R203, R208, R209, R211, R212, R214, R215). -/
def Obligations.CarryingArithmetic : Prop :=
  ∀ (rD rA rB : Reg) (oe rc : Bool) (s : State), s.msrSe = false →
    let a := s.x rA
    let b := s.x rB
    let c : Nat := if s.ca then 1 else 0
    let w : Word := BitVec.ofNat 32 c
    (∃ t, exec (.addc rD rA rB oe rc) s = .next t ∧
      ArithEnds s t rD (a + b) oe (outside32 (a.toInt + b.toInt)) rc (decide (2 ^ 32 ≤ a.toNat + b.toNat))) ∧
    (∃ t, exec (.adde rD rA rB oe rc) s = .next t ∧
      ArithEnds s t rD (a + b + w) oe (outside32 (a.toInt + b.toInt + c)) rc
        (decide (2 ^ 32 ≤ a.toNat + b.toNat + c))) ∧
    (∃ t, exec (.addme rD rA oe rc) s = .next t ∧
      ArithEnds s t rD (a + w - 1) oe (outside32 (a.toInt + c - 1)) rc (decide (1 ≤ a.toNat + c))) ∧
    (∃ t, exec (.addze rD rA oe rc) s = .next t ∧
      ArithEnds s t rD (a + w) oe (outside32 (a.toInt + c)) rc (decide (2 ^ 32 ≤ a.toNat + c))) ∧
    (∃ t, exec (.subfc rD rA rB oe rc) s = .next t ∧
      ArithEnds s t rD (b - a) oe (outside32 (b.toInt - a.toInt)) rc (decide (a.toNat ≤ b.toNat))) ∧
    (∃ t, exec (.subfe rD rA rB oe rc) s = .next t ∧
      ArithEnds s t rD (b - a - 1 + w) oe (outside32 (b.toInt - a.toInt - 1 + c)) rc
        (decide (a.toNat < b.toNat + c))) ∧
    (∃ t, exec (.subfme rD rA oe rc) s = .next t ∧
      ArithEnds s t rD (w - a - 2) oe (outside32 (c - a.toInt - 2)) rc (decide (a.toNat + 1 < 2 ^ 32 + c))) ∧
    (∃ t, exec (.subfze rD rA oe rc) s = .next t ∧
      ArithEnds s t rD (w - a - 1) oe (outside32 (c - a.toInt - 1)) rc (decide (a.toNat < c)))

/-- The immediate additions complete, with rA = 0 as the constant 0 in addi and addis only (R204, R205, R206, R207,
R213). -/
def Obligations.ImmediateArithmetic : Prop :=
  ∀ (rD rA : Reg) (simm : BitVec 16) (s : State), s.msrSe = false →
    let a := s.x rA
    let a0 : Word := if rA = 0 then 0 else s.x rA
    let v : Word := simm.signExtend 32
    (∃ t, exec (.addi rD rA simm) s = .next t ∧ ArithEnds s t rD (a0 + v) false false false s.ca) ∧
    (∃ t, exec (.addis rD rA simm) s = .next t ∧
      ArithEnds s t rD (a0 + BitVec.ofNat 32 (simm.toNat * 65536)) false false false s.ca) ∧
    (∃ t, exec (.addic rD rA simm) s = .next t ∧
      ArithEnds s t rD (a + v) false false false (decide (2 ^ 32 ≤ a.toNat + v.toNat))) ∧
    (∃ t, exec (.addic_rc rD rA simm) s = .next t ∧
      ArithEnds s t rD (a + v) false false true (decide (2 ^ 32 ≤ a.toNat + v.toNat))) ∧
    (∃ t, exec (.subfic rD rA simm) s = .next t ∧
      ArithEnds s t rD (v - a) false false false (decide (a.toNat ≤ v.toNat)))

/-- The multiplications complete with the low or high word of the exact product (R217, R218, R219, R220). -/
def Obligations.Multiply : Prop :=
  ∀ (rD rA rB : Reg) (simm : BitVec 16) (oe rc : Bool) (s : State), s.msrSe = false →
    let a := s.x rA
    let b := s.x rB
    (∃ t, exec (.mulhw rD rA rB rc) s = .next t ∧
      ArithEnds s t rD (BitVec.ofInt 32 (a.toInt * b.toInt / 2 ^ 32)) false false rc s.ca) ∧
    (∃ t, exec (.mulhwu rD rA rB rc) s = .next t ∧
      ArithEnds s t rD (BitVec.ofNat 32 (a.toNat * b.toNat / 2 ^ 32)) false false rc s.ca) ∧
    (∃ t, exec (.mullw rD rA rB oe rc) s = .next t ∧
      ArithEnds s t rD (a * b) oe (outside32 (a.toInt * b.toInt)) rc s.ca) ∧
    (∃ t, exec (.mulli rD rA simm) s = .next t ∧
      ArithEnds s t rD (a * simm.signExtend 32) false false false s.ca)

/-- The divisions complete: a truncated quotient, or an undefined one with overflow (R221, R222). -/
def Obligations.Divide : Prop :=
  ∀ (rD rA rB : Reg) (oe rc : Bool) (s : State), s.msrSe = false →
    let a := s.x rA
    let b := s.x rB
    ((b ≠ 0 ∧ ¬(a = 0x80000000 ∧ b = 0xFFFFFFFF)) → ∃ t q, exec (.divw rD rA rB oe rc) s = .next t ∧
      ArithEnds s t rD q oe false rc s.ca ∧
      ∃ m : Int, a.toInt = q.toInt * b.toInt + m ∧ |m| < |b.toInt| ∧ (m = 0 ∨ m.sign = a.toInt.sign)) ∧
    ((b = 0 ∨ (a = 0x80000000 ∧ b = 0xFFFFFFFF)) → ∃ t q, exec (.divw rD rA rB oe rc) s = .next t ∧
      ArithEnds { s with draws := s.draws + 1 } t rD q oe true rc s.ca) ∧
    (b ≠ 0 → ∃ t, exec (.divwu rD rA rB oe rc) s = .next t ∧
      ArithEnds s t rD (BitVec.ofNat 32 (a.toNat / b.toNat)) oe false rc s.ca) ∧
    (b = 0 → ∃ t q, exec (.divwu rD rA rB oe rc) s = .next t ∧
      ArithEnds { s with draws := s.draws + 1 } t rD q oe true rc s.ca)

/-- The logical instructions complete with the bitwise result in rA and CR0 where they record (R250, R251, R252, R253,
R254, R255, R256, R257, R259, R262, R263, R264). -/
def Obligations.Logical : Prop :=
  ∀ (rS rA rB : Reg) (u : BitVec 16) (rc : Bool) (s : State), s.msrSe = false →
    let v := s.x rS
    let b := s.x rB
    let low : Word := 0#16 ++ u
    let high : Word := u ++ 0#16
    (∃ t, exec (.and rS rA rB rc) s = .next t ∧ LogicEnds s t rA (v &&& b) rc) ∧
    (∃ t, exec (.andc rS rA rB rc) s = .next t ∧ LogicEnds s t rA (v &&& ~~~b) rc) ∧
    (∃ t, exec (.or rS rA rB rc) s = .next t ∧ LogicEnds s t rA (v ||| b) rc) ∧
    (∃ t, exec (.orc rS rA rB rc) s = .next t ∧ LogicEnds s t rA (v ||| ~~~b) rc) ∧
    (∃ t, exec (.xor rS rA rB rc) s = .next t ∧ LogicEnds s t rA (v ^^^ b) rc) ∧
    (∃ t, exec (.nand rS rA rB rc) s = .next t ∧ LogicEnds s t rA (~~~(v &&& b)) rc) ∧
    (∃ t, exec (.nor rS rA rB rc) s = .next t ∧ LogicEnds s t rA (~~~(v ||| b)) rc) ∧
    (∃ t, exec (.eqv rS rA rB rc) s = .next t ∧ LogicEnds s t rA (~~~(v ^^^ b)) rc) ∧
    (∃ t, exec (.andi_rc rS rA u) s = .next t ∧ LogicEnds s t rA (v &&& low) true) ∧
    (∃ t, exec (.andis_rc rS rA u) s = .next t ∧ LogicEnds s t rA (v &&& high) true) ∧
    (∃ t, exec (.ori rS rA u) s = .next t ∧ LogicEnds s t rA (v ||| low) false) ∧
    (∃ t, exec (.oris rS rA u) s = .next t ∧ LogicEnds s t rA (v ||| high) false) ∧
    (∃ t, exec (.xori rS rA u) s = .next t ∧ LogicEnds s t rA (v ^^^ low) false) ∧
    (∃ t, exec (.xoris rS rA u) s = .next t ∧ LogicEnds s t rA (v ^^^ high) false)

/-- Shifts, sign extensions and the zero count complete with the value arithmetic gives (R270, R271, R272, R273, R741,
R742, R745). -/
def Obligations.Shifts : Prop :=
  ∀ (rS rA rB : Reg) (sh : BitVec 5) (rc : Bool) (s : State), s.msrSe = false →
    let v := s.x rS
    let n := (s.x rB).toNat % 64
    let lost (k : Nat) : Bool := decide (v.toInt < 0 ∧ v.toInt % 2 ^ k ≠ 0)
    (∃ t, exec (.slw rS rA rB rc) s = .next t ∧ LogicEnds s t rA (BitVec.ofNat 32 (v.toNat * 2 ^ n)) rc) ∧
    (∃ t, exec (.srw rS rA rB rc) s = .next t ∧ LogicEnds s t rA (BitVec.ofNat 32 (v.toNat / 2 ^ n)) rc) ∧
    (∃ t, exec (.sraw rS rA rB rc) s = .next t ∧
      ArithEnds s t rA (BitVec.ofInt 32 (v.toInt / 2 ^ n)) false false rc (lost n)) ∧
    (∃ t, exec (.srawi rS rA sh rc) s = .next t ∧
      ArithEnds s t rA (BitVec.ofInt 32 (v.toInt / 2 ^ sh.toNat)) false false rc (lost sh.toNat)) ∧
    (∃ t, exec (.extsb rS rA rc) s = .next t ∧
      LogicEnds s t rA (BitVec.ofInt 32 (Int.bmod v.toNat 256)) rc) ∧
    (∃ t, exec (.extsh rS rA rc) s = .next t ∧
      LogicEnds s t rA (BitVec.ofInt 32 (Int.bmod v.toNat 65536)) rc) ∧
    (∃ t, ∃ k ≤ 32, exec (.cntlzw rS rA rc) s = .next t ∧ LogicEnds s t rA (BitVec.ofNat 32 k) rc ∧
      (∀ i < k, v.getLsbD (31 - i) = false) ∧ (k < 32 → v.getLsbD (31 - k) = true))

/-- The rotates complete: each bit is the rotated one under the mask, and 0 or rA's old bit outside (R10, R274, R275,
R276). -/
def Obligations.Rotates : Prop :=
  ∀ (rS rA rB : Reg) (sh mb me : BitVec 5) (rc : Bool) (s : State), s.msrSe = false →
    let v := s.x rS
    (∃ t r, exec (.rlwinm rS rA sh mb me rc) s = .next t ∧ LogicEnds s t rA r rc ∧
      ∀ i < 32, r.getLsbD i = (underMask mb me i && rotatedBit v sh.toNat i)) ∧
    (∃ t r, exec (.rlwnm rS rA rB mb me rc) s = .next t ∧ LogicEnds s t rA r rc ∧
      ∀ i < 32, r.getLsbD i = (underMask mb me i && rotatedBit v ((s.x rB).toNat % 32) i)) ∧
    (∃ t r, exec (.rlwimi rS rA sh mb me rc) s = .next t ∧ LogicEnds s t rA r rc ∧
      ∀ i < 32, r.getLsbD i = if underMask mb me i then rotatedBit v sh.toNat i else (s.x rA).getLsbD i)

/-- The compares complete with LT, GT, EQ and SO in the named field and nothing else (R300, R301, R302, R303, R304).
-/
def Obligations.Compares : Prop :=
  ∀ (f : CrField) (rA rB : Reg) (v : BitVec 16) (s : State), s.msrSe = false →
    let a := s.x rA
    let b := s.x rB
    let i : Int := v.toInt
    (∃ t, exec (.cmp f false rA rB) s = .next t ∧
      FieldEnds s t f (crBits (decide (a.toInt < b.toInt)) (decide (b.toInt < a.toInt)) (decide (a = b)) s.so)) ∧
    (∃ t, exec (.cmpi f false rA v) s = .next t ∧
      FieldEnds s t f (crBits (decide (a.toInt < i)) (decide (i < a.toInt)) (decide (a.toInt = i)) s.so)) ∧
    (∃ t, exec (.cmpl f false rA rB) s = .next t ∧
      FieldEnds s t f (crBits (decide (a.toNat < b.toNat)) (decide (b.toNat < a.toNat)) (decide (a = b)) s.so)) ∧
    (∃ t, exec (.cmpli f false rA v) s = .next t ∧
      FieldEnds s t f
        (crBits (decide (a.toNat < v.toNat)) (decide (v.toNat < a.toNat)) (decide (a.toNat = v.toNat)) s.so))

/-- The branches complete: target, condition, CTR and LR (R310, R311, R312, R313, R314). -/
def Obligations.Branches : Prop :=
  ∀ (li : BitVec 24) (bo : BitVec 5) (bi : CrBit) (bd : BitVec 14) (aa lk : Bool) (s : State),
    s.msrSe = false → s.msrBe = false →
    let link : Word := if lk then s.pc + 4 else s.lr
    let count : Word := if bo.getLsbD 2 then s.ctr else s.ctr - 1
    let counted : Prop := bo.getLsbD 2 = true ∨ (if bo.getLsbD 1 then count = 0 else count ≠ 0)
    let holds : Prop := bo.getLsbD 4 = true ∨ s.cr.getLsbD (31 - bi.toNat) = bo.getLsbD 3
    let dest (d : Word) : Word := if aa then d else s.pc + d
    exec (.b li aa lk) s = .next { s with pc := dest ((li ++ 0#2).signExtend 32), lr := link } ∧
    (∃ t, exec (.bc bo bi bd aa lk) s = .next t ∧ (counted ∧ holds → t.pc = dest ((bd ++ 0#2).signExtend 32)) ∧
      (¬(counted ∧ holds) → t.pc = s.pc + 4) ∧ t = { s with pc := t.pc, ctr := count, lr := link }) ∧
    (∃ t, exec (.bclr bo bi lk) s = .next t ∧ (counted ∧ holds → t.pc = s.lr &&& 0xFFFFFFFC) ∧
      (¬(counted ∧ holds) → t.pc = s.pc + 4) ∧ t = { s with pc := t.pc, ctr := count, lr := link }) ∧
    (bo.getLsbD 2 = true → ∃ t, exec (.bcctr bo bi lk) s = .next t ∧ (holds → t.pc = s.ctr &&& 0xFFFFFFFC) ∧
      (¬holds → t.pc = s.pc + 4) ∧ t = { s with pc := t.pc, lr := link })

/-- The integer loads complete with the bytes at the address, big-endian, and nothing else changed (R102, R105, R350,
R351, R352, R359, R363, R371, R373, R374, R381). -/
def Obligations.IntegerLoads : Prop :=
  ∀ (rD rA rB : Reg) (d : BitVec 16) (s : State), s.msrSe = false →
    let base : Word := if rA = 0 then 0 else s.x rA
    let eaD := base + d.signExtend 32
    let eaX := base + s.x rB
    let upD := s.x rA + d.signExtend 32
    let upX := s.x rA + s.x rB
    let update : Prop := rA ≠ 0 ∧ rA ≠ rD
    (s.plainLoad eaD 1 → exec (.lbz rD rA d) s = .next (s.setX rD (0#24 ++ s.byte eaD 0)).ended) ∧
    (s.plainLoad eaX 1 → exec (.lbzx rD rA rB) s = .next (s.setX rD (0#24 ++ s.byte eaX 0)).ended) ∧
    (update → s.plainLoad upD 1 →
      exec (.lbzu rD rA d) s = .next ((s.setX rD (0#24 ++ s.byte upD 0)).setX rA upD).ended) ∧
    (update → s.plainLoad upX 1 →
      exec (.lbzux rD rA rB) s = .next ((s.setX rD (0#24 ++ s.byte upX 0)).setX rA upX).ended) ∧
    (s.plainLoad eaD 2 → exec (.lhz rD rA d) s = .next (s.setX rD (0#16 ++ s.byte eaD 0 ++ s.byte eaD 1)).ended) ∧
    (s.plainLoad eaX 2 → exec (.lhzx rD rA rB) s = .next (s.setX rD (0#16 ++ s.byte eaX 0 ++ s.byte eaX 1)).ended) ∧
    (update → s.plainLoad upD 2 →
      exec (.lhzu rD rA d) s = .next ((s.setX rD (0#16 ++ s.byte upD 0 ++ s.byte upD 1)).setX rA upD).ended) ∧
    (update → s.plainLoad upX 2 →
      exec (.lhzux rD rA rB) s = .next ((s.setX rD (0#16 ++ s.byte upX 0 ++ s.byte upX 1)).setX rA upX).ended) ∧
    (s.plainLoad eaD 2 → exec (.lha rD rA d) s = .next (s.setX rD ((s.byte eaD 0 ++ s.byte eaD 1).signExtend 32)).ended) ∧
    (s.plainLoad eaX 2 → exec (.lhax rD rA rB) s = .next (s.setX rD ((s.byte eaX 0 ++ s.byte eaX 1).signExtend 32)).ended) ∧
    (update → s.plainLoad upD 2 →
      exec (.lhau rD rA d) s = .next ((s.setX rD ((s.byte upD 0 ++ s.byte upD 1).signExtend 32)).setX rA upD).ended) ∧
    (update → s.plainLoad upX 2 →
      exec (.lhaux rD rA rB) s = .next ((s.setX rD ((s.byte upX 0 ++ s.byte upX 1).signExtend 32)).setX rA upX).ended) ∧
    (s.plainLoad eaD 4 → exec (.lwz rD rA d) s = .next (s.setX rD (s.wordAt eaD)).ended) ∧
    (s.plainLoad eaX 4 → exec (.lwzx rD rA rB) s = .next (s.setX rD (s.wordAt eaX)).ended) ∧
    (update → s.plainLoad upD 4 →
      exec (.lwzu rD rA d) s = .next ((s.setX rD (s.wordAt upD)).setX rA upD).ended) ∧
    (update → s.plainLoad upX 4 →
      exec (.lwzux rD rA rB) s = .next ((s.setX rD (s.wordAt upX)).setX rA upX).ended) ∧
    (s.plainLoad eaX 2 →
      exec (.lhbrx rD rA rB) s = .next (s.setX rD (0#16 ++ s.byte eaX 1 ++ s.byte eaX 0)).ended) ∧
    (s.plainLoad eaX 4 → exec (.lwbrx rD rA rB) s =
      .next (s.setX rD (s.byte eaX 3 ++ s.byte eaX 2 ++ s.byte eaX 1 ++ s.byte eaX 0)).ended)

/-- The integer stores complete with the bytes of rS at the address, and no other byte changed (R102, R105, R350,
R355, R356, R367, R372, R377, R378, R382). -/
def Obligations.IntegerStores : Prop :=
  ∀ (rS rA rB : Reg) (d : BitVec 16) (s : State), s.msrSe = false →
    let base : Word := if rA = 0 then 0 else s.x rA
    let eaD := base + d.signExtend 32
    let eaX := base + s.x rB
    let upD := s.x rA + d.signExtend 32
    let upX := s.x rA + s.x rB
    (s.plainData eaD 1 → ∃ t, exec (.stb rS rA d) s = .next t ∧ StoreEnds s t eaD [(s.x rS).extractLsb' 0 8]) ∧
    (s.plainData eaX 1 → ∃ t, exec (.stbx rS rA rB) s = .next t ∧ StoreEnds s t eaX [(s.x rS).extractLsb' 0 8]) ∧
    (rA ≠ 0 → s.plainData upD 1 →
      ∃ t, exec (.stbu rS rA d) s = .next (t.setX rA upD) ∧ StoreEnds s t upD [(s.x rS).extractLsb' 0 8]) ∧
    (rA ≠ 0 → s.plainData upX 1 →
      ∃ t, exec (.stbux rS rA rB) s = .next (t.setX rA upX) ∧ StoreEnds s t upX [(s.x rS).extractLsb' 0 8]) ∧
    (s.plainData eaD 2 → ∃ t, exec (.sth rS rA d) s = .next t ∧ StoreEnds s t eaD (halfBytes (s.x rS))) ∧
    (s.plainData eaX 2 → ∃ t, exec (.sthx rS rA rB) s = .next t ∧ StoreEnds s t eaX (halfBytes (s.x rS))) ∧
    (rA ≠ 0 → s.plainData upD 2 →
      ∃ t, exec (.sthu rS rA d) s = .next (t.setX rA upD) ∧ StoreEnds s t upD (halfBytes (s.x rS))) ∧
    (rA ≠ 0 → s.plainData upX 2 →
      ∃ t, exec (.sthux rS rA rB) s = .next (t.setX rA upX) ∧ StoreEnds s t upX (halfBytes (s.x rS))) ∧
    (s.plainData eaD 4 → ∃ t, exec (.stw rS rA d) s = .next t ∧ StoreEnds s t eaD (wordBytes (s.x rS))) ∧
    (s.plainData eaX 4 → ∃ t, exec (.stwx rS rA rB) s = .next t ∧ StoreEnds s t eaX (wordBytes (s.x rS))) ∧
    (rA ≠ 0 → s.plainData upD 4 →
      ∃ t, exec (.stwu rS rA d) s = .next (t.setX rA upD) ∧ StoreEnds s t upD (wordBytes (s.x rS))) ∧
    (rA ≠ 0 → s.plainData upX 4 →
      ∃ t, exec (.stwux rS rA rB) s = .next (t.setX rA upX) ∧ StoreEnds s t upX (wordBytes (s.x rS))) ∧
    (s.plainData eaX 2 → ∃ t, exec (.sthbrx rS rA rB) s = .next t ∧
      StoreEnds s t eaX (halfBytes (s.x rS)).reverse) ∧
    (s.plainData eaX 4 → ∃ t, exec (.stwbrx rS rA rB) s = .next t ∧
      StoreEnds s t eaX (wordBytes (s.x rS)).reverse)

/-- lmw and stmw move the registers from rD or rS to r31 (R395, R396). -/
def Obligations.MultipleWords : Prop :=
  ∀ (rD rA : Reg) (d : BitVec 16) (s : State), s.msrSe = false →
    let ea : Word := (if rA = 0 then 0 else s.x rA) + d.signExtend 32
    s.plainData ea (4 * (32 - rD.toNat)) → ea.toNat % 4 = 0 →
    (rA.toNat < rD.toNat → s.unmixed ea (4 * (32 - rD.toNat)) 0 → ∃ t, exec (.lmw rD rA d) s = .next t ∧ t = { s with gpr := t.gpr, pc := s.pc + 4 } ∧
      ∀ q : Reg, t.x q =
        if rD.toNat ≤ q.toNat then s.wordAt (ea + BitVec.ofNat 32 (4 * (q.toNat - rD.toNat))) else s.x q) ∧
    (∃ t, exec (.stmw rD rA d) s = .next t ∧
      StoreEnds s t ea ((List.range (32 - rD.toNat)).flatMap fun k => wordBytes (s.x (rD + BitVec.ofNat 5 k))))

/-- The string loads and stores move their byte count, four bytes a register, from r31 on to r0 (R397, R398, R399,
R400). -/
def Obligations.Strings : Prop :=
  ∀ (rD rA rB : Reg) (nb : BitVec 5) (s : State), s.msrSe = false →
    let base : Word := if rA = 0 then 0 else s.x rA
    let n := if nb = 0 then 32 else nb.toNat
    let k := (s.xer.extractLsb' 0 7).toNat
    let loaded (t : State) (ea : Word) (m : Nat) : Prop :=
      t = { s with gpr := t.gpr, pc := s.pc + 4 } ∧
      (∀ q : Reg, (m + 3) / 4 ≤ (q - rD).toNat → t.x q = s.x q) ∧
      (∀ j < (m + 3) / 4, ∀ b < 4, (t.x (rD + BitVec.ofNat 5 j)).extractLsb' (24 - 8 * b) 8 =
        if 4 * j + b < m then s.byte ea (4 * j + b) else 0)
    let outgoing (m : Nat) : List Byte :=
      (List.range m).map fun i => (s.x (rD + BitVec.ofNat 5 (i / 4))).extractLsb' (24 - 8 * (i % 4)) 8
    (s.plainLoad base n → (n + 3) / 4 ≤ (rA - rD).toNat →
      ∃ t, exec (.lswi rD rA nb) s = .next t ∧ loaded t base n) ∧
    (k ≠ 0 → s.plainLoad (base + s.x rB) k → (k + 3) / 4 ≤ (rA - rD).toNat → (k + 3) / 4 ≤ (rB - rD).toNat →
      ∃ t, exec (.lswx rD rA rB) s = .next t ∧ loaded t (base + s.x rB) k) ∧
    (k = 0 → ∃ v, exec (.lswx rD rA rB) s = .next (({ s with draws := s.draws + 1 } : State).setX rD v).ended) ∧
    (s.plainData base n → ∃ t, exec (.stswi rD rA nb) s = .next t ∧ StoreEnds s t base (outgoing n)) ∧
    (s.plainData (base + s.x rB) k →
      ∃ t, exec (.stswx rD rA rB) s = .next t ∧ StoreEnds s t (base + s.x rB) (outgoing k))

/-- lwarx reserves and stwcx. stores only with a reservation (R68, R743, R744). -/
def Obligations.Reservation : Prop :=
  ∀ (r rA rB : Reg) (s : State), s.msrSe = false →
    let ea : Word := (if rA = 0 then 0 else s.x rA) + s.x rB
    s.plainData ea 4 → ea.toNat % 4 = 0 →
    let granule : Word := ea &&& 0xFFFFFFE0
    let ends (s' t : State) (stored : Bool) : Prop :=
      ∃ u, (if stored then StoreEnds s' u ea (wordBytes (s.x r)) else u = s'.ended) ∧
        t.crf 0 = crBits false false stored s.so ∧ (∀ m, m ≠ 0 → t.crf m = s.crf m) ∧
        t = { u with cr := t.cr, reserve := false }
    (s.unmixed ea 4 0 → exec (.lwarx r rA rB) s =
      .next ({ (s.setX r (s.wordAt ea)) with reserve := true, reserveAddr := granule } : State).ended) ∧
    (s.reserve = false → ∃ t, exec (.stwcx_rc r rA rB) s = .next t ∧ ends s t false) ∧
    (s.reserve = true → s.reserveAddr = granule → ∃ t, exec (.stwcx_rc r rA rB) s = .next t ∧ ends s t true) ∧
    (s.reserve = true → s.reserveAddr ≠ granule → ∃ t, exec (.stwcx_rc r rA rB) s = .next t ∧
      ∃ stored, ends { s with draws := s.draws + 1 } t stored)

/-- External control without its enable raises DSI; with it, and dcbz_l with its unit on, it is refused (R746, R747,
R749, R778). Where it rests on the model's own reading or choice: log 38. -/
def Obligations.ExternalControl : Prop :=
  ∀ (r rA rB : Reg) (s : State),
    let ea : Word := (if rA = 0 then 0 else s.x rA) + s.x rB
    let dsi (cause : Word) : State := ({ s with dar := ea, dsisr := cause } : State).entered .dsi s.pc 0
    ((s.acting false .ear).getLsbD 31 = false → s.msrIle = false →
      exec (.eciwx r rA rB) s = .next (dsi 0x00100000) ∧ exec (.ecowx r rA rB) s = .next (dsi 0x02100000)) ∧
    ((s.acting false .ear).getLsbD 31 = true → ea.toNat % 4 ≠ 0 → s.msrIle = false → ∀ i ∈ [Instr.eciwx r rA rB, .ecowx r rA rB],
      ∃ t, exec i s = .next t ∧ AlignmentRaised s t i true false ea) ∧
    ((s.acting false .ear).getLsbD 31 = true → ea.toNat % 4 = 0 → s.msrDr = false → s.unwatched →
      exec (.eciwx r rA rB) s = .refused .externalControl ∧ exec (.ecowx r rA rB) s = .refused .externalControl) ∧
    (s.pse = true → s.lce = true → exec (.dcbz_l rA rB) s = .refused .lockedCacheZero)

/-- Scalar floating-point arithmetic completes and changes only its target, FPSCR and CR1; an enabled invalid operation or
zero divide leaves the target and FPRF (R47, R49, R423, R427, R429, R433, R470, R471, R479, R490, R491, R495). Where it
rests on the model's own reading or choice: log 23. -/
def Obligations.ScalarArithmetic : Prop :=
  (∀ (i : Instr) (s : State) (frD : FReg) (rc : Bool), scalarArithmetic i = some (frD, rc) → s.msrFp = true →
    s.msrFe = false → s.msrSe = false → niOf s.fpscr = false → (isSquareRoot i = true → s.params.hasFsqrt = true) →
    ∃ t, exec i s = .next t ∧ FpEnds s t frD rc ∧ t.fpscrComputed ∧
      s.fpscr &&& 0x9DF80700 &&& ~~~t.fpscr = 0 ∧
      ((∀ d b r, i ≠ .fres d b r ∧ i ≠ .frsqrte d b r) → s.fpscr &&& 0x9FF80700 &&& ~~~t.fpscr = 0) ∧
      ((writesLane0Only i = true ∨ s.pse = false) → t.f1 frD = s.f1 frD) ∧
      (writesLane0Only i = false → s.pse = true → singleRepresentable (t.f0 frD) = true →
        t.f1 frD = t.f0 frD ∨ (t.f0 frD = s.f0 frD ∧ t.f1 frD = s.f1 frD))) ∧
  (∀ (d a b c : FReg) (rc : Bool) (s : State), s.msrFp = true → s.msrFe = false → s.msrSe = false →
    niOf s.fpscr = false →
    let v := s.fpscr
    let A := s.f0 a
    let B := s.f0 b
    let C := s.f0 c
    let keeps (t : State) : Prop := t.f0 d = s.f0 d ∧ t.f1 d = s.f1 d
    let gives (i : Instr) (o : FpOut) : Prop := ∃ t, exec i s = .next t ∧ FpStatus v t.fpscr o o.raised ∧
      o.writes = !suppressedBy v o.raised ∧ if o.writes then t.f0 d = o.result else keeps t
    let singles : Prop := singleRepresentable A = true ∧ singleRepresentable B = true ∧ singleRepresentable C = true
    let fixes (i : Instr) (r : Lane) (raised : Word) : Prop := ∃ t, exec i s = .next t ∧
      t.fpscr &&& 0x1DF80700 = (v ||| raised) &&& 0x1DF80700 ∧ (raised = zxBit → t.fpscr.extractLsb' 17 2 = 0) ∧
      if suppressedBy v raised then keeps t ∧ t.fpscr.extractLsb' 12 5 = v.extractLsb' 12 5
      else t.f0 d = r ∧ t.fpscr.extractLsb' 12 5 = classOf double r
    gives (.fadd d a b rc) (fpAdd double v A B) ∧ gives (.fsub d a b rc) (fpSub double v A B) ∧
    gives (.fmul d a c rc) (fpMul double v A C) ∧ gives (.fdiv d a b rc) (fpDiv double v A B) ∧
    gives (.fmadd d a b c rc) (fpMulAdd double v false A C B) ∧ gives (.fmsub d a b c rc) (fpMulAdd double v true A C B) ∧
    gives (.fnmadd d a b c rc) (fpMulAdd double v false A C B).negated ∧
    gives (.fnmsub d a b c rc) (fpMulAdd double v true A C B).negated ∧
    gives (.frsp d b rc) (fpRoundSingle v B) ∧
    (s.params.hasFsqrt = true → gives (.fsqrt d b rc) (fpSqrt double v B)) ∧
    (singles → gives (.fadds d a b rc) (fpAdd single v A B) ∧ gives (.fsubs d a b rc) (fpSub single v A B) ∧
      gives (.fmuls d a c rc) (fpMul single v A C) ∧ gives (.fdivs d a b rc) (fpDiv single v A B) ∧
      gives (.fmadds d a b c rc) (fpMulAdd single v false A C B) ∧
      gives (.fmsubs d a b c rc) (fpMulAdd single v true A C B) ∧
      gives (.fnmadds d a b c rc) (fpMulAdd single v false A C B).negated ∧
      gives (.fnmsubs d a b c rc) (fpMulAdd single v true A C B).negated ∧
      (s.params.hasFsqrt = true → gives (.fsqrts d b rc) (fpSqrt single v B))) ∧
    (∀ neg, unpack B = .zero neg → fixes (.fres d b rc) (infinity neg) zxBit ∧ fixes (.frsqrte d b rc) (infinity neg) zxBit) ∧
    (∀ neg, unpack B = .inf neg → fixes (.fres d b rc) (layout neg 0 0) 0) ∧
    (unpack B = .inf false → fixes (.frsqrte d b rc) 0 0) ∧
    ((unpack B = .inf true ∨ ∃ m e, unpack B = .finite true m e) → fixes (.frsqrte d b rc) defaultNan vxsqrtBit) ∧
    (isNan B = true → singleRepresentable B = true →
      fixes (.fres d b rc) (quiet B) (if isSnan B then vxsnanBit else 0)) ∧
    (isNan B = true → fixes (.frsqrte d b rc) (quiet B) (if isSnan B then vxsnanBit else 0)))

/-- The floating-point moves and fsel complete without touching FPSCR or lane 1 (R437, R487, R488, R489, R492, R500).
-/
def Obligations.FpMoves : Prop :=
  ∀ (frD frA frB frC : FReg) (rc : Bool) (s : State), s.msrFp = true → s.msrSe = false →
    let a := s.f0 frA
    let b := s.f0 frB
    let old := s.f1 frD
    (∃ t, exec (.fmr frD frB rc) s = .next t ∧ FpMoveEnds s t frD rc b old) ∧
    (∃ t, exec (.fneg frD frB rc) s = .next t ∧ FpMoveEnds s t frD rc (b ^^^ 0x8000000000000000) old) ∧
    (∃ t, exec (.fabs frD frB rc) s = .next t ∧ FpMoveEnds s t frD rc (b &&& 0x7FFFFFFFFFFFFFFF) old) ∧
    (∃ t, exec (.fnabs frD frB rc) s = .next t ∧ FpMoveEnds s t frD rc (b ||| 0x8000000000000000) old) ∧
    (∃ t, exec (.fsel frD frA frB frC rc) s = .next t ∧ FpMoveEnds s t frD rc
      (if isNan a = false ∧ (a.getLsbD 63 = false ∨ a &&& 0x7FFFFFFFFFFFFFFF = 0) then s.f0 frC else b) old)

/-- The floating-point and paired compares complete with FL, FG, FE or FU in the field and FPCC (R433, R498, R499,
R660, R705, R706, R707, R708). Where it rests on the model's own reading or choice: log 26. -/
def Obligations.FpCompares : Prop :=
  ∀ (f : CrField) (frA frB : FReg) (s : State), s.msrFp = true → s.msrFe = false → s.msrSe = false →
    let ends (t : State) (n : Nat) (a b : Lane) (ordered : Bool) : Prop :=
      let snan := isSnan a || isSnan b
      let raised : Word := (if snan then 0x01000000 else 0) |||
        (if ordered && (isNan a || isNan b) && !(snan && s.fpscr.getLsbD 7) then 0x00080000 else 0)
      t = { s with cr := t.cr, fpscr := t.fpscr, draws := s.draws + n, pc := s.pc + 4 } ∧ t.crf f = laneOrder a b ∧
      (∀ m, m ≠ f → t.crf m = s.crf m) ∧ t.fpscr.extractLsb' 12 4 = laneOrder a b ∧
      t.fpscr &&& 0x000700FF = s.fpscr &&& 0x000700FF ∧ t.fpscrComputed ∧
      t.fpscr &&& 0x1FF80700 = (s.fpscr ||| raised) &&& 0x1FF80700 ∧
      t.fpscr.getLsbD 31 = (s.fpscr.getLsbD 31 || decide (raised &&& ~~~s.fpscr ≠ 0))
    let reads (v a : Lane) : Prop := singleRepresentable v = true → a = v
    (∃ t, exec (.fcmpu f frA frB) s = .next t ∧ ends t 0 (s.f0 frA) (s.f0 frB) false) ∧
    (∃ t, exec (.fcmpo f frA frB) s = .next t ∧ ends t 0 (s.f0 frA) (s.f0 frB) true) ∧
    (s.pse = true → ∃ t, exec (.ps_cmpu0 f frA frB) s = .next t ∧
      ∃ a b, reads (s.f0 frA) a ∧ reads (s.f0 frB) b ∧ ends t 2 a b false) ∧
    (s.pse = true → ∃ t, exec (.ps_cmpo0 f frA frB) s = .next t ∧
      ∃ a b, reads (s.f0 frA) a ∧ reads (s.f0 frB) b ∧ ends t 2 a b true) ∧
    (s.pse = true → ∃ t, exec (.ps_cmpu1 f frA frB) s = .next t ∧ ends t 0 (s.f1 frA) (s.f1 frB) false) ∧
    (s.pse = true → ∃ t, exec (.ps_cmpo1 f frA frB) s = .next t ∧ ends t 0 (s.f1 frA) (s.f1 frB) true)

/-- The floating-point loads complete; a single is converted exactly and enters both lanes with PSE (R47, R510, R511,
R512, R515, R516, R530, R531). -/
def Obligations.FpLoads : Prop :=
  (∀ (frD : FReg) (rA rB : Reg) (d : BitVec 16) (s : State), s.msrFp = true → s.msrSe = false →
    let base : Word := if rA = 0 then 0 else s.x rA
    let eaD := base + d.signExtend 32
    let eaX := base + s.x rB
    let upD := s.x rA + d.signExtend 32
    let upX := s.x rA + s.x rB
    let single (w : Word) : State :=
      if s.pse then (s.setF0 frD (doubleFromSingle w)).setF1 frD (doubleFromSingle w)
      else s.setF0 frD (doubleFromSingle w)
    (eaD.toNat % 4 = 0 → s.plainLoad eaD 8 → exec (.lfd frD rA d) s = .next (s.setF0 frD (s.doubleAt eaD)).ended) ∧
    (eaX.toNat % 4 = 0 → s.plainLoad eaX 8 → exec (.lfdx frD rA rB) s = .next (s.setF0 frD (s.doubleAt eaX)).ended) ∧
    (rA ≠ 0 → upD.toNat % 4 = 0 → s.plainLoad upD 8 →
      exec (.lfdu frD rA d) s = .next ((s.setF0 frD (s.doubleAt upD)).setX rA upD).ended) ∧
    (rA ≠ 0 → upX.toNat % 4 = 0 → s.plainLoad upX 8 →
      exec (.lfdux frD rA rB) s = .next ((s.setF0 frD (s.doubleAt upX)).setX rA upX).ended) ∧
    (eaD.toNat % 4 = 0 → s.plainLoad eaD 4 → exec (.lfs frD rA d) s = .next (single (s.wordAt eaD)).ended) ∧
    (eaX.toNat % 4 = 0 → s.plainLoad eaX 4 → exec (.lfsx frD rA rB) s = .next (single (s.wordAt eaX)).ended) ∧
    (rA ≠ 0 → upD.toNat % 4 = 0 → s.plainLoad upD 4 →
      exec (.lfsu frD rA d) s = .next ((single (s.wordAt upD)).setX rA upD).ended) ∧
    (rA ≠ 0 → upX.toNat % 4 = 0 → s.plainLoad upX 4 →
      exec (.lfsux frD rA rB) s = .next ((single (s.wordAt upX)).setX rA upX).ended)) ∧
  (∀ w : Word, w.extractLsb' 23 8 ≠ 255 → laneValue (doubleFromSingle w) = singleValue w) ∧
  (∀ w : Word, singleFromDouble (doubleFromSingle w) = some w)

/-- The floating-point stores complete with the lane's bytes, big-endian, and no other byte changed (R510, R519, R520,
R523, R524, R527, R531). -/
def Obligations.FpStores : Prop :=
  ∀ (frS : FReg) (rA rB : Reg) (d : BitVec 16) (s : State), s.msrFp = true → s.msrSe = false →
    let base : Word := if rA = 0 then 0 else s.x rA
    let eaD := base + d.signExtend 32
    let eaX := base + s.x rB
    let upD := s.x rA + d.signExtend 32
    let upX := s.x rA + s.x rB
    let v := s.f0 frS
    let single (ea : Word) (t : State) : Prop := ∃ w n, StoreEnds { s with draws := s.draws + n } t ea (wordBytes w) ∧
      ∀ w', singleFromDouble v = some w' → w = w' ∧ n = 0
    (eaD.toNat % 4 = 0 → s.plainData eaD 8 → ∃ t, exec (.stfd frS rA d) s = .next t ∧ StoreEnds s t eaD (doubleBytes v)) ∧
    (eaX.toNat % 4 = 0 → s.plainData eaX 8 →
      ∃ t, exec (.stfdx frS rA rB) s = .next t ∧ StoreEnds s t eaX (doubleBytes v)) ∧
    (rA ≠ 0 → upD.toNat % 4 = 0 → s.plainData upD 8 →
      ∃ t, exec (.stfdu frS rA d) s = .next (t.setX rA upD) ∧ StoreEnds s t upD (doubleBytes v)) ∧
    (rA ≠ 0 → upX.toNat % 4 = 0 → s.plainData upX 8 →
      ∃ t, exec (.stfdux frS rA rB) s = .next (t.setX rA upX) ∧ StoreEnds s t upX (doubleBytes v)) ∧
    (eaX.toNat % 4 = 0 → s.plainData eaX 4 →
      ∃ t, exec (.stfiwx frS rA rB) s = .next t ∧ StoreEnds s t eaX (wordBytes (v.setWidth 32))) ∧
    (eaD.toNat % 4 = 0 → s.plainData eaD 4 → ∃ t, exec (.stfs frS rA d) s = .next t ∧ single eaD t) ∧
    (eaX.toNat % 4 = 0 → s.plainData eaX 4 → ∃ t, exec (.stfsx frS rA rB) s = .next t ∧ single eaX t) ∧
    (rA ≠ 0 → upD.toNat % 4 = 0 → s.plainData upD 4 →
      ∃ t, exec (.stfsu frS rA d) s = .next (t.setX rA upD) ∧ single upD t) ∧
    (rA ≠ 0 → upX.toNat % 4 = 0 → s.plainData upX 4 →
      ∃ t, exec (.stfsux frS rA rB) s = .next (t.setX rA upX) ∧ single upX t)

/-- NaN operands, invalid operations, zero divides and infinite operands give the results of R427, R428, R429 and R435
(R421, R423, R427, R428, R429, R435, R483, R493, R495). -/
def Obligations.InvalidOperations : Prop :=
  ∀ (p : Precision) (v : Word) (a b c : Lane),
    let unrounded (o : FpOut) : Prop := o.fr = false ∧ o.fi = false ∧ o.frOpen = false
    let nan (vs : List Lane) (own : Word) (image : Lane → Lane) (o : FpOut) : Prop :=
      let raised : Word := (if vs.any isSnan then vxsnanBit else 0) ||| own
      ∀ n, vs.find? isNan = some n → unrounded o ∧ o.raised = raised ∧ o.writes = (decide (raised = 0) || !veOf v) ∧
        (o.writes = true → o.result = image n ∧ o.fprf = classNan)
    let invalid (bit : Word) (o : FpOut) : Prop := unrounded o ∧
      o.raised = bit ∧ o.writes = !veOf v ∧ (veOf v = false → o.result = defaultNan ∧ o.fprf = classNan)
    let infinite (neg : Bool) (o : FpOut) : Prop := o = .exact 0 (infinity neg) (classInf neg)
    let nonzero (x : Lane) (neg : Bool) : Prop := unpack x = .inf neg ∨ ∃ m e, unpack x = .finite neg m e
    let imz : Word := if (unpack a = .zero false ∨ unpack a = .zero true) ∧ (unpack c = .inf false ∨ unpack c = .inf true) ∨
      (unpack a = .inf false ∨ unpack a = .inf true) ∧ (unpack c = .zero false ∨ unpack c = .zero true) then vximzBit else 0
    nan [a, b] 0 quiet (fpAdd p v a b) ∧ nan [a, b] 0 quiet (fpSub p v a b) ∧ nan [a, c] 0 quiet (fpMul p v a c) ∧
    nan [a, b] 0 quiet (fpDiv p v a b) ∧ nan [a] 0 quiet (fpSqrt p v a) ∧
    (∀ sub, nan [a, b, c] imz quiet (fpMulAdd p v sub a c b)) ∧
    nan [a] 0 (fun n => quiet n &&& 0xFFFFFFFFE0000000) (fpRoundSingle v a) ∧
    (∀ x y : Bool, unpack a = .inf x → unpack b = .inf y →
      (x ≠ y → invalid vxisiBit (fpAdd p v a b) ∧ infinite x (fpSub p v a b)) ∧
      (x = y → invalid vxisiBit (fpSub p v a b) ∧ infinite x (fpAdd p v a b)) ∧ invalid vxidiBit (fpDiv p v a b)) ∧
    (∀ x : Bool, unpack a = .inf x → isFinite b = true → let q := x ^^ b.getLsbD 63
      infinite x (fpAdd p v a b) ∧ infinite x (fpAdd p v b a) ∧ infinite x (fpSub p v a b) ∧ infinite (!x) (fpSub p v b a) ∧
      infinite q (fpDiv p v a b) ∧ fpDiv p v b a = .exact 0 (layout q 0 0) (classZero q)) ∧
    (∀ x y : Bool, unpack a = .inf x → nonzero c y → infinite (x ^^ y) (fpMul p v a c) ∧ infinite (x ^^ y) (fpMul p v c a) ∧
      ∀ sub, (isFinite b = true → infinite (x ^^ y) (fpMulAdd p v sub a c b) ∧ infinite (x ^^ y) (fpMulAdd p v sub c a b)) ∧
        ∀ z, unpack b = .inf z →
          ((x ^^ y) ≠ (z ^^ sub) → invalid vxisiBit (fpMulAdd p v sub a c b) ∧ invalid vxisiBit (fpMulAdd p v sub c a b)) ∧
          ((x ^^ y) = (z ^^ sub) → infinite (x ^^ y) (fpMulAdd p v sub a c b) ∧ infinite (x ^^ y) (fpMulAdd p v sub c a b))) ∧
    (∀ z sub : Bool, isFinite a = true → isFinite c = true → unpack b = .inf z →
      infinite (z ^^ sub) (fpMulAdd p v sub a c b)) ∧
    (unpack a = .inf false → infinite false (fpSqrt p v a)) ∧ (∀ x, unpack a = .inf x → infinite x (fpRoundSingle v a)) ∧
    (∀ x y : Bool, unpack a = .zero x → unpack c = .inf y → invalid vximzBit (fpMul p v a c) ∧
      invalid vximzBit (fpMul p v c a) ∧ (isNan b = false → ∀ sub,
        invalid vximzBit (fpMulAdd p v sub a c b) ∧ invalid vximzBit (fpMulAdd p v sub c a b))) ∧
    (∀ x y : Bool, unpack a = .zero x → unpack b = .zero y → invalid vxzdzBit (fpDiv p v a b)) ∧
    (∀ (x y : Bool) (m : Nat) (e : Int), unpack a = .finite x m e → unpack b = .zero y →
      let o := fpDiv p v a b
      unrounded o ∧ o.raised = zxBit ∧ o.writes = !zeOf v ∧
      (zeOf v = false → o.result = infinity (x ^^ y) ∧ o.fprf = classInf (x ^^ y))) ∧
    ((unpack a = .inf true ∨ ∃ m e, unpack a = .finite true m e) → invalid vxsqrtBit (fpSqrt p v a)) ∧
    (∀ x, unpack a = .zero x → fpSqrt p v a = .exact 0 a (classZero x)) ∧
    (∀ o : FpOut, o.negated = { o with result := o.negated.result, fprf := o.negated.fprf } ∧
      o.negated.result = (if isNan o.result then o.result else o.result ^^^ 0x8000000000000000) ∧
      (o.fprf = classOf p o.result → o.negated.fprf = classOf p o.negated.result))

/-- Every operation rounds its exact result correctly, in both precisions and every rounding mode, and FPRF is the
result's class (R422, R423, R426, R427, R430, R431, R432, R493, R495). The scaled result of an enabled underflow is a
normalized number (R431). Where it rests on the model's own reading or choice: log 47. -/
def Obligations.CorrectRounding : Prop :=
  ∀ (p : Precision) (v : Word) (a b c : Lane), p = single ∨ p = double →
    isFinite a = true → isFinite b = true → isFinite c = true →
    let A := laneValue a
    let B := laneValue b
    let C := laneValue c
    let number (r : Lane) : Prop := isFinite r = true ∧ (p = single → singleRepresentable r = true)
    let even (r : Lane) : Bool :=
      if p = single then (singleFromDouble r).all (fun w => !w.getLsbD 0) else !r.getLsbD 0
    let xx (o : FpOut) : Word := if o.fi then xxBit else 0
    let largest : ℚ := (2 - 2 ^ (1 - (p.bits : Int))) * 2 ^ p.emax
    let rounds (z : ℚ) (o : FpOut) : Prop := z ≠ 0 →
      let r := laneValue o.result
      let neg : Bool := decide (z < 0)
      let tiny : Prop := |z| < 2 ^ p.emin
      let overflows : Prop := 2 ^ (p.emax + 1) ≤ |z| ∨ (largest < |z| ∧
        ((rnOf v = 0 ∧ 2 ^ (p.emax + 1) - 2 ^ (p.emax - p.bits) ≤ |z|) ∨ (rnOf v = 2 ∧ 0 < z) ∨ (rnOf v = 3 ∧ z < 0)))
      let scaled (k : Int) (bit : Word) : Prop := o.raised = bit ||| xx o ∧ o.fi = decide (r * 2 ^ k ≠ z) ∧
        o.fr = decide (|z| < |r * 2 ^ k|) ∧ |r * 2 ^ k - z| < |z| * 2 ^ (1 - (p.bits : Int))
      (o.writes = true ∧ o.result.getLsbD 63 = neg ∧
        o.fprf = if tiny ∧ ueOf v = true then classNormal neg else classOf p o.result) ∧
      (¬overflows → largest < |z| → |r| = largest ∧ o.raised = xxBit) ∧
      (¬overflows → ¬(tiny ∧ ueOf v = true) → number o.result ∧
        o.raised = (if tiny ∧ o.fi = true then uxBit else 0) ||| xx o ∧
        o.fi = decide (r ≠ z) ∧ o.fr = decide (|z| < |r|) ∧
        (rnOf v = 0 → ∀ q, number q → |r - z| ≤ |laneValue q - z| ∧
          (|r - z| = |laneValue q - z| → laneValue q ≠ r → even o.result = true)) ∧
        (rnOf v = 1 → |r| ≤ |z| ∧ ∀ q, number q → |laneValue q| ≤ |z| → |laneValue q| ≤ |r|) ∧
        (rnOf v = 2 → z ≤ r ∧ ∀ q, number q → z ≤ laneValue q → r ≤ laneValue q) ∧
        (rnOf v = 3 → r ≤ z ∧ ∀ q, number q → laneValue q ≤ z → laneValue q ≤ r)) ∧
      (overflows → oeOf v = false → o.raised = oxBit ||| xxBit ∧ o.fi = true ∧
        if rnOf v = 0 ∨ (rnOf v = 2 ∧ 0 < z) ∨ (rnOf v = 3 ∧ z < 0) then o.result = infinity neg
        else |r| = largest) ∧
      (overflows → oeOf v = true → scaled p.wrap oxBit) ∧ (tiny → ueOf v = true → scaled (-p.wrap) uxBit)
    let zero (neg : Bool) (o : FpOut) : Prop := o = .exact 0 (layout neg 0 0) (classZero neg)
    let sign (x : Lane) : Bool := x.getLsbD 63
    let sumSign (x y : Bool) : Bool := if x = y then x else decide (rnOf v = 3)
    (p = single → rounds A (fpRoundSingle v a) ∧ (A = 0 → zero (sign a) (fpRoundSingle v a))) ∧
    ((p = single → singleRepresentable a = true ∧ singleRepresentable b = true ∧ singleRepresentable c = true) →
      rounds (A + B) (fpAdd p v a b) ∧ rounds (A - B) (fpSub p v a b) ∧ rounds (A * C) (fpMul p v a c) ∧
      rounds (A * C + B) (fpMulAdd p v false a c b) ∧ rounds (A * C - B) (fpMulAdd p v true a c b) ∧
      (B ≠ 0 → rounds (A / B) (fpDiv p v a b)) ∧
      (A + B = 0 → zero (sumSign (sign a) (sign b)) (fpAdd p v a b)) ∧
      (A - B = 0 → zero (sumSign (sign a) !sign b) (fpSub p v a b)) ∧
      (A * C = 0 → zero (sign a ^^ sign c) (fpMul p v a c)) ∧
      (A * C + B = 0 → zero (sumSign (sign a ^^ sign c) (sign b)) (fpMulAdd p v false a c b)) ∧
      (A * C - B = 0 → zero (sumSign (sign a ^^ sign c) !sign b) (fpMulAdd p v true a c b)) ∧
      (A = 0 → B ≠ 0 → zero (sign a ^^ sign b) (fpDiv p v a b)) ∧
      (0 < A →
        let o := fpSqrt p v a
        let r := laneValue o.result
        o.writes = true ∧ number o.result ∧ o.fprf = classOf p o.result ∧ 0 < r ∧ o.raised = xx o ∧ o.fi = decide (r ^ 2 ≠ A) ∧
        o.fr = decide (A < r ^ 2) ∧
        (rnOf v = 0 → ∀ q, number q → 0 < laneValue q →
          (r < laneValue q → 4 * A ≤ (r + laneValue q) ^ 2) ∧ (laneValue q < r → (r + laneValue q) ^ 2 ≤ 4 * A) ∧
          (4 * A = (r + laneValue q) ^ 2 → laneValue q ≠ r → even o.result = true)) ∧
        (rnOf v = 1 ∨ rnOf v = 3 → r ^ 2 ≤ A ∧ ∀ q, number q → (laneValue q) ^ 2 ≤ A → laneValue q ≤ r) ∧
        (rnOf v = 2 → A ≤ r ^ 2 ∧ ∀ q, number q → 0 < laneValue q → A ≤ (laneValue q) ^ 2 → r ≤ laneValue q)))

/-- fctiw and fctiwz complete with the rounded integer in the low word, or the nearest limit, which VE = 1 keeps from
being written, and raise no other exception bit than VXSNAN, VXCVI and XX, whatever NI is (R426, R433, R437, R496, R497).
That they complete with NI = 1 is the model's choice: log 9. -/
def Obligations.FpConversions : Prop :=
  ∀ (frD frB : FReg) (rc : Bool) (s : State), s.msrFp = true → s.msrFe = false → s.msrSe = false →
    let b := s.f0 frB
    let z := laneValue b
    let low (t : State) : Word := (t.f0 frD).setWidth 32
    let raises (t : State) (bits : Word) : Prop := FpRaised s.fpscr t.fpscr bits
    let limit (t : State) (w bits : Word) : Prop := (if veOf s.fpscr then t.f0 frD = s.f0 frD else low t = w) ∧
      t.fpscr.getLsbD 17 = false ∧ t.fpscr.getLsbD 18 = false ∧ raises t (0x00000100 ||| bits)
    let converted (t : State) (rn : BitVec 2) : Prop :=
      (isFinite b = true → ∃ n, RoundsTo rn z n ∧
        (-2 ^ 31 ≤ n → n < 2 ^ 31 → low t = BitVec.ofInt 32 n ∧
          t.fpscr.getLsbD 17 = decide ((n : ℚ) ≠ z) ∧ t.fpscr.getLsbD 18 = decide (|z| < |(n : ℚ)|) ∧
          raises t (if (n : ℚ) ≠ z then 0x02000000 else 0)) ∧
        (2 ^ 31 ≤ n → limit t 0x7FFFFFFF 0) ∧ (n < -2 ^ 31 → limit t 0x80000000 0)) ∧
      (∀ neg, unpack b = .inf neg → limit t (if neg then 0x80000000 else 0x7FFFFFFF) 0) ∧
      (isNan b = true → limit t 0x80000000 (if isSnan b then 0x01000000 else 0))
    let ends (t : State) (rn : BitVec 2) : Prop := FpEnds s t frD rc ∧ t.f1 frD = s.f1 frD ∧
      t.fpscr &&& 0x1CF80600 = s.fpscr &&& 0x1CF80600 ∧ s.fpscr &&& 0x9FF80700 &&& ~~~t.fpscr = 0 ∧
      (niOf s.fpscr = false → converted t rn)
    (∃ t, exec (.fctiwz frD frB rc) s = .next t ∧ ends t 1) ∧
    (∃ t, exec (.fctiw frD frB rc) s = .next t ∧ ends t (rnOf s.fpscr))

/-- Paired-single arithmetic completes, lane by lane, and changes only its target, FPSCR and CR1; an enabled invalid
operation or zero divide in one lane leaves both lanes (R660, R661, R662, R663, R680, R687, R688, R694, R695, R697, R698,
R699). Where it rests on the model's own reading or choice: log 23, 25. -/
def Obligations.PairedArithmetic : Prop :=
  (∀ (i : Instr) (s : State) (frD : FReg) (rc : Bool), pairedArithmetic i = some (frD, rc) → s.pse = true →
    s.msrFp = true → s.msrFe = false → s.msrSe = false → niOf s.fpscr = false →
    ∃ t, exec i s = .next t ∧ FpEnds s t frD rc ∧ t.fpscrComputed ∧ s.fpscr &&& 0x9DF80700 &&& ~~~t.fpscr = 0) ∧
  (∀ (d a b c : FReg) (rc : Bool) (s : State), s.pse = true → s.msrFp = true → s.msrFe = false → s.msrSe = false →
    niOf s.fpscr = false →
    singleRepresentable (s.f0 a) = true → singleRepresentable (s.f0 b) = true → singleRepresentable (s.f0 c) = true →
    let v := s.fpscr
    let A0 := s.f0 a
    let A1 := s.f1 a
    let B0 := s.f0 b
    let B1 := s.f1 b
    let C0 := s.f0 c
    let C1 := s.f1 c
    let pair (t : State) (written : Bool) (r0 r1 : Lane) : Prop :=
      if written then t.f0 d = r0 ∧ t.f1 d = r1 else t.f0 d = s.f0 d ∧ t.f1 d = s.f1 d
    let gives (i : Instr) (o0 o1 : FpOut) : Prop := ∃ t, exec i s = .next t ∧
      pair t (o0.writes && o1.writes) o0.result o1.result ∧ (o0.writes && o1.writes) = !suppressedBy v (o0.raised ||| o1.raised) ∧
      FpStatus v t.fpscr o0 (o0.raised ||| o1.raised)
    let madd (x y z : Lane) := fpMulAdd single v false x y z
    let msub (x y z : Lane) := fpMulAdd single v true x y z
    let sum := fpAdd single v A0 B1
    let sums (i : Instr) (r0 r1 : Lane) : Prop := ∃ t, exec i s = .next t ∧ pair t sum.writes r0 r1 ∧
      sum.writes = !suppressedBy v sum.raised ∧ FpStatus v t.fpscr sum sum.raised
    gives (.ps_add d a b rc) (fpAdd single v A0 B0) (fpAdd single v A1 B1) ∧
    gives (.ps_sub d a b rc) (fpSub single v A0 B0) (fpSub single v A1 B1) ∧
    gives (.ps_div d a b rc) (fpDiv single v A0 B0) (fpDiv single v A1 B1) ∧
    gives (.ps_mul d a c rc) (fpMul single v A0 C0) (fpMul single v A1 C1) ∧
    gives (.ps_muls0 d a c rc) (fpMul single v A0 C0) (fpMul single v A1 C0) ∧
    gives (.ps_muls1 d a c rc) (fpMul single v A0 C1) (fpMul single v A1 C1) ∧
    gives (.ps_madd d a b c rc) (madd A0 C0 B0) (madd A1 C1 B1) ∧
    gives (.ps_madds0 d a b c rc) (madd A0 C0 B0) (madd A1 C0 B1) ∧
    gives (.ps_madds1 d a b c rc) (madd A0 C1 B0) (madd A1 C1 B1) ∧
    gives (.ps_msub d a b c rc) (msub A0 C0 B0) (msub A1 C1 B1) ∧
    gives (.ps_nmadd d a b c rc) (madd A0 C0 B0).negated (madd A1 C1 B1).negated ∧
    gives (.ps_nmsub d a b c rc) (msub A0 C0 B0).negated (msub A1 C1 B1).negated ∧
    sums (.ps_sum0 d a b c rc) sum.result C1 ∧ sums (.ps_sum1 d a b c rc) C0 sum.result ∧
    ∀ root : Bool, ∃ t, exec (if root then .ps_rsqrte d b rc else .ps_res d b rc) s = .next t ∧
      let stops (x : Lane) : Bool := (estimateSpecial root x).any fun e => suppressedBy v e.2
      (stops B0 = true ∨ stops B1 = true → t.f0 d = s.f0 d ∧ t.f1 d = s.f1 d) ∧
      (stops B0 = true → t.fpscr.extractLsb' 12 5 = v.extractLsb' 12 5) ∧
      (stops B0 = false → ∀ e, estimateSpecial root B0 = some e → t.fpscr.extractLsb' 12 5 = classOf single e.1) ∧
      (stops B0 = false → stops B1 = false → (∀ e, estimateSpecial root B0 = some e → t.f0 d = e.1) ∧
        ∀ e, estimateSpecial root B1 = some e → t.f1 d = e.1) ∧
      ∀ e0 e1, estimateSpecial root B0 = some e0 → estimateSpecial root B1 = some e1 →
        t.fpscr &&& 0x1DF80700 = (v ||| e0.2 ||| e1.2) &&& 0x1DF80700 ∧
        (e0.2 = zxBit → e1.2 = zxBit → t.fpscr.extractLsb' 17 2 = 0))

/-- The paired moves, merges and select complete without touching FPSCR (R684, R685, R686, R693, R696, R701, R702,
R703, R704). -/
def Obligations.PairedMoves : Prop :=
  ∀ (d a b c : FReg) (rc : Bool) (s : State), s.pse = true → s.msrFp = true → s.msrSe = false →
    singleRepresentable (s.f0 a) = true → singleRepresentable (s.f0 b) = true → singleRepresentable (s.f0 c) = true →
    let A0 := s.f0 a
    let A1 := s.f1 a
    let B0 := s.f0 b
    let B1 := s.f1 b
    let sel (x y z : Lane) : Lane :=
      if isNan x = false ∧ (x.getLsbD 63 = false ∨ x &&& 0x7FFFFFFFFFFFFFFF = 0) then y else z
    let gives (i : Instr) (r0 r1 : Lane) : Prop := ∃ t, exec i s = .next t ∧ FpMoveEnds s t d rc r0 r1
    gives (.ps_mr d b rc) B0 B1 ∧
    gives (.ps_neg d b rc) (B0 ^^^ 0x8000000000000000) (B1 ^^^ 0x8000000000000000) ∧
    gives (.ps_abs d b rc) (B0 &&& 0x7FFFFFFFFFFFFFFF) (B1 &&& 0x7FFFFFFFFFFFFFFF) ∧
    gives (.ps_nabs d b rc) (B0 ||| 0x8000000000000000) (B1 ||| 0x8000000000000000) ∧
    gives (.ps_merge00 d a b rc) A0 B0 ∧ gives (.ps_merge01 d a b rc) A0 B1 ∧
    gives (.ps_merge10 d a b rc) A1 B0 ∧ gives (.ps_merge11 d a b rc) A1 B1 ∧
    gives (.ps_sel d a b c rc) (sel A0 (s.f0 c) B0) (sel A1 (s.f1 c) B1)

/-- The quantized loads complete: each value is the integer times 2 to the minus the scale (R62, R664, R666, R670,
R671, R672, R673). -/
def Obligations.QuantizedLoads : Prop :=
  (∀ (frD : FReg) (rA rB : Reg) (one : Bool) (q : BitVec 3) (d : BitVec 12) (ty : QuantType) (s : State),
    s.pse = true → s.lsqe = true → s.msrFp = true → s.msrSe = false →
    quantType ((s.gqr.get q.toFin).extractLsb' 16 3) = some ty →
    let n := ty.size
    let base : Word := if rA = 0 then 0 else s.x rA
    let eaD := base + d.signExtend 32
    let eaX := base + s.x rB
    let upD := s.x rA + d.signExtend 32
    let upX := s.x rA + s.x rB
    let ok (ea : Word) : Prop := ea.toNat % n = 0 ∧ s.plainLoad ea (if one then n else 2 * n)
    let value (ea : Word) : Lane := dequant ty ((s.gqr.get q.toFin).extractLsb' 24 6) (s.rawValue ea n)
    let loaded (ea : Word) : State :=
      (s.setF0 frD (value ea)).setF1 frD (if one then 0x3FF0000000000000 else value (ea + BitVec.ofNat 32 n))
    (ok eaD → exec (.psq_l frD rA one q d) s = .next (loaded eaD).ended) ∧
    (ok eaX → exec (.psq_lx frD rA rB one q) s = .next (loaded eaX).ended) ∧
    (rA ≠ 0 → ok upD → exec (.psq_lu frD rA one q d) s = .next ((loaded upD).setX rA upD).ended) ∧
    (rA ≠ 0 → ok upX → exec (.psq_lux frD rA rB one q) s = .next ((loaded upX).setX rA upX).ended)) ∧
  (∀ (sc : BitVec 6) (raw : BitVec 64),
    laneValue (dequant .u8 sc raw) = ((raw.extractLsb' 0 8).toNat : ℚ) * 2 ^ (-sc.toInt) ∧
    laneValue (dequant .u16 sc raw) = ((raw.extractLsb' 0 16).toNat : ℚ) * 2 ^ (-sc.toInt) ∧
    laneValue (dequant .s8 sc raw) = ((raw.extractLsb' 0 8).toInt : ℚ) * 2 ^ (-sc.toInt) ∧
    laneValue (dequant .s16 sc raw) = ((raw.extractLsb' 0 16).toInt : ℚ) * 2 ^ (-sc.toInt) ∧
    dequant .float sc raw = doubleFromSingle (raw.setWidth 32)) ∧
  (∀ c : BitVec 3, quantType c =
    if c = 0 then some .float else if c = 4 then some .u8 else if c = 5 then some .u16 else if c = 6 then some .s8
    else if c = 7 then some .s16 else none)

/-- The quantized stores complete: each value is scaled, made an integer and saturated to the type (R62, R665, R666,
R674, R675, R676, R677). Where it rests on the model's own reading or choice: log 2, 48. -/
def Obligations.QuantizedStores : Prop :=
  (∀ (frS : FReg) (rA rB : Reg) (one : Bool) (q : BitVec 3) (d : BitVec 12) (ty : QuantType) (s : State),
    s.pse = true → s.lsqe = true → s.msrFp = true → s.msrSe = false →
    quantType ((s.gqr.get q.toFin).extractLsb' 0 3) = some ty →
    let n := ty.size
    let base : Word := if rA = 0 then 0 else s.x rA
    let eaD := base + d.signExtend 32
    let eaX := base + s.x rB
    let upD := s.x rA + d.signExtend 32
    let upX := s.x rA + s.x rB
    let ok (ea : Word) : Prop := ea.toNat % n = 0 ∧ s.plainData ea (if one then n else 2 * n)
    let image (v : Lane) (draw : BitVec 64) : List Byte :=
      beBytes n (quant s.params.quantRound ty ((s.gqr.get q.toFin).extractLsb' 8 6) v draw)
    let stored (ea : Word) (t : State) : Prop := ∃ x y, StoreEnds { s with draws := s.draws + 2 } t ea
      (image (s.f0 frS) x ++ (if one then [] else image (s.f1 frS) y))
    (ok eaD → ∃ t, exec (.psq_st frS rA one q d) s = .next t ∧ stored eaD t) ∧
    (ok eaX → ∃ t, exec (.psq_stx frS rA rB one q) s = .next t ∧ stored eaX t) ∧
    (rA ≠ 0 → ok upD → ∃ t, exec (.psq_stu frS rA one q d) s = .next (t.setX rA upD) ∧ stored upD t) ∧
    (rA ≠ 0 → ok upX → ∃ t, exec (.psq_stux frS rA rB one q) s = .next (t.setX rA upX) ∧ stored upX t)) ∧
  (∀ (qr : QuantRound) (ty : QuantType) (sc : BitVec 6) (v : Lane) (x : BitVec 64),
    (ty = .float → ∀ w, singleFromDouble v = some w → (quant qr ty sc v x).setWidth 32 = w) ∧
    (ty ≠ .float → qr = .towardZero → isFinite v = true → quant qr ty sc v x =
      BitVec.ofInt 64 (max ty.range.1 (min ty.range.2 (truncated (laneValue v * 2 ^ sc.toInt))))) ∧
    (ty ≠ .float → ∀ neg, unpack v = .inf neg →
      quant qr ty sc v x = BitVec.ofInt 64 (if neg then ty.range.1 else ty.range.2))) ∧
  QuantType.u8.range = (0, 255) ∧ QuantType.u16.range = (0, 65535) ∧ QuantType.s8.range = (-128, 127) ∧
  QuantType.s16.range = (-32768, 32767)

/-- The cache instructions complete; dcbz zeroes its block; the sequence of R140 makes stores visible (R140, R144,
R551, R552, R553, R554, R555, R556, R557, R860). Where it rests on the model's own reading or choice: log 10. -/
def Obligations.CacheBlocks : Prop :=
  ∀ (rA rB : Reg) (s : State), s.msrDr = false → s.msrSe = false →
    let ea : Word := (if rA = 0 then 0 else s.x rA) + s.x rB
    let block : Word := ea &&& 0xFFFFFFE0
    let words : List Nat := (List.range 8).map fun k => block.toNat / 4 + k
    (∃ t, exec (.dcbf rA rB) s = .next t ∧ t = { s with stale := t.stale, dirty := t.dirty, pc := s.pc + 4 }) ∧
    (∃ t, exec (.dcbst rA rB) s = .next t ∧ t = { s with stale := t.stale, dirty := t.dirty, pc := s.pc + 4 }) ∧
    (∃ t, exec (.icbi rA rB) s = .next t ∧ t = { s with stale := t.stale, pc := s.pc + 4 }) ∧
    exec (.dcbt rA rB) s = .next s.ended ∧ exec (.dcbtst rA rB) s = .next s.ended ∧
    (s.dce = true → s.plainData block 32 →
      ∃ t, exec (.dcbz rA rB) s = .next t ∧ StoreEnds s t block (List.replicate 32 0)) ∧
    (s.msrPr = false → ∃ t, exec (.dcbi rA rB) s = .next t ∧
      t = { s with
        mem := t.mem, stale := t.stale, dirty := t.dirty, tables := t.tables, draws := t.draws, pc := s.pc + 4 } ∧
      (∀ x : Nat, (x < block.toNat ∨ block.toNat + 32 ≤ x) → t.mem.read x = s.mem.read x) ∧
      ((∀ e ∈ s.dirty, e.word ∉ words) → t = s.ended) ∧
      (∀ e ∈ t.dirty, e.word ∉ words)) ∧
    (s.decided → ∀ i ∈ [Instr.dcbst rA rB, .dcbf rA rB], ∃ t1 t2 t3 t4 t5, exec i s = .next t1 ∧ exec .sync t1 = .next t2 ∧
      exec (.icbi rA rB) t2 = .next t3 ∧ exec .sync t3 = .next t4 ∧ exec .isync t4 = .next t5 ∧
      (∀ e ∈ t5.stale, e.word ∉ words) ∧ t5.mem = s.mem ∧
      (s.hid0.getLsbD 15 = false → ∃ u v, exec .isync t2 = .next u ∧ exec .isync t3 = .next v ∧
        (∀ e ∈ u.stale, e.word ∉ words) ∧ ∀ e ∈ v.stale, e.word ∉ words)) ∧
    (s.decided → ∃ t1 t2, exec (.dcbf rA rB) s = .next t1 ∧ exec .sync t1 = .next t2 ∧ t2.mem = s.mem ∧
      ∀ e ∈ t2.dirty, e.word ∉ words)

/-- mtspr writes the register its number names, with that register's side effects, and nothing else (R37, R52, R55,
R56, R59, R60, R63, R64, R65, R143, R562, R862). Where it rests on the model's own reading or choice: log 8, 10, 11,
31, 41, 50. -/
def Obligations.SpecialRegisterWrites : Prop :=
  ∀ (r : Reg) (s : State), s.msrSe = false →
    let v := s.x r
    exec (.mtspr r 8) s = .next ({ s with lr := v } : State).ended ∧
    exec (.mtspr r 9) s = .next ({ s with ctr := v } : State).ended ∧
    (∃ t, exec (.mtspr r 1) s = .next t ∧ t.xer = v &&& 0xE000007F ∧
      t = { s with xer := t.xer, xerReservedWritten := t.xerReservedWritten, pc := s.pc + 4 }) ∧
    (s.msrPr = false →
      let writesIbat (n : BitVec 10) (j : Fin 8) (upper : Bool) : Prop := exec (.mtspr r n) s = .next ({ s with
        ibat := s.ibat.set j (if upper then ⟨v, (s.ibat.get j).lower⟩ else ⟨(s.ibat.get j).upper, v⟩)
        late := (if upper then ⟨.ibatU j, (s.ibat.get j).upper⟩ else ⟨.ibatL j, (s.ibat.get j).lower⟩) :: s.late } : State).ended
      let writesDbat (n : BitVec 10) (j : Fin 8) (upper : Bool) : Prop := exec (.mtspr r n) s = .next ({ s with
        dbat := s.dbat.set j (if upper then ⟨v, (s.dbat.get j).lower⟩ else ⟨(s.dbat.get j).upper, v⟩)
        late := (if upper then ⟨.dbatU j, (s.dbat.get j).upper⟩ else ⟨.dbatL j, (s.dbat.get j).lower⟩) :: s.late } : State).ended
      exec (.mtspr r 18) s = .next ({ s with dsisr := v } : State).ended ∧
      exec (.mtspr r 19) s = .next ({ s with dar := v } : State).ended ∧
      exec (.mtspr r 26) s = .next ({ s with srr0 := v } : State).ended ∧
      exec (.mtspr r 27) s = .next ({ s with srr1 := v } : State).ended ∧
      exec (.mtspr r 1017) s = .next ({ s with l2cr := v } : State).ended ∧
      exec (.mtspr r 1019) s = .next ({ s with ictc := v } : State).ended ∧
      exec (.mtspr r 956) s = .next ({ s with mmcr1 := v } : State).ended ∧
      exec (.mtspr r 955) s = .next ({ s with sia := v } : State).ended ∧
      exec (.mtspr r 282) s = .next ({ s with ear := v, late := ⟨.ear, s.ear⟩ :: s.late } : State).ended ∧
      exec (.mtspr r 1010) s = .next ({ s with iabr := v, late := ⟨.iabr, s.iabr⟩ :: s.late } : State).ended ∧
      exec (.mtspr r 1013) s = .next ({ s with dabr := v, late := ⟨.dabr, s.dabr⟩ :: s.late } : State).ended ∧
      exec (.mtspr r 953) s = .next ({ s with pmc := s.pmc.set 0 v } : State).ended ∧
      exec (.mtspr r 954) s = .next ({ s with pmc := s.pmc.set 1 v } : State).ended ∧
      exec (.mtspr r 957) s = .next ({ s with pmc := s.pmc.set 2 v } : State).ended ∧
      exec (.mtspr r 958) s = .next ({ s with pmc := s.pmc.set 3 v } : State).ended ∧
      exec (.mtspr r 1020) s = .next ({ s with thrm := s.thrm.set 0 v } : State).ended ∧
      exec (.mtspr r 1021) s = .next ({ s with thrm := s.thrm.set 1 v } : State).ended ∧
      (∀ n ∈ [921, 922, 923], exec (.mtspr r n) s = .refused .lockedCacheUnit) ∧
      (∀ k : Fin 4, exec (.mtspr r (272 + BitVec.ofNat 10 k)) s = .next ({ s with sprg := s.sprg.set k v } : State).ended) ∧
      (∀ k : Fin 8, exec (.mtspr r (912 + BitVec.ofNat 10 k)) s = .next ({ s with gqr := s.gqr.set k v } : State).ended) ∧
      exec (.mtspr r 25) s = .next ({ s with
        sdr1 := v
        late := ⟨.sdr1, s.sdr1⟩ :: s.late
        tables := { s.tables with changes := .sdr1 s.sdr1 :: s.tables.changes } } : State).ended ∧
      (∀ k : Fin 4, let j : Fin 8 := ⟨k, by omega⟩
        writesIbat (528 + BitVec.ofNat 10 (2 * k)) j true ∧ writesIbat (529 + BitVec.ofNat 10 (2 * k)) j false ∧
        writesDbat (536 + BitVec.ofNat 10 (2 * k)) j true ∧ writesDbat (537 + BitVec.ofNat 10 (2 * k)) j false) ∧
      (s.params.part = .broadway → (∀ k : Fin 4, let j : Fin 8 := ⟨k + 4, by omega⟩
        writesIbat (560 + BitVec.ofNat 10 (2 * k)) j true ∧ writesIbat (561 + BitVec.ofNat 10 (2 * k)) j false ∧
        writesDbat (568 + BitVec.ofNat 10 (2 * k)) j true ∧ writesDbat (569 + BitVec.ofNat 10 (2 * k)) j false) ∧
        exec (.mtspr r 1011) s = .next ({ s with hid4 := v, late := ⟨.hid4, s.hid4⟩ :: s.late } : State).ended) ∧
      exec (.mtspr r 284) s = .next ({ s with tb := s.tb.extractLsb' 32 32 ++ v } : State).ended ∧
      exec (.mtspr r 285) s = .next ({ s with tb := v ++ s.tb.extractLsb' 0 32 } : State).ended ∧
      exec (.mtspr r 22) s = .next ({ s with
        dec := v, decPending := s.decPending || (!s.dec.getLsbD 31 && v.getLsbD 31) } : State).ended ∧
      exec (.mtspr r 920) s = (if v.getLsbD 30 || v.getLsbD 28 then .refused .lockedCacheUnit
        else .next ({ s with
          hid2 := (v &&& 0xF0FFFFFF) ||| (s.hid2 &&& 0x0F000000)
          late := ⟨.hid2, s.hid2⟩ :: s.late } : State).ended) ∧
      exec (.mtspr r 952) s = (if v.getLsbD 26 then .refused .performanceMonitorInterrupt
        else .next ({ s with mmcr0 := v } : State).ended) ∧
      exec (.mtspr r 1022) s = (if v.getLsbD 0 then .refused .thermalUnit
        else .next ({ s with thrm := s.thrm.set 2 v } : State).ended) ∧
      ∃ t, exec (.mtspr r 1008) s = .next t ∧ t = { s with
          hid0 := v
          late := ⟨.dce, s.hid0⟩ :: ⟨.ice, s.hid0⟩ :: s.late
          stale := t.stale
          pc := s.pc + 4 } ∧
        (v.getLsbD 11 = false → t.stale = s.stale) ∧
        (v.getLsbD 11 = true → t.stale = s.stale.map fun e =>
          if e.stage = .synced ∨ e.stage = .invalidated then { e with stage := .settled } else e) ∧
        (∃ u, exec .isync t = .next u ∧ u.ice = v.getLsbD 15 ∧ (v.getLsbD 11 = true ∨ v.getLsbD 15 = false →
          ∀ e ∈ u.stale, ∃ o ∈ s.stale, e.word = o.word ∧ e.olds = o.olds ∧ (o.stage = .written ∨ o.stage = .stored))) ∧
        (v.getLsbD 10 = true ∨ v.getLsbD 14 = false → ∃ u, exec .sync t = .next u ∧ (∀ e ∈ u.dirty, e.cached = false) ∧
          ∀ a, (∀ e ∈ s.dirty, e.cached = true → e.word % 2 ^ 30 ≠ a / 4) → u.mem.read a = s.mem.read a) ∧
        (v.getLsbD 10 = false → v.getLsbD 14 = true → s.late = [] → (∀ e ∈ s.dirty, e.mixed = false) →
          ∃ u, exec .sync t = .next u ∧ u.mem = s.mem))

/-- mfspr reads the register its number names, mftb the time base, and nothing else changes (R52, R55, R59, R60, R61,
R63, R65, R67, R72, R562, R564, R566). Where it rests on the model's own reading or choice: log 31, 32. -/
def Obligations.SpecialRegisterReads : Prop :=
  ∀ (r : Reg) (s : State), s.msrSe = false →
    let put (v : Word) : State := ({ s with draws := s.draws + 1 } : State).setX r v
    let reads (n : BitVec 10) (v : Word) : Prop := exec (.mfspr r n) s = .next (put v).ended
    let within (n : BitVec 10) (mask old : Word) : Prop := ∃ v, reads n v ∧ v &&& mask = old &&& mask
    reads 8 s.lr ∧ reads 9 s.ctr ∧ reads 936 s.mmcr0 ∧ reads 940 s.mmcr1 ∧
    (s.xerReservedWritten = false → reads 1 s.xer) ∧ (∀ n ∈ [937, 938, 939, 941, 942], within n 0 0) ∧
    exec (.mftb r 268) s = .next (s.setX r (s.tb.extractLsb' 0 32)).ended ∧
    exec (.mftb r 269) s = .next (s.setX r (s.tb.extractLsb' 32 32)).ended ∧
    (s.msrPr = false →
      reads 18 s.dsisr ∧ reads 19 s.dar ∧ reads 22 s.dec ∧ reads 26 s.srr0 ∧ reads 27 s.srr1 ∧ reads 282 s.ear ∧
      reads 952 s.mmcr0 ∧ reads 956 s.mmcr1 ∧ reads 1008 s.hid0 ∧ reads 1009 s.hid1 ∧ reads 1010 s.iabr ∧ reads 1013 s.dabr ∧ reads 1019 s.ictc ∧
      reads 287 (if s.params.part = .gekko then 0x00083214 else 0x00087102) ∧
      (∀ k : Fin 4, reads (272 + BitVec.ofNat 10 k) (s.sprg.get k)) ∧
      (∀ k : Fin 8, within (912 + BitVec.ofNat 10 k) 0x3F073F07 (s.gqr.get k)) ∧
      within 25 0xFFFF01FF s.sdr1 ∧ within 920 0xFFFF0000 s.hid2 ∧ within 1017 0xFFFFFFFE s.l2cr ∧
      (∀ n ∈ [921, 922, 923, 953, 954, 955, 957, 958, 1020, 1021, 1022], within n 0 0) ∧
      (∀ k : Fin 4, let j : Fin 8 := ⟨k, by omega⟩
        within (528 + BitVec.ofNat 10 (2 * k)) 0xFFFE1FFF (s.ibat.get j).upper ∧
        within (529 + BitVec.ofNat 10 (2 * k)) 0xFFFE0033 (s.ibat.get j).lower ∧
        within (536 + BitVec.ofNat 10 (2 * k)) 0xFFFE1FFF (s.dbat.get j).upper ∧
        within (537 + BitVec.ofNat 10 (2 * k)) 0xFFFE007B (s.dbat.get j).lower) ∧
      (s.params.part = .broadway → reads 1011 s.hid4 ∧ ∀ k : Fin 4, let j : Fin 8 := ⟨k + 4, by omega⟩
        within (560 + BitVec.ofNat 10 (2 * k)) 0xFFFE1FFF (s.ibat.get j).upper ∧
        within (561 + BitVec.ofNat 10 (2 * k)) 0xFFFE0033 (s.ibat.get j).lower ∧
        within (568 + BitVec.ofNat 10 (2 * k)) 0xFFFE1FFF (s.dbat.get j).upper ∧
        within (569 + BitVec.ofNat 10 (2 * k)) 0xFFFE007B (s.dbat.get j).lower))

/-- The condition-register instructions complete and write only the bits they name (R34, R565, R567, R590, R591, R592,
R593, R594, R595, R597, R599, R748). -/
def Obligations.ConditionRegister : Prop :=
  ∀ (d a b r : BitVec 5) (f g : CrField) (m : BitVec 8) (s : State), s.msrSe = false →
    let bitOf (k : CrBit) : Bool := s.cr.getLsbD (31 - k.toNat)
    let sets (i : Instr) (v : Bool) : Prop := ∃ t, exec i s = .next t ∧ t = { s with cr := t.cr, pc := s.pc + 4 } ∧
      ∀ k : CrBit, t.cr.getLsbD (31 - k.toNat) = if k = d then v else bitOf k
    sets (.crand d a b) (bitOf a && bitOf b) ∧ sets (.crandc d a b) (bitOf a && !bitOf b) ∧
    sets (.creqv d a b) (bitOf a == bitOf b) ∧ sets (.crnand d a b) (!(bitOf a && bitOf b)) ∧
    sets (.crnor d a b) (!(bitOf a || bitOf b)) ∧ sets (.cror d a b) (bitOf a || bitOf b) ∧
    sets (.crorc d a b) (bitOf a || !bitOf b) ∧ sets (.crxor d a b) (bitOf a != bitOf b) ∧
    (∃ t, exec (.mcrf f g) s = .next t ∧ FieldEnds s t f (s.crf g)) ∧
    (∃ t, exec (.mtcrf r m) s = .next t ∧ t = { s with cr := t.cr, pc := s.pc + 4 } ∧
      ∀ k < 32, t.cr.getLsbD k = if m.getLsbD (k / 4) then (s.x r).getLsbD k else s.cr.getLsbD k) ∧
    exec (.mfcr r) s = .next (s.setX r s.cr).ended ∧
    (∃ t, exec (.mcrxr f) s = .next t ∧
      t = { s with cr := t.cr, xer := s.xer &&& 0x0FFFFFFF, draws := t.draws, pc := s.pc + 4 } ∧
      (t.crf f).extractLsb' 1 3 = s.xer.extractLsb' 29 3 ∧
      (s.xerReservedWritten = false → t.crf f = s.xer.extractLsb' 28 4) ∧ ∀ k, k ≠ f → t.crf k = s.crf k)

/-- mtmsr and mfmsr complete in supervisor mode; a processor that mtmsr put to sleep waits (R50, R568, R569, R781,
R812, R862). Where it rests on the model's own reading or choice: log 35, 41. -/
def Obligations.MsrAndPowerSaving : Prop :=
  (∀ (r : Reg) (s : State), s.msrPr = false → s.msrSe = false →
    let v : Word := s.x r &&& 0x0005FF77
    let fp : Prop := s.fpscr.getLsbD 30 = true ∧ (v.getLsbD 11 = true ∨ v.getLsbD 8 = true)
    exec (.mfmsr r) s = .next (s.setX r s.msr).ended ∧
    (v.getLsbD 0 = true ∨ v.getLsbD 16 = true → exec (.mtmsr r) s = .refused .littleEndian) ∧
    (v.getLsbD 0 = false → v.getLsbD 16 = false → ¬fp → exec (.mtmsr r) s = .next { s with
      msr := v
      late := ⟨.msr, s.msr⟩ :: s.late
      pc := s.pc + 4
      mode := if v.getLsbD 18 && (s.hid0.getLsbD 23 || s.hid0.getLsbD 22 || s.hid0.getLsbD 21) then .powerSave
        else s.mode }) ∧
    (v.getLsbD 0 = false → v.getLsbD 16 = false → fp →
      exec (.mtmsr r) s = .next (({ s with msr := v } : State).entered .program (s.pc + 4) 0x00100000))) ∧
  (∀ s : State, s.atBoundary .powerSave → s.lines.machineCheckIn = none →
    s.lines.softReset = false →
    (s.msrEe = false ∨ (s.lines.extIrq = false ∧ (s.decPending = false ∨ s.hid0.getLsbD 21 = true))) →
    step s = .next s.ticked)

/-- The moves of FPSCR complete and write only the bits they name, VX and FEX following R49 (R48, R49, R580, R581,
R582, R583, R584, R585). -/
def Obligations.FpscrMoves : Prop :=
  ∀ (frD frB : FReg) (k : CrBit) (f g : CrField) (m : BitVec 8) (imm : BitVec 4) (rc : Bool) (s : State),
    s.msrFp = true → s.msrFe = false → s.msrSe = false →
    let old (j : Nat) : Bool := s.fpscr.getLsbD j
    let ends (t : State) (bit : Nat → Bool) : Prop :=
      t = { s with fpscr := t.fpscr, cr := t.cr, pc := s.pc + 4 } ∧ t.fpscrComputed ∧
      (∀ j < 32, j ≠ 30 → j ≠ 29 → j ≠ 11 → t.fpscr.getLsbD j = bit j) ∧ (old 11 = false → t.fpscr.getLsbD 11 = false) ∧
      t.crf 1 = (if rc then t.fpscr.extractLsb' 28 4 else s.crf 1) ∧ ∀ n, n ≠ 1 → t.crf n = s.crf n
    (∃ t, ∃ u : Word, exec (.mffs frD rc) s = .next t ∧ FpMoveEnds s t frD rc (u ++ s.fpscr) (s.f1 frD)) ∧
    (∃ t, exec (.mcrfs f g) s = .next t ∧ t = { s with fpscr := t.fpscr, cr := t.cr, pc := s.pc + 4 } ∧
      t.fpscrComputed ∧ (old 11 = false → t.fpscr.getLsbD 11 = false) ∧ t.crf f = s.fpscr.extractLsb' (28 - 4 * g.toNat) 4 ∧ (∀ n, n ≠ f → t.crf n = s.crf n) ∧
      ∀ j < 32, j ≠ 30 → j ≠ 29 → j ≠ 11 → t.fpscr.getLsbD j =
        (old j && !(decide (j / 4 = 7 - g.toNat) && (0x9FF80700 : Word).getLsbD j))) ∧
    (∃ t, exec (.mtfsb0 k rc) s = .next t ∧ ends t fun j => old j && decide (j ≠ 31 - k.toNat)) ∧
    (k ≠ 20 → ∃ t, exec (.mtfsb1 k rc) s = .next t ∧ ends t fun j =>
      old j || decide (j = 31 - k.toNat) ||
        (decide (j = 31) && (0x1FF80700 : Word).getLsbD (31 - k.toNat) && !old (31 - k.toNat))) ∧
    exec (.mtfsb1 20 rc) s = .refused .reservedFpscrBit ∧
    (∃ t, exec (.mtfsf m frB rc) s = .next t ∧
      ends t fun j => if m.getLsbD (j / 4) then (s.f0 frB).getLsbD j else old j) ∧
    (∃ t, exec (.mtfsfi f imm rc) s = .next t ∧
      ends t fun j => if j / 4 = 7 - f.toNat then imm.getLsbD (j % 4) else old j)

/-- Synchronization, TLB and segment-register instructions complete (R58, R135, R140, R621, R622, R623, R624, R625, R626,
R627, R628, R629, R630, R861, R862). What `ContextSynced` says after isync of R140's sequence with HID0[ICE] = 0 (no second
sync) and of a late HID4 or EAR is the model's own reading: log 8, 10. Where it rests on the model's own reading or choice
besides: log 8, 11. -/
def Obligations.SynchronizationAndSegments : Prop :=
  ∀ (r rB : Reg) (n : BitVec 4) (s : State), s.msrSe = false →
    (∃ t, exec .sync s = .next t ∧
      t = { s with
        mem := t.mem, stale := t.stale, dirty := t.dirty, late := t.late, tables := t.tables, draws := t.draws
        pc := s.pc + 4 } ∧
      (∀ e, e ∈ t.late ↔ e ∈ s.late ∧ e.reg ≠ .dce) ∧
      (∀ e ∈ s.dirty, (e.cached && s.dropping) = false → e.flush = none → e ∈ t.dirty) ∧
      (∀ e ∈ t.dirty, e.flush = none ∧ (e.cached && s.dropping) = false ∧ ∃ o ∈ s.dirty, e.word = o.word ∧
        o.flush ≠ some 0 ∧ ∀ k, o.flush = some k → e.olds = if o.mixed then o.olds else o.olds.take k) ∧
      (∀ a, (∀ e ∈ s.dirty, (e.cached && (s.dropping || e.mixed)) = true → e.word % 2 ^ 30 ≠ a / 4) →
        t.mem.read a = s.mem.read a) ∧ (s.decided → t.draws = s.draws)) ∧
    (∃ t, exec .isync s = .next t ∧ ContextSynced s t ∧ t = { s with stale := t.stale, late := t.late, pc := s.pc + 4 }) ∧
    exec .eieio s = .next s.ended ∧
    (s.msrPr = false →
      let mapped (t : State) (i : Fin 16) : Prop := t = { s with sr := t.sr, late := ⟨.sr i, s.sr.get i⟩ :: s.late, pc := s.pc + 4 } ∧
        ∀ k, t.sr.get k = if k = i then s.x r else s.sr.get k
      (∃ t, exec (.tlbie rB) s = .next t ∧ t = { s with tables := t.tables, pc := s.pc + 4 } ∧
        t.tables = { s.tables with clearing := s.tables.clearing.set (tlbSet (s.x rB)) s.tables.changes.length } ∧
        (s.decided → ∃ u, exec .sync t = .next u ∧
          ∀ ea : Word, ea.extractLsb' 12 6 = (s.x rB).extractLsb' 12 6 → u.tableSettled ea)) ∧
      exec .tlbsync s = .next s.ended ∧
      (s.params.hasTlbia = true → ∃ t, exec .tlbia s = .next t ∧ t = { s with tables := t.tables, pc := s.pc + 4 } ∧
        (s.decided → ∃ u, exec .sync t = .next u ∧ ∀ ea, u.tableSettled ea)) ∧
      (∃ t, exec (.mtsr r n) s = .next t ∧ mapped t n.toFin) ∧
      exec (.mfsr r n) s = .next (s.setX r (s.sr.get n.toFin)).ended ∧
      (∀ k : Fin 16, k.val = (s.x rB).toNat / 2 ^ 28 →
        (∃ t, exec (.mtsrin r rB) s = .next t ∧ mapped t k) ∧
        exec (.mfsrin r rB) s = .next (s.setX r (s.sr.get k)).ended))

/-- Every step keeps memory in its canonical form (R100, R118). -/
def Obligations.MemoryStaysCanonical : Prop :=
  ∀ s t : State, s.memoryCanonical → step s = .next t → t.memoryCanonical

/-- Every step keeps pc aligned, MSR within its defined bits, and the refused units off (R32, R50, R63, R72, R73). -/
def Obligations.RegistersStayLegal : Prop :=
  ∀ s t : State, step s = .next t →
    (s.pcAligned → t.pcAligned) ∧ (s.msrLegal → t.msrLegal) ∧ (s.refusedUnitsOff → t.refusedUnitsOff)

/-- No instruction sets FPSCR's VX and FEX to anything but what R49 computes (R49). -/
def Obligations.FpscrSummaryBits : Prop :=
  (∀ (i : Instr) (s t : State), exec i s = .next t → t.fpscr = s.fpscr ∨ t.fpscrComputed) ∧
  (∀ s t : State, s.fpscrComputed → step s = .next t → t.fpscrComputed)

/-- The state after reset meets every invariant (R74, R850). -/
def Obligations.ResetMeetsInvariants : Prop :=
  State.reset.pcAligned ∧ State.reset.msrLegal ∧ State.reset.fpscrComputed ∧ State.reset.refusedUnitsOff ∧
    State.reset.memoryCanonical

/-- An instruction that runs in user mode and stays there changes no supervisor register (R800, R801, R563). -/
def Obligations.UserModeKeepsSupervisorState : Prop :=
  ∀ (i : Instr) (s t : State), s.msrPr = true → exec i s = .next t → t.msrPr = true → t.mode ≠ .checkstop →
    KeepsSupervisor s t
end

