-- ==== Sys2Proof/Laws/Decode.lean ====
section
/-! SUPPORT. What each field of a word laid out in each form reads as (30_encoding.md R152 to R163). -/

namespace Sys2Proof


/-! ### `iForm` -/

@[simp] theorem opcd_iForm (op : BitVec 6) (li : BitVec 24) (aa lk : Bool) :
    opcd (iForm op li aa lk) = op.toNat := by
  simp only [opcd]; congr 1; ext i hi; simp [iForm, put, putBit]; interval_cases i <;> simp
@[simp] theorem fieldLi_iForm (op : BitVec 6) (li : BitVec 24) (aa lk : Bool) :
    fieldLi (iForm op li aa lk) = li := by
  simp only [fieldLi]; ext i hi; simp [iForm, put, putBit]; interval_cases i <;> simp
@[simp] theorem bit1_iForm (op : BitVec 6) (li : BitVec 24) (aa lk : Bool) :
    bit1 (iForm op li aa lk) = aa := by
  simp [bit1, iForm, put, putBit]
@[simp] theorem bit0_iForm (op : BitVec 6) (li : BitVec 24) (aa lk : Bool) :
    bit0 (iForm op li aa lk) = lk := by
  simp [bit0, iForm, put, putBit]

/-! ### `bForm` -/

@[simp] theorem opcd_bForm (op : BitVec 6) (bo bi : BitVec 5) (bd : BitVec 14) (aa lk : Bool) :
    opcd (bForm op bo bi bd aa lk) = op.toNat := by
  simp only [opcd]; congr 1; ext i hi; simp [bForm, put, putBit]; interval_cases i <;> simp
@[simp] theorem fieldD_bForm (op : BitVec 6) (bo bi : BitVec 5) (bd : BitVec 14) (aa lk : Bool) :
    fieldD (bForm op bo bi bd aa lk) = bo := by
  simp only [fieldD]; ext i hi; simp [bForm, put, putBit]; interval_cases i <;> simp
@[simp] theorem fieldA_bForm (op : BitVec 6) (bo bi : BitVec 5) (bd : BitVec 14) (aa lk : Bool) :
    fieldA (bForm op bo bi bd aa lk) = bi := by
  simp only [fieldA]; ext i hi; simp [bForm, put, putBit]; interval_cases i <;> simp
@[simp] theorem fieldBd_bForm (op : BitVec 6) (bo bi : BitVec 5) (bd : BitVec 14) (aa lk : Bool) :
    fieldBd (bForm op bo bi bd aa lk) = bd := by
  simp only [fieldBd]; ext i hi; simp [bForm, put, putBit]; interval_cases i <;> simp
@[simp] theorem bit1_bForm (op : BitVec 6) (bo bi : BitVec 5) (bd : BitVec 14) (aa lk : Bool) :
    bit1 (bForm op bo bi bd aa lk) = aa := by
  simp [bit1, bForm, put, putBit]
@[simp] theorem bit0_bForm (op : BitVec 6) (bo bi : BitVec 5) (bd : BitVec 14) (aa lk : Bool) :
    bit0 (bForm op bo bi bd aa lk) = lk := by
  simp [bit0, bForm, put, putBit]

/-! ### `dForm` -/

@[simp] theorem opcd_dForm (op : BitVec 6) (d a : BitVec 5) (imm : BitVec 16) :
    opcd (dForm op d a imm) = op.toNat := by
  simp only [opcd]; congr 1; ext i hi; simp [dForm, put]; interval_cases i <;> simp
@[simp] theorem fieldD_dForm (op : BitVec 6) (d a : BitVec 5) (imm : BitVec 16) :
    fieldD (dForm op d a imm) = d := by
  simp only [fieldD]; ext i hi; simp [dForm, put]; interval_cases i <;> simp
@[simp] theorem fieldA_dForm (op : BitVec 6) (d a : BitVec 5) (imm : BitVec 16) :
    fieldA (dForm op d a imm) = a := by
  simp only [fieldA]; ext i hi; simp [dForm, put]; interval_cases i <;> simp
@[simp] theorem field16_dForm (op : BitVec 6) (d a : BitVec 5) (imm : BitVec 16) :
    field16 (dForm op d a imm) = imm := by
  simp only [field16]; ext i hi; simp [dForm, put]; interval_cases i <;> simp

/-! ### `xForm` -/

@[simp] theorem opcd_xForm (op : BitVec 6) (d a b : BitVec 5) (xo : BitVec 10) (rc : Bool) :
    opcd (xForm op d a b xo rc) = op.toNat := by
  simp only [opcd]; congr 1; ext i hi; simp [xForm, put, putBit]; interval_cases i <;> simp
@[simp] theorem fieldD_xForm (op : BitVec 6) (d a b : BitVec 5) (xo : BitVec 10) (rc : Bool) :
    fieldD (xForm op d a b xo rc) = d := by
  simp only [fieldD]; ext i hi; simp [xForm, put, putBit]; interval_cases i <;> simp
@[simp] theorem fieldA_xForm (op : BitVec 6) (d a b : BitVec 5) (xo : BitVec 10) (rc : Bool) :
    fieldA (xForm op d a b xo rc) = a := by
  simp only [fieldA]; ext i hi; simp [xForm, put, putBit]; interval_cases i <;> simp
@[simp] theorem fieldB_xForm (op : BitVec 6) (d a b : BitVec 5) (xo : BitVec 10) (rc : Bool) :
    fieldB (xForm op d a b xo rc) = b := by
  simp only [fieldB]; ext i hi; simp [xForm, put, putBit]; interval_cases i <;> simp
@[simp] theorem xo10_xForm (op : BitVec 6) (d a b : BitVec 5) (xo : BitVec 10) (rc : Bool) :
    xo10 (xForm op d a b xo rc) = xo.toNat := by
  simp only [xo10]; congr 1; ext i hi; simp [xForm, put, putBit]; interval_cases i <;> simp
@[simp] theorem xo9_xForm (op : BitVec 6) (d a b : BitVec 5) (xo : BitVec 10) (rc : Bool) :
    xo9 (xForm op d a b xo rc) = (xo.setWidth 9).toNat := by
  simp only [xo9]; congr 1; ext i hi; simp [xForm, put, putBit]; interval_cases i <;> simp
@[simp] theorem xo6_xForm (op : BitVec 6) (d a b : BitVec 5) (xo : BitVec 10) (rc : Bool) :
    xo6 (xForm op d a b xo rc) = (xo.setWidth 6).toNat := by
  simp only [xo6]; congr 1; ext i hi; simp [xForm, put, putBit]; interval_cases i <;> simp
@[simp] theorem xo5_xForm (op : BitVec 6) (d a b : BitVec 5) (xo : BitVec 10) (rc : Bool) :
    xo5 (xForm op d a b xo rc) = (xo.setWidth 5).toNat := by
  simp only [xo5]; congr 1; ext i hi; simp [xForm, put, putBit]; interval_cases i <;> simp
@[simp] theorem bit0_xForm (op : BitVec 6) (d a b : BitVec 5) (xo : BitVec 10) (rc : Bool) :
    bit0 (xForm op d a b xo rc) = rc := by
  simp [bit0, xForm, put, putBit]

/-! ### `xfxForm` -/

@[simp] theorem opcd_xfxForm (op : BitVec 6) (d : BitVec 5) (mid : BitVec 10) (xo : BitVec 10) :
    opcd (xfxForm op d mid xo) = op.toNat := by
  simp only [opcd]; congr 1; ext i hi; simp [xfxForm, put]; interval_cases i <;> simp
@[simp] theorem fieldD_xfxForm (op : BitVec 6) (d : BitVec 5) (mid : BitVec 10) (xo : BitVec 10) :
    fieldD (xfxForm op d mid xo) = d := by
  simp only [fieldD]; ext i hi; simp [xfxForm, put]; interval_cases i <;> simp
@[simp] theorem xo10_xfxForm (op : BitVec 6) (d : BitVec 5) (mid : BitVec 10) (xo : BitVec 10) :
    xo10 (xfxForm op d mid xo) = xo.toNat := by
  simp only [xo10]; congr 1; ext i hi; simp [xfxForm, put]; interval_cases i <;> simp

/-! ### `xflForm` -/

@[simp] theorem opcd_xflForm (op : BitVec 6) (fm : BitVec 8) (b : BitVec 5) (xo : BitVec 10) (rc : Bool) :
    opcd (xflForm op fm b xo rc) = op.toNat := by
  simp only [opcd]; congr 1; ext i hi; simp [xflForm, put, putBit]; interval_cases i <;> simp
@[simp] theorem fieldFm_xflForm (op : BitVec 6) (fm : BitVec 8) (b : BitVec 5) (xo : BitVec 10) (rc : Bool) :
    fieldFm (xflForm op fm b xo rc) = fm := by
  simp only [fieldFm]; ext i hi; simp [xflForm, put, putBit]; interval_cases i <;> simp
@[simp] theorem fieldB_xflForm (op : BitVec 6) (fm : BitVec 8) (b : BitVec 5) (xo : BitVec 10) (rc : Bool) :
    fieldB (xflForm op fm b xo rc) = b := by
  simp only [fieldB]; ext i hi; simp [xflForm, put, putBit]; interval_cases i <;> simp
@[simp] theorem xo10_xflForm (op : BitVec 6) (fm : BitVec 8) (b : BitVec 5) (xo : BitVec 10) (rc : Bool) :
    xo10 (xflForm op fm b xo rc) = xo.toNat := by
  simp only [xo10]; congr 1; ext i hi; simp [xflForm, put, putBit]; interval_cases i <;> simp
@[simp] theorem xo5_xflForm (op : BitVec 6) (fm : BitVec 8) (b : BitVec 5) (xo : BitVec 10) (rc : Bool) :
    xo5 (xflForm op fm b xo rc) = (xo.setWidth 5).toNat := by
  simp only [xo5]; congr 1; ext i hi; simp [xflForm, put, putBit]; interval_cases i <;> simp
@[simp] theorem bit0_xflForm (op : BitVec 6) (fm : BitVec 8) (b : BitVec 5) (xo : BitVec 10) (rc : Bool) :
    bit0 (xflForm op fm b xo rc) = rc := by
  simp [bit0, xflForm, put, putBit]

/-! ### `xoForm` -/

@[simp] theorem opcd_xoForm (op : BitVec 6) (d a b : BitVec 5) (oe : Bool) (xo : BitVec 9) (rc : Bool) :
    opcd (xoForm op d a b oe xo rc) = op.toNat := by
  simp only [opcd]; congr 1; ext i hi; simp [xoForm, put, putBit]; interval_cases i <;> simp
@[simp] theorem fieldD_xoForm (op : BitVec 6) (d a b : BitVec 5) (oe : Bool) (xo : BitVec 9) (rc : Bool) :
    fieldD (xoForm op d a b oe xo rc) = d := by
  simp only [fieldD]; ext i hi; simp [xoForm, put, putBit]; interval_cases i <;> simp
@[simp] theorem fieldA_xoForm (op : BitVec 6) (d a b : BitVec 5) (oe : Bool) (xo : BitVec 9) (rc : Bool) :
    fieldA (xoForm op d a b oe xo rc) = a := by
  simp only [fieldA]; ext i hi; simp [xoForm, put, putBit]; interval_cases i <;> simp
@[simp] theorem fieldB_xoForm (op : BitVec 6) (d a b : BitVec 5) (oe : Bool) (xo : BitVec 9) (rc : Bool) :
    fieldB (xoForm op d a b oe xo rc) = b := by
  simp only [fieldB]; ext i hi; simp [xoForm, put, putBit]; interval_cases i <;> simp
@[simp] theorem bitOe_xoForm (op : BitVec 6) (d a b : BitVec 5) (oe : Bool) (xo : BitVec 9) (rc : Bool) :
    bitOe (xoForm op d a b oe xo rc) = oe := by
  simp [bitOe, xoForm, put, putBit]
@[simp] theorem xo9_xoForm (op : BitVec 6) (d a b : BitVec 5) (oe : Bool) (xo : BitVec 9) (rc : Bool) :
    xo9 (xoForm op d a b oe xo rc) = xo.toNat := by
  simp only [xo9]; congr 1; ext i hi; simp [xoForm, put, putBit]; interval_cases i <;> simp
@[simp] theorem xo10_xoForm (op : BitVec 6) (d a b : BitVec 5) (oe : Bool) (xo : BitVec 9) (rc : Bool) :
    xo10 (xoForm op d a b oe xo rc) = (BitVec.ofBool oe ++ xo).toNat := by
  simp only [xo10]; congr 1; ext i hi; simp [xoForm, put, putBit]; interval_cases i <;> (rw [BitVec.getElem_append]; simp)
@[simp] theorem bit0_xoForm (op : BitVec 6) (d a b : BitVec 5) (oe : Bool) (xo : BitVec 9) (rc : Bool) :
    bit0 (xoForm op d a b oe xo rc) = rc := by
  simp [bit0, xoForm, put, putBit]

/-! ### `aForm` -/

@[simp] theorem opcd_aForm (op : BitVec 6) (d a b c xo : BitVec 5) (rc : Bool) :
    opcd (aForm op d a b c xo rc) = op.toNat := by
  simp only [opcd]; congr 1; ext i hi; simp [aForm, put, putBit]; interval_cases i <;> simp
@[simp] theorem fieldD_aForm (op : BitVec 6) (d a b c xo : BitVec 5) (rc : Bool) :
    fieldD (aForm op d a b c xo rc) = d := by
  simp only [fieldD]; ext i hi; simp [aForm, put, putBit]; interval_cases i <;> simp
@[simp] theorem fieldA_aForm (op : BitVec 6) (d a b c xo : BitVec 5) (rc : Bool) :
    fieldA (aForm op d a b c xo rc) = a := by
  simp only [fieldA]; ext i hi; simp [aForm, put, putBit]; interval_cases i <;> simp
@[simp] theorem fieldB_aForm (op : BitVec 6) (d a b c xo : BitVec 5) (rc : Bool) :
    fieldB (aForm op d a b c xo rc) = b := by
  simp only [fieldB]; ext i hi; simp [aForm, put, putBit]; interval_cases i <;> simp
@[simp] theorem fieldC_aForm (op : BitVec 6) (d a b c xo : BitVec 5) (rc : Bool) :
    fieldC (aForm op d a b c xo rc) = c := by
  simp only [fieldC]; ext i hi; simp [aForm, put, putBit]; interval_cases i <;> simp
@[simp] theorem xo5_aForm (op : BitVec 6) (d a b c xo : BitVec 5) (rc : Bool) :
    xo5 (aForm op d a b c xo rc) = xo.toNat := by
  simp only [xo5]; congr 1; ext i hi; simp [aForm, put, putBit]; interval_cases i <;> simp
@[simp] theorem bit0_aForm (op : BitVec 6) (d a b c xo : BitVec 5) (rc : Bool) :
    bit0 (aForm op d a b c xo rc) = rc := by
  simp [bit0, aForm, put, putBit]

/-! ### `mForm` -/

@[simp] theorem opcd_mForm (op : BitVec 6) (s a b mb me : BitVec 5) (rc : Bool) :
    opcd (mForm op s a b mb me rc) = op.toNat := by
  simp only [opcd]; congr 1; ext i hi; simp [mForm, put, putBit]; interval_cases i <;> simp
@[simp] theorem fieldD_mForm (op : BitVec 6) (s a b mb me : BitVec 5) (rc : Bool) :
    fieldD (mForm op s a b mb me rc) = s := by
  simp only [fieldD]; ext i hi; simp [mForm, put, putBit]; interval_cases i <;> simp
@[simp] theorem fieldA_mForm (op : BitVec 6) (s a b mb me : BitVec 5) (rc : Bool) :
    fieldA (mForm op s a b mb me rc) = a := by
  simp only [fieldA]; ext i hi; simp [mForm, put, putBit]; interval_cases i <;> simp
@[simp] theorem fieldB_mForm (op : BitVec 6) (s a b mb me : BitVec 5) (rc : Bool) :
    fieldB (mForm op s a b mb me rc) = b := by
  simp only [fieldB]; ext i hi; simp [mForm, put, putBit]; interval_cases i <;> simp
@[simp] theorem fieldC_mForm (op : BitVec 6) (s a b mb me : BitVec 5) (rc : Bool) :
    fieldC (mForm op s a b mb me rc) = mb := by
  simp only [fieldC]; ext i hi; simp [mForm, put, putBit]; interval_cases i <;> simp
@[simp] theorem fieldMe_mForm (op : BitVec 6) (s a b mb me : BitVec 5) (rc : Bool) :
    fieldMe (mForm op s a b mb me rc) = me := by
  simp only [fieldMe]; ext i hi; simp [mForm, put, putBit]; interval_cases i <;> simp
@[simp] theorem bit0_mForm (op : BitVec 6) (s a b mb me : BitVec 5) (rc : Bool) :
    bit0 (mForm op s a b mb me rc) = rc := by
  simp [bit0, mForm, put, putBit]

/-! ### `dqForm` -/

@[simp] theorem opcd_dqForm (op : BitVec 6) (d a : BitVec 5) (single : Bool) (i : BitVec 3) (d12 : BitVec 12) :
    opcd (dqForm op d a single i d12) = op.toNat := by
  simp only [opcd]; congr 1; ext i hi; simp [dqForm, put, putBit]; interval_cases i <;> simp
@[simp] theorem fieldD_dqForm (op : BitVec 6) (d a : BitVec 5) (single : Bool) (i : BitVec 3) (d12 : BitVec 12) :
    fieldD (dqForm op d a single i d12) = d := by
  simp only [fieldD]; ext i hi; simp [dqForm, put, putBit]; interval_cases i <;> simp
@[simp] theorem fieldA_dqForm (op : BitVec 6) (d a : BitVec 5) (single : Bool) (i : BitVec 3) (d12 : BitVec 12) :
    fieldA (dqForm op d a single i d12) = a := by
  simp only [fieldA]; ext i hi; simp [dqForm, put, putBit]; interval_cases i <;> simp
@[simp] theorem bitW_dqForm (op : BitVec 6) (d a : BitVec 5) (single : Bool) (i : BitVec 3) (d12 : BitVec 12) :
    bitW (dqForm op d a single i d12) = single := by
  simp [bitW, dqForm, put, putBit]
@[simp] theorem fieldI_dqForm (op : BitVec 6) (d a : BitVec 5) (single : Bool) (i : BitVec 3) (d12 : BitVec 12) :
    fieldI (dqForm op d a single i d12) = i := by
  simp only [fieldI]; ext i hi; simp [dqForm, put, putBit]; interval_cases i <;> simp
@[simp] theorem fieldD12_dqForm (op : BitVec 6) (d a : BitVec 5) (single : Bool) (i : BitVec 3) (d12 : BitVec 12) :
    fieldD12 (dqForm op d a single i d12) = d12 := by
  simp only [fieldD12]; ext i hi; simp [dqForm, put, putBit]; interval_cases i <;> simp

/-! ### `xqForm` -/

@[simp] theorem opcd_xqForm (op : BitVec 6) (d a b : BitVec 5) (single : Bool) (i : BitVec 3) (xo : BitVec 6) :
    opcd (xqForm op d a b single i xo) = op.toNat := by
  simp only [opcd]; congr 1; ext i hi; simp [xqForm, put, putBit]; interval_cases i <;> simp
@[simp] theorem fieldD_xqForm (op : BitVec 6) (d a b : BitVec 5) (single : Bool) (i : BitVec 3) (xo : BitVec 6) :
    fieldD (xqForm op d a b single i xo) = d := by
  simp only [fieldD]; ext i hi; simp [xqForm, put, putBit]; interval_cases i <;> simp
@[simp] theorem fieldA_xqForm (op : BitVec 6) (d a b : BitVec 5) (single : Bool) (i : BitVec 3) (xo : BitVec 6) :
    fieldA (xqForm op d a b single i xo) = a := by
  simp only [fieldA]; ext i hi; simp [xqForm, put, putBit]; interval_cases i <;> simp
@[simp] theorem fieldB_xqForm (op : BitVec 6) (d a b : BitVec 5) (single : Bool) (i : BitVec 3) (xo : BitVec 6) :
    fieldB (xqForm op d a b single i xo) = b := by
  simp only [fieldB]; ext i hi; simp [xqForm, put, putBit]; interval_cases i <;> simp
@[simp] theorem bitWx_xqForm (op : BitVec 6) (d a b : BitVec 5) (single : Bool) (i : BitVec 3) (xo : BitVec 6) :
    bitWx (xqForm op d a b single i xo) = single := by
  simp [bitWx, xqForm, put, putBit]
@[simp] theorem fieldIx_xqForm (op : BitVec 6) (d a b : BitVec 5) (single : Bool) (i : BitVec 3) (xo : BitVec 6) :
    fieldIx (xqForm op d a b single i xo) = i := by
  simp only [fieldIx]; ext i hi; simp [xqForm, put, putBit]; interval_cases i <;> simp
@[simp] theorem xo6_xqForm (op : BitVec 6) (d a b : BitVec 5) (single : Bool) (i : BitVec 3) (xo : BitVec 6) :
    xo6 (xqForm op d a b single i xo) = xo.toNat := by
  simp only [xo6]; congr 1; ext i hi; simp [xqForm, put, putBit]; interval_cases i <;> simp
@[simp] theorem xo5_xqForm (op : BitVec 6) (d a b : BitVec 5) (single : Bool) (i : BitVec 3) (xo : BitVec 6) :
    xo5 (xqForm op d a b single i xo) = (xo.setWidth 5).toNat := by
  simp only [xo5]; congr 1; ext i hi; simp [xqForm, put, putBit]; interval_cases i <;> simp

/-! ### The word of each instruction -/

@[simp] theorem encode_add (rD : Reg) (rA : Reg) (rB : Reg) (oe : Bool) (rc : Bool) :
    encode (.add rD rA rB oe rc) = xoForm 31 rD rA rB oe 266 rc := rfl
@[simp] theorem encode_addc (rD : Reg) (rA : Reg) (rB : Reg) (oe : Bool) (rc : Bool) :
    encode (.addc rD rA rB oe rc) = xoForm 31 rD rA rB oe 10 rc := rfl
@[simp] theorem encode_adde (rD : Reg) (rA : Reg) (rB : Reg) (oe : Bool) (rc : Bool) :
    encode (.adde rD rA rB oe rc) = xoForm 31 rD rA rB oe 138 rc := rfl
@[simp] theorem encode_addi (rD : Reg) (rA : Reg) (simm : BitVec 16) :
    encode (.addi rD rA simm) = dForm 14 rD rA simm := rfl
@[simp] theorem encode_addic (rD : Reg) (rA : Reg) (simm : BitVec 16) :
    encode (.addic rD rA simm) = dForm 12 rD rA simm := rfl
@[simp] theorem encode_addic_rc (rD : Reg) (rA : Reg) (simm : BitVec 16) :
    encode (.addic_rc rD rA simm) = dForm 13 rD rA simm := rfl
@[simp] theorem encode_addis (rD : Reg) (rA : Reg) (simm : BitVec 16) :
    encode (.addis rD rA simm) = dForm 15 rD rA simm := rfl
@[simp] theorem encode_addme (rD : Reg) (rA : Reg) (oe : Bool) (rc : Bool) :
    encode (.addme rD rA oe rc) = xoForm 31 rD rA 0 oe 234 rc := rfl
@[simp] theorem encode_addze (rD : Reg) (rA : Reg) (oe : Bool) (rc : Bool) :
    encode (.addze rD rA oe rc) = xoForm 31 rD rA 0 oe 202 rc := rfl
@[simp] theorem encode_subf (rD : Reg) (rA : Reg) (rB : Reg) (oe : Bool) (rc : Bool) :
    encode (.subf rD rA rB oe rc) = xoForm 31 rD rA rB oe 40 rc := rfl
@[simp] theorem encode_subfc (rD : Reg) (rA : Reg) (rB : Reg) (oe : Bool) (rc : Bool) :
    encode (.subfc rD rA rB oe rc) = xoForm 31 rD rA rB oe 8 rc := rfl
@[simp] theorem encode_subfe (rD : Reg) (rA : Reg) (rB : Reg) (oe : Bool) (rc : Bool) :
    encode (.subfe rD rA rB oe rc) = xoForm 31 rD rA rB oe 136 rc := rfl
@[simp] theorem encode_subfic (rD : Reg) (rA : Reg) (simm : BitVec 16) :
    encode (.subfic rD rA simm) = dForm 8 rD rA simm := rfl
@[simp] theorem encode_subfme (rD : Reg) (rA : Reg) (oe : Bool) (rc : Bool) :
    encode (.subfme rD rA oe rc) = xoForm 31 rD rA 0 oe 232 rc := rfl
@[simp] theorem encode_subfze (rD : Reg) (rA : Reg) (oe : Bool) (rc : Bool) :
    encode (.subfze rD rA oe rc) = xoForm 31 rD rA 0 oe 200 rc := rfl
@[simp] theorem encode_neg (rD : Reg) (rA : Reg) (oe : Bool) (rc : Bool) :
    encode (.neg rD rA oe rc) = xoForm 31 rD rA 0 oe 104 rc := rfl
@[simp] theorem encode_mulhw (rD : Reg) (rA : Reg) (rB : Reg) (rc : Bool) :
    encode (.mulhw rD rA rB rc) = xoForm 31 rD rA rB false 75 rc := rfl
@[simp] theorem encode_mulhwu (rD : Reg) (rA : Reg) (rB : Reg) (rc : Bool) :
    encode (.mulhwu rD rA rB rc) = xoForm 31 rD rA rB false 11 rc := rfl
@[simp] theorem encode_mullw (rD : Reg) (rA : Reg) (rB : Reg) (oe : Bool) (rc : Bool) :
    encode (.mullw rD rA rB oe rc) = xoForm 31 rD rA rB oe 235 rc := rfl
@[simp] theorem encode_mulli (rD : Reg) (rA : Reg) (simm : BitVec 16) :
    encode (.mulli rD rA simm) = dForm 7 rD rA simm := rfl
@[simp] theorem encode_divw (rD : Reg) (rA : Reg) (rB : Reg) (oe : Bool) (rc : Bool) :
    encode (.divw rD rA rB oe rc) = xoForm 31 rD rA rB oe 491 rc := rfl
@[simp] theorem encode_divwu (rD : Reg) (rA : Reg) (rB : Reg) (oe : Bool) (rc : Bool) :
    encode (.divwu rD rA rB oe rc) = xoForm 31 rD rA rB oe 459 rc := rfl
@[simp] theorem encode_and (rS : Reg) (rA : Reg) (rB : Reg) (rc : Bool) :
    encode (.and rS rA rB rc) = xForm 31 rS rA rB 28 rc := rfl
@[simp] theorem encode_andc (rS : Reg) (rA : Reg) (rB : Reg) (rc : Bool) :
    encode (.andc rS rA rB rc) = xForm 31 rS rA rB 60 rc := rfl
@[simp] theorem encode_andi_rc (rS : Reg) (rA : Reg) (uimm : BitVec 16) :
    encode (.andi_rc rS rA uimm) = dForm 28 rS rA uimm := rfl
@[simp] theorem encode_andis_rc (rS : Reg) (rA : Reg) (uimm : BitVec 16) :
    encode (.andis_rc rS rA uimm) = dForm 29 rS rA uimm := rfl
@[simp] theorem encode_or (rS : Reg) (rA : Reg) (rB : Reg) (rc : Bool) :
    encode (.or rS rA rB rc) = xForm 31 rS rA rB 444 rc := rfl
@[simp] theorem encode_orc (rS : Reg) (rA : Reg) (rB : Reg) (rc : Bool) :
    encode (.orc rS rA rB rc) = xForm 31 rS rA rB 412 rc := rfl
@[simp] theorem encode_ori (rS : Reg) (rA : Reg) (uimm : BitVec 16) :
    encode (.ori rS rA uimm) = dForm 24 rS rA uimm := rfl
@[simp] theorem encode_oris (rS : Reg) (rA : Reg) (uimm : BitVec 16) :
    encode (.oris rS rA uimm) = dForm 25 rS rA uimm := rfl
@[simp] theorem encode_xor (rS : Reg) (rA : Reg) (rB : Reg) (rc : Bool) :
    encode (.xor rS rA rB rc) = xForm 31 rS rA rB 316 rc := rfl
@[simp] theorem encode_xori (rS : Reg) (rA : Reg) (uimm : BitVec 16) :
    encode (.xori rS rA uimm) = dForm 26 rS rA uimm := rfl
@[simp] theorem encode_xoris (rS : Reg) (rA : Reg) (uimm : BitVec 16) :
    encode (.xoris rS rA uimm) = dForm 27 rS rA uimm := rfl
@[simp] theorem encode_nand (rS : Reg) (rA : Reg) (rB : Reg) (rc : Bool) :
    encode (.nand rS rA rB rc) = xForm 31 rS rA rB 476 rc := rfl
@[simp] theorem encode_nor (rS : Reg) (rA : Reg) (rB : Reg) (rc : Bool) :
    encode (.nor rS rA rB rc) = xForm 31 rS rA rB 124 rc := rfl
@[simp] theorem encode_eqv (rS : Reg) (rA : Reg) (rB : Reg) (rc : Bool) :
    encode (.eqv rS rA rB rc) = xForm 31 rS rA rB 284 rc := rfl
@[simp] theorem encode_slw (rS : Reg) (rA : Reg) (rB : Reg) (rc : Bool) :
    encode (.slw rS rA rB rc) = xForm 31 rS rA rB 24 rc := rfl
@[simp] theorem encode_srw (rS : Reg) (rA : Reg) (rB : Reg) (rc : Bool) :
    encode (.srw rS rA rB rc) = xForm 31 rS rA rB 536 rc := rfl
@[simp] theorem encode_sraw (rS : Reg) (rA : Reg) (rB : Reg) (rc : Bool) :
    encode (.sraw rS rA rB rc) = xForm 31 rS rA rB 792 rc := rfl
@[simp] theorem encode_srawi (rS : Reg) (rA : Reg) (sh : BitVec 5) (rc : Bool) :
    encode (.srawi rS rA sh rc) = xForm 31 rS rA sh 824 rc := rfl
@[simp] theorem encode_rlwimi (rS : Reg) (rA : Reg) (sh : BitVec 5) (mb : BitVec 5) (me : BitVec 5) (rc : Bool) :
    encode (.rlwimi rS rA sh mb me rc) = mForm 20 rS rA sh mb me rc := rfl
@[simp] theorem encode_rlwinm (rS : Reg) (rA : Reg) (sh : BitVec 5) (mb : BitVec 5) (me : BitVec 5) (rc : Bool) :
    encode (.rlwinm rS rA sh mb me rc) = mForm 21 rS rA sh mb me rc := rfl
@[simp] theorem encode_rlwnm (rS : Reg) (rA : Reg) (rB : Reg) (mb : BitVec 5) (me : BitVec 5) (rc : Bool) :
    encode (.rlwnm rS rA rB mb me rc) = mForm 23 rS rA rB mb me rc := rfl
@[simp] theorem encode_cmp (crfD : CrField) (l : Bool) (rA : Reg) (rB : Reg) :
    encode (.cmp crfD l rA rB) = xForm 31 (crfD ++ 0#1 ++ BitVec.ofBool l) rA rB 0 false := rfl
@[simp] theorem encode_cmpi (crfD : CrField) (l : Bool) (rA : Reg) (simm : BitVec 16) :
    encode (.cmpi crfD l rA simm) = dForm 11 (crfD ++ 0#1 ++ BitVec.ofBool l) rA simm := rfl
@[simp] theorem encode_cmpl (crfD : CrField) (l : Bool) (rA : Reg) (rB : Reg) :
    encode (.cmpl crfD l rA rB) = xForm 31 (crfD ++ 0#1 ++ BitVec.ofBool l) rA rB 32 false := rfl
@[simp] theorem encode_cmpli (crfD : CrField) (l : Bool) (rA : Reg) (uimm : BitVec 16) :
    encode (.cmpli crfD l rA uimm) = dForm 10 (crfD ++ 0#1 ++ BitVec.ofBool l) rA uimm := rfl
@[simp] theorem encode_b (li : BitVec 24) (aa : Bool) (lk : Bool) :
    encode (.b li aa lk) = iForm 18 li aa lk := rfl
@[simp] theorem encode_bc (bo : BitVec 5) (bi : CrBit) (bd : BitVec 14) (aa : Bool) (lk : Bool) :
    encode (.bc bo bi bd aa lk) = bForm 16 bo bi bd aa lk := rfl
@[simp] theorem encode_bclr (bo : BitVec 5) (bi : CrBit) (lk : Bool) :
    encode (.bclr bo bi lk) = xForm 19 bo bi 0 16 lk := rfl
@[simp] theorem encode_bcctr (bo : BitVec 5) (bi : CrBit) (lk : Bool) :
    encode (.bcctr bo bi lk) = xForm 19 bo bi 0 528 lk := rfl
@[simp] theorem encode_lbz (rD : Reg) (rA : Reg) (d : BitVec 16) :
    encode (.lbz rD rA d) = dForm 34 rD rA d := rfl
@[simp] theorem encode_lbzu (rD : Reg) (rA : Reg) (d : BitVec 16) :
    encode (.lbzu rD rA d) = dForm 35 rD rA d := rfl
@[simp] theorem encode_lbzx (rD : Reg) (rA : Reg) (rB : Reg) :
    encode (.lbzx rD rA rB) = xForm 31 rD rA rB 87 false := rfl
@[simp] theorem encode_lbzux (rD : Reg) (rA : Reg) (rB : Reg) :
    encode (.lbzux rD rA rB) = xForm 31 rD rA rB 119 false := rfl
@[simp] theorem encode_stb (rS : Reg) (rA : Reg) (d : BitVec 16) :
    encode (.stb rS rA d) = dForm 38 rS rA d := rfl
@[simp] theorem encode_stbu (rS : Reg) (rA : Reg) (d : BitVec 16) :
    encode (.stbu rS rA d) = dForm 39 rS rA d := rfl
@[simp] theorem encode_stbx (rS : Reg) (rA : Reg) (rB : Reg) :
    encode (.stbx rS rA rB) = xForm 31 rS rA rB 215 false := rfl
@[simp] theorem encode_stbux (rS : Reg) (rA : Reg) (rB : Reg) :
    encode (.stbux rS rA rB) = xForm 31 rS rA rB 247 false := rfl
@[simp] theorem encode_lhz (rD : Reg) (rA : Reg) (d : BitVec 16) :
    encode (.lhz rD rA d) = dForm 40 rD rA d := rfl
@[simp] theorem encode_lhzu (rD : Reg) (rA : Reg) (d : BitVec 16) :
    encode (.lhzu rD rA d) = dForm 41 rD rA d := rfl
@[simp] theorem encode_lhzx (rD : Reg) (rA : Reg) (rB : Reg) :
    encode (.lhzx rD rA rB) = xForm 31 rD rA rB 279 false := rfl
@[simp] theorem encode_lhzux (rD : Reg) (rA : Reg) (rB : Reg) :
    encode (.lhzux rD rA rB) = xForm 31 rD rA rB 311 false := rfl
@[simp] theorem encode_lha (rD : Reg) (rA : Reg) (d : BitVec 16) :
    encode (.lha rD rA d) = dForm 42 rD rA d := rfl
@[simp] theorem encode_lhau (rD : Reg) (rA : Reg) (d : BitVec 16) :
    encode (.lhau rD rA d) = dForm 43 rD rA d := rfl
@[simp] theorem encode_lhax (rD : Reg) (rA : Reg) (rB : Reg) :
    encode (.lhax rD rA rB) = xForm 31 rD rA rB 343 false := rfl
@[simp] theorem encode_lhaux (rD : Reg) (rA : Reg) (rB : Reg) :
    encode (.lhaux rD rA rB) = xForm 31 rD rA rB 375 false := rfl
@[simp] theorem encode_sth (rS : Reg) (rA : Reg) (d : BitVec 16) :
    encode (.sth rS rA d) = dForm 44 rS rA d := rfl
@[simp] theorem encode_sthu (rS : Reg) (rA : Reg) (d : BitVec 16) :
    encode (.sthu rS rA d) = dForm 45 rS rA d := rfl
@[simp] theorem encode_sthx (rS : Reg) (rA : Reg) (rB : Reg) :
    encode (.sthx rS rA rB) = xForm 31 rS rA rB 407 false := rfl
@[simp] theorem encode_sthux (rS : Reg) (rA : Reg) (rB : Reg) :
    encode (.sthux rS rA rB) = xForm 31 rS rA rB 439 false := rfl
@[simp] theorem encode_lhbrx (rD : Reg) (rA : Reg) (rB : Reg) :
    encode (.lhbrx rD rA rB) = xForm 31 rD rA rB 790 false := rfl
@[simp] theorem encode_sthbrx (rS : Reg) (rA : Reg) (rB : Reg) :
    encode (.sthbrx rS rA rB) = xForm 31 rS rA rB 918 false := rfl
@[simp] theorem encode_lwz (rD : Reg) (rA : Reg) (d : BitVec 16) :
    encode (.lwz rD rA d) = dForm 32 rD rA d := rfl
@[simp] theorem encode_lwzu (rD : Reg) (rA : Reg) (d : BitVec 16) :
    encode (.lwzu rD rA d) = dForm 33 rD rA d := rfl
@[simp] theorem encode_lwzx (rD : Reg) (rA : Reg) (rB : Reg) :
    encode (.lwzx rD rA rB) = xForm 31 rD rA rB 23 false := rfl
@[simp] theorem encode_lwzux (rD : Reg) (rA : Reg) (rB : Reg) :
    encode (.lwzux rD rA rB) = xForm 31 rD rA rB 55 false := rfl
@[simp] theorem encode_stw (rS : Reg) (rA : Reg) (d : BitVec 16) :
    encode (.stw rS rA d) = dForm 36 rS rA d := rfl
@[simp] theorem encode_stwu (rS : Reg) (rA : Reg) (d : BitVec 16) :
    encode (.stwu rS rA d) = dForm 37 rS rA d := rfl
@[simp] theorem encode_stwx (rS : Reg) (rA : Reg) (rB : Reg) :
    encode (.stwx rS rA rB) = xForm 31 rS rA rB 151 false := rfl
@[simp] theorem encode_stwux (rS : Reg) (rA : Reg) (rB : Reg) :
    encode (.stwux rS rA rB) = xForm 31 rS rA rB 183 false := rfl
@[simp] theorem encode_lwbrx (rD : Reg) (rA : Reg) (rB : Reg) :
    encode (.lwbrx rD rA rB) = xForm 31 rD rA rB 534 false := rfl
@[simp] theorem encode_stwbrx (rS : Reg) (rA : Reg) (rB : Reg) :
    encode (.stwbrx rS rA rB) = xForm 31 rS rA rB 662 false := rfl
@[simp] theorem encode_lmw (rD : Reg) (rA : Reg) (d : BitVec 16) :
    encode (.lmw rD rA d) = dForm 46 rD rA d := rfl
@[simp] theorem encode_stmw (rS : Reg) (rA : Reg) (d : BitVec 16) :
    encode (.stmw rS rA d) = dForm 47 rS rA d := rfl
@[simp] theorem encode_lswi (rD : Reg) (rA : Reg) (nb : BitVec 5) :
    encode (.lswi rD rA nb) = xForm 31 rD rA nb 597 false := rfl
@[simp] theorem encode_lswx (rD : Reg) (rA : Reg) (rB : Reg) :
    encode (.lswx rD rA rB) = xForm 31 rD rA rB 533 false := rfl
@[simp] theorem encode_stswi (rS : Reg) (rA : Reg) (nb : BitVec 5) :
    encode (.stswi rS rA nb) = xForm 31 rS rA nb 725 false := rfl
@[simp] theorem encode_stswx (rS : Reg) (rA : Reg) (rB : Reg) :
    encode (.stswx rS rA rB) = xForm 31 rS rA rB 661 false := rfl
@[simp] theorem encode_fadd (frD : FReg) (frA : FReg) (frB : FReg) (rc : Bool) :
    encode (.fadd frD frA frB rc) = aForm 63 frD frA frB 0 21 rc := rfl
@[simp] theorem encode_fadds (frD : FReg) (frA : FReg) (frB : FReg) (rc : Bool) :
    encode (.fadds frD frA frB rc) = aForm 59 frD frA frB 0 21 rc := rfl
@[simp] theorem encode_fsub (frD : FReg) (frA : FReg) (frB : FReg) (rc : Bool) :
    encode (.fsub frD frA frB rc) = aForm 63 frD frA frB 0 20 rc := rfl
@[simp] theorem encode_fsubs (frD : FReg) (frA : FReg) (frB : FReg) (rc : Bool) :
    encode (.fsubs frD frA frB rc) = aForm 59 frD frA frB 0 20 rc := rfl
@[simp] theorem encode_fmul (frD : FReg) (frA : FReg) (frC : FReg) (rc : Bool) :
    encode (.fmul frD frA frC rc) = aForm 63 frD frA 0 frC 25 rc := rfl
@[simp] theorem encode_fmuls (frD : FReg) (frA : FReg) (frC : FReg) (rc : Bool) :
    encode (.fmuls frD frA frC rc) = aForm 59 frD frA 0 frC 25 rc := rfl
@[simp] theorem encode_fdiv (frD : FReg) (frA : FReg) (frB : FReg) (rc : Bool) :
    encode (.fdiv frD frA frB rc) = aForm 63 frD frA frB 0 18 rc := rfl
@[simp] theorem encode_fdivs (frD : FReg) (frA : FReg) (frB : FReg) (rc : Bool) :
    encode (.fdivs frD frA frB rc) = aForm 59 frD frA frB 0 18 rc := rfl
@[simp] theorem encode_fmadd (frD : FReg) (frA : FReg) (frB : FReg) (frC : FReg) (rc : Bool) :
    encode (.fmadd frD frA frB frC rc) = aForm 63 frD frA frB frC 29 rc := rfl
@[simp] theorem encode_fmadds (frD : FReg) (frA : FReg) (frB : FReg) (frC : FReg) (rc : Bool) :
    encode (.fmadds frD frA frB frC rc) = aForm 59 frD frA frB frC 29 rc := rfl
@[simp] theorem encode_fmsub (frD : FReg) (frA : FReg) (frB : FReg) (frC : FReg) (rc : Bool) :
    encode (.fmsub frD frA frB frC rc) = aForm 63 frD frA frB frC 28 rc := rfl
@[simp] theorem encode_fmsubs (frD : FReg) (frA : FReg) (frB : FReg) (frC : FReg) (rc : Bool) :
    encode (.fmsubs frD frA frB frC rc) = aForm 59 frD frA frB frC 28 rc := rfl
@[simp] theorem encode_fnmadd (frD : FReg) (frA : FReg) (frB : FReg) (frC : FReg) (rc : Bool) :
    encode (.fnmadd frD frA frB frC rc) = aForm 63 frD frA frB frC 31 rc := rfl
@[simp] theorem encode_fnmadds (frD : FReg) (frA : FReg) (frB : FReg) (frC : FReg) (rc : Bool) :
    encode (.fnmadds frD frA frB frC rc) = aForm 59 frD frA frB frC 31 rc := rfl
@[simp] theorem encode_fnmsub (frD : FReg) (frA : FReg) (frB : FReg) (frC : FReg) (rc : Bool) :
    encode (.fnmsub frD frA frB frC rc) = aForm 63 frD frA frB frC 30 rc := rfl
@[simp] theorem encode_fnmsubs (frD : FReg) (frA : FReg) (frB : FReg) (frC : FReg) (rc : Bool) :
    encode (.fnmsubs frD frA frB frC rc) = aForm 59 frD frA frB frC 30 rc := rfl
@[simp] theorem encode_fabs (frD : FReg) (frB : FReg) (rc : Bool) :
    encode (.fabs frD frB rc) = xForm 63 frD 0 frB 264 rc := rfl
@[simp] theorem encode_fnabs (frD : FReg) (frB : FReg) (rc : Bool) :
    encode (.fnabs frD frB rc) = xForm 63 frD 0 frB 136 rc := rfl
@[simp] theorem encode_fneg (frD : FReg) (frB : FReg) (rc : Bool) :
    encode (.fneg frD frB rc) = xForm 63 frD 0 frB 40 rc := rfl
@[simp] theorem encode_fres (frD : FReg) (frB : FReg) (rc : Bool) :
    encode (.fres frD frB rc) = aForm 59 frD 0 frB 0 24 rc := rfl
@[simp] theorem encode_frsqrte (frD : FReg) (frB : FReg) (rc : Bool) :
    encode (.frsqrte frD frB rc) = aForm 63 frD 0 frB 0 26 rc := rfl
@[simp] theorem encode_fsel (frD : FReg) (frA : FReg) (frB : FReg) (frC : FReg) (rc : Bool) :
    encode (.fsel frD frA frB frC rc) = aForm 63 frD frA frB frC 23 rc := rfl
@[simp] theorem encode_fsqrt (frD : FReg) (frB : FReg) (rc : Bool) :
    encode (.fsqrt frD frB rc) = aForm 63 frD 0 frB 0 22 rc := rfl
@[simp] theorem encode_fsqrts (frD : FReg) (frB : FReg) (rc : Bool) :
    encode (.fsqrts frD frB rc) = aForm 59 frD 0 frB 0 22 rc := rfl
@[simp] theorem encode_frsp (frD : FReg) (frB : FReg) (rc : Bool) :
    encode (.frsp frD frB rc) = xForm 63 frD 0 frB 12 rc := rfl
@[simp] theorem encode_fctiw (frD : FReg) (frB : FReg) (rc : Bool) :
    encode (.fctiw frD frB rc) = xForm 63 frD 0 frB 14 rc := rfl
@[simp] theorem encode_fctiwz (frD : FReg) (frB : FReg) (rc : Bool) :
    encode (.fctiwz frD frB rc) = xForm 63 frD 0 frB 15 rc := rfl
@[simp] theorem encode_fcmpo (crfD : CrField) (frA : FReg) (frB : FReg) :
    encode (.fcmpo crfD frA frB) = xForm 63 (crfD ++ 0#2) frA frB 32 false := rfl
@[simp] theorem encode_fcmpu (crfD : CrField) (frA : FReg) (frB : FReg) :
    encode (.fcmpu crfD frA frB) = xForm 63 (crfD ++ 0#2) frA frB 0 false := rfl
@[simp] theorem encode_fmr (frD : FReg) (frB : FReg) (rc : Bool) :
    encode (.fmr frD frB rc) = xForm 63 frD 0 frB 72 rc := rfl
@[simp] theorem encode_lfd (frD : FReg) (rA : Reg) (d : BitVec 16) :
    encode (.lfd frD rA d) = dForm 50 frD rA d := rfl
@[simp] theorem encode_lfdu (frD : FReg) (rA : Reg) (d : BitVec 16) :
    encode (.lfdu frD rA d) = dForm 51 frD rA d := rfl
@[simp] theorem encode_lfdx (frD : FReg) (rA : Reg) (rB : Reg) :
    encode (.lfdx frD rA rB) = xForm 31 frD rA rB 599 false := rfl
@[simp] theorem encode_lfdux (frD : FReg) (rA : Reg) (rB : Reg) :
    encode (.lfdux frD rA rB) = xForm 31 frD rA rB 631 false := rfl
@[simp] theorem encode_lfs (frD : FReg) (rA : Reg) (d : BitVec 16) :
    encode (.lfs frD rA d) = dForm 48 frD rA d := rfl
@[simp] theorem encode_lfsu (frD : FReg) (rA : Reg) (d : BitVec 16) :
    encode (.lfsu frD rA d) = dForm 49 frD rA d := rfl
@[simp] theorem encode_lfsx (frD : FReg) (rA : Reg) (rB : Reg) :
    encode (.lfsx frD rA rB) = xForm 31 frD rA rB 535 false := rfl
@[simp] theorem encode_lfsux (frD : FReg) (rA : Reg) (rB : Reg) :
    encode (.lfsux frD rA rB) = xForm 31 frD rA rB 567 false := rfl
@[simp] theorem encode_stfd (frS : FReg) (rA : Reg) (d : BitVec 16) :
    encode (.stfd frS rA d) = dForm 54 frS rA d := rfl
@[simp] theorem encode_stfdu (frS : FReg) (rA : Reg) (d : BitVec 16) :
    encode (.stfdu frS rA d) = dForm 55 frS rA d := rfl
@[simp] theorem encode_stfdx (frS : FReg) (rA : Reg) (rB : Reg) :
    encode (.stfdx frS rA rB) = xForm 31 frS rA rB 727 false := rfl
@[simp] theorem encode_stfdux (frS : FReg) (rA : Reg) (rB : Reg) :
    encode (.stfdux frS rA rB) = xForm 31 frS rA rB 759 false := rfl
@[simp] theorem encode_stfs (frS : FReg) (rA : Reg) (d : BitVec 16) :
    encode (.stfs frS rA d) = dForm 52 frS rA d := rfl
@[simp] theorem encode_stfsu (frS : FReg) (rA : Reg) (d : BitVec 16) :
    encode (.stfsu frS rA d) = dForm 53 frS rA d := rfl
@[simp] theorem encode_stfsx (frS : FReg) (rA : Reg) (rB : Reg) :
    encode (.stfsx frS rA rB) = xForm 31 frS rA rB 663 false := rfl
@[simp] theorem encode_stfsux (frS : FReg) (rA : Reg) (rB : Reg) :
    encode (.stfsux frS rA rB) = xForm 31 frS rA rB 695 false := rfl
@[simp] theorem encode_stfiwx (frS : FReg) (rA : Reg) (rB : Reg) :
    encode (.stfiwx frS rA rB) = xForm 31 frS rA rB 983 false := rfl
@[simp] theorem encode_dcbf (rA : Reg) (rB : Reg) :
    encode (.dcbf rA rB) = xForm 31 0 rA rB 86 false := rfl
@[simp] theorem encode_dcbi (rA : Reg) (rB : Reg) :
    encode (.dcbi rA rB) = xForm 31 0 rA rB 470 false := rfl
@[simp] theorem encode_dcbst (rA : Reg) (rB : Reg) :
    encode (.dcbst rA rB) = xForm 31 0 rA rB 54 false := rfl
@[simp] theorem encode_dcbt (rA : Reg) (rB : Reg) :
    encode (.dcbt rA rB) = xForm 31 0 rA rB 278 false := rfl
@[simp] theorem encode_dcbtst (rA : Reg) (rB : Reg) :
    encode (.dcbtst rA rB) = xForm 31 0 rA rB 246 false := rfl
@[simp] theorem encode_dcbz (rA : Reg) (rB : Reg) :
    encode (.dcbz rA rB) = xForm 31 0 rA rB 1014 false := rfl
@[simp] theorem encode_icbi (rA : Reg) (rB : Reg) :
    encode (.icbi rA rB) = xForm 31 0 rA rB 982 false := rfl
@[simp] theorem encode_mtspr (rS : Reg) (spr : BitVec 10) :
    encode (.mtspr rS spr) = xfxForm 31 rS (swapHalves spr) 467 := rfl
@[simp] theorem encode_mfspr (rD : Reg) (spr : BitVec 10) :
    encode (.mfspr rD spr) = xfxForm 31 rD (swapHalves spr) 339 := rfl
@[simp] theorem encode_mtcrf (rS : Reg) (crm : BitVec 8) :
    encode (.mtcrf rS crm) = xfxForm 31 rS (0#1 ++ crm ++ 0#1) 144 := rfl
@[simp] theorem encode_mftb (rD : Reg) (tbr : BitVec 10) :
    encode (.mftb rD tbr) = xfxForm 31 rD (swapHalves tbr) 371 := rfl
@[simp] theorem encode_mfcr (rD : Reg) :
    encode (.mfcr rD) = xForm 31 rD 0 0 19 false := rfl
@[simp] theorem encode_mtmsr (rS : Reg) :
    encode (.mtmsr rS) = xForm 31 rS 0 0 146 false := rfl
@[simp] theorem encode_mfmsr (rD : Reg) :
    encode (.mfmsr rD) = xForm 31 rD 0 0 83 false := rfl
@[simp] theorem encode_mcrfs (crfD : CrField) (crfS : CrField) :
    encode (.mcrfs crfD crfS) = xForm 63 (crfD ++ 0#2) (crfS ++ 0#2) 0 64 false := rfl
@[simp] theorem encode_mffs (frD : FReg) (rc : Bool) :
    encode (.mffs frD rc) = xForm 63 frD 0 0 583 rc := rfl
@[simp] theorem encode_mtfsb0 (crbD : CrBit) (rc : Bool) :
    encode (.mtfsb0 crbD rc) = xForm 63 crbD 0 0 70 rc := rfl
@[simp] theorem encode_mtfsb1 (crbD : CrBit) (rc : Bool) :
    encode (.mtfsb1 crbD rc) = xForm 63 crbD 0 0 38 rc := rfl
@[simp] theorem encode_mtfsf (fm : BitVec 8) (frB : FReg) (rc : Bool) :
    encode (.mtfsf fm frB rc) = xflForm 63 fm frB 711 rc := rfl
@[simp] theorem encode_mtfsfi (crfD : CrField) (imm : BitVec 4) (rc : Bool) :
    encode (.mtfsfi crfD imm rc) = xForm 63 (crfD ++ 0#2) 0 (imm ++ 0#1) 134 rc := rfl
@[simp] theorem encode_crand (crbD : CrBit) (crbA : CrBit) (crbB : CrBit) :
    encode (.crand crbD crbA crbB) = xForm 19 crbD crbA crbB 257 false := rfl
@[simp] theorem encode_crandc (crbD : CrBit) (crbA : CrBit) (crbB : CrBit) :
    encode (.crandc crbD crbA crbB) = xForm 19 crbD crbA crbB 129 false := rfl
@[simp] theorem encode_creqv (crbD : CrBit) (crbA : CrBit) (crbB : CrBit) :
    encode (.creqv crbD crbA crbB) = xForm 19 crbD crbA crbB 289 false := rfl
@[simp] theorem encode_crnand (crbD : CrBit) (crbA : CrBit) (crbB : CrBit) :
    encode (.crnand crbD crbA crbB) = xForm 19 crbD crbA crbB 225 false := rfl
@[simp] theorem encode_crnor (crbD : CrBit) (crbA : CrBit) (crbB : CrBit) :
    encode (.crnor crbD crbA crbB) = xForm 19 crbD crbA crbB 33 false := rfl
@[simp] theorem encode_cror (crbD : CrBit) (crbA : CrBit) (crbB : CrBit) :
    encode (.cror crbD crbA crbB) = xForm 19 crbD crbA crbB 449 false := rfl
@[simp] theorem encode_crorc (crbD : CrBit) (crbA : CrBit) (crbB : CrBit) :
    encode (.crorc crbD crbA crbB) = xForm 19 crbD crbA crbB 417 false := rfl
@[simp] theorem encode_crxor (crbD : CrBit) (crbA : CrBit) (crbB : CrBit) :
    encode (.crxor crbD crbA crbB) = xForm 19 crbD crbA crbB 193 false := rfl
@[simp] theorem encode_mcrf (crfD : CrField) (crfS : CrField) :
    encode (.mcrf crfD crfS) = xForm 19 (crfD ++ 0#2) (crfS ++ 0#2) 0 0 false := rfl
@[simp] theorem encode_sync :
    encode .sync = xForm 31 0 0 0 598 false := rfl
@[simp] theorem encode_isync :
    encode .isync = xForm 19 0 0 0 150 false := rfl
@[simp] theorem encode_eieio :
    encode .eieio = xForm 31 0 0 0 854 false := rfl
@[simp] theorem encode_tlbie (rB : Reg) :
    encode (.tlbie rB) = xForm 31 0 0 rB 306 false := rfl
@[simp] theorem encode_tlbia :
    encode .tlbia = xForm 31 0 0 0 370 false := rfl
@[simp] theorem encode_tlbsync :
    encode .tlbsync = xForm 31 0 0 0 566 false := rfl
@[simp] theorem encode_mtsr (rS : Reg) (sr : BitVec 4) :
    encode (.mtsr rS sr) = xForm 31 rS (0#1 ++ sr) 0 210 false := rfl
@[simp] theorem encode_mfsr (rD : Reg) (sr : BitVec 4) :
    encode (.mfsr rD sr) = xForm 31 rD (0#1 ++ sr) 0 595 false := rfl
@[simp] theorem encode_mtsrin (rS : Reg) (rB : Reg) :
    encode (.mtsrin rS rB) = xForm 31 rS 0 rB 242 false := rfl
@[simp] theorem encode_mfsrin (rD : Reg) (rB : Reg) :
    encode (.mfsrin rD rB) = xForm 31 rD 0 rB 659 false := rfl
@[simp] theorem encode_sc :
    encode .sc = scForm := rfl
@[simp] theorem encode_rfi :
    encode .rfi = xForm 19 0 0 0 50 false := rfl
@[simp] theorem encode_tw (cond : BitVec 5) (rA : Reg) (rB : Reg) :
    encode (.tw cond rA rB) = xForm 31 cond rA rB 4 false := rfl
@[simp] theorem encode_twi (cond : BitVec 5) (rA : Reg) (simm : BitVec 16) :
    encode (.twi cond rA simm) = dForm 3 cond rA simm := rfl
@[simp] theorem encode_psq_l (frD : FReg) (rA : Reg) (single : Bool) (gqr : BitVec 3) (d12 : BitVec 12) :
    encode (.psq_l frD rA single gqr d12) = dqForm 56 frD rA single gqr d12 := rfl
@[simp] theorem encode_psq_lu (frD : FReg) (rA : Reg) (single : Bool) (gqr : BitVec 3) (d12 : BitVec 12) :
    encode (.psq_lu frD rA single gqr d12) = dqForm 57 frD rA single gqr d12 := rfl
@[simp] theorem encode_psq_lx (frD : FReg) (rA : Reg) (rB : Reg) (single : Bool) (gqr : BitVec 3) :
    encode (.psq_lx frD rA rB single gqr) = xqForm 4 frD rA rB single gqr 6 := rfl
@[simp] theorem encode_psq_lux (frD : FReg) (rA : Reg) (rB : Reg) (single : Bool) (gqr : BitVec 3) :
    encode (.psq_lux frD rA rB single gqr) = xqForm 4 frD rA rB single gqr 38 := rfl
@[simp] theorem encode_psq_st (frS : FReg) (rA : Reg) (single : Bool) (gqr : BitVec 3) (d12 : BitVec 12) :
    encode (.psq_st frS rA single gqr d12) = dqForm 60 frS rA single gqr d12 := rfl
@[simp] theorem encode_psq_stu (frS : FReg) (rA : Reg) (single : Bool) (gqr : BitVec 3) (d12 : BitVec 12) :
    encode (.psq_stu frS rA single gqr d12) = dqForm 61 frS rA single gqr d12 := rfl
@[simp] theorem encode_psq_stx (frS : FReg) (rA : Reg) (rB : Reg) (single : Bool) (gqr : BitVec 3) :
    encode (.psq_stx frS rA rB single gqr) = xqForm 4 frS rA rB single gqr 7 := rfl
@[simp] theorem encode_psq_stux (frS : FReg) (rA : Reg) (rB : Reg) (single : Bool) (gqr : BitVec 3) :
    encode (.psq_stux frS rA rB single gqr) = xqForm 4 frS rA rB single gqr 39 := rfl
@[simp] theorem encode_ps_add (frD : FReg) (frA : FReg) (frB : FReg) (rc : Bool) :
    encode (.ps_add frD frA frB rc) = aForm 4 frD frA frB 0 21 rc := rfl
@[simp] theorem encode_ps_sub (frD : FReg) (frA : FReg) (frB : FReg) (rc : Bool) :
    encode (.ps_sub frD frA frB rc) = aForm 4 frD frA frB 0 20 rc := rfl
@[simp] theorem encode_ps_mul (frD : FReg) (frA : FReg) (frC : FReg) (rc : Bool) :
    encode (.ps_mul frD frA frC rc) = aForm 4 frD frA 0 frC 25 rc := rfl
@[simp] theorem encode_ps_div (frD : FReg) (frA : FReg) (frB : FReg) (rc : Bool) :
    encode (.ps_div frD frA frB rc) = aForm 4 frD frA frB 0 18 rc := rfl
@[simp] theorem encode_ps_abs (frD : FReg) (frB : FReg) (rc : Bool) :
    encode (.ps_abs frD frB rc) = xForm 4 frD 0 frB 264 rc := rfl
@[simp] theorem encode_ps_neg (frD : FReg) (frB : FReg) (rc : Bool) :
    encode (.ps_neg frD frB rc) = xForm 4 frD 0 frB 40 rc := rfl
@[simp] theorem encode_ps_nabs (frD : FReg) (frB : FReg) (rc : Bool) :
    encode (.ps_nabs frD frB rc) = xForm 4 frD 0 frB 136 rc := rfl
@[simp] theorem encode_ps_madd (frD : FReg) (frA : FReg) (frB : FReg) (frC : FReg) (rc : Bool) :
    encode (.ps_madd frD frA frB frC rc) = aForm 4 frD frA frB frC 29 rc := rfl
@[simp] theorem encode_ps_madds0 (frD : FReg) (frA : FReg) (frB : FReg) (frC : FReg) (rc : Bool) :
    encode (.ps_madds0 frD frA frB frC rc) = aForm 4 frD frA frB frC 14 rc := rfl
@[simp] theorem encode_ps_madds1 (frD : FReg) (frA : FReg) (frB : FReg) (frC : FReg) (rc : Bool) :
    encode (.ps_madds1 frD frA frB frC rc) = aForm 4 frD frA frB frC 15 rc := rfl
@[simp] theorem encode_ps_msub (frD : FReg) (frA : FReg) (frB : FReg) (frC : FReg) (rc : Bool) :
    encode (.ps_msub frD frA frB frC rc) = aForm 4 frD frA frB frC 28 rc := rfl
@[simp] theorem encode_ps_nmadd (frD : FReg) (frA : FReg) (frB : FReg) (frC : FReg) (rc : Bool) :
    encode (.ps_nmadd frD frA frB frC rc) = aForm 4 frD frA frB frC 31 rc := rfl
@[simp] theorem encode_ps_nmsub (frD : FReg) (frA : FReg) (frB : FReg) (frC : FReg) (rc : Bool) :
    encode (.ps_nmsub frD frA frB frC rc) = aForm 4 frD frA frB frC 30 rc := rfl
@[simp] theorem encode_ps_mr (frD : FReg) (frB : FReg) (rc : Bool) :
    encode (.ps_mr frD frB rc) = xForm 4 frD 0 frB 72 rc := rfl
@[simp] theorem encode_ps_res (frD : FReg) (frB : FReg) (rc : Bool) :
    encode (.ps_res frD frB rc) = aForm 4 frD 0 frB 0 24 rc := rfl
@[simp] theorem encode_ps_rsqrte (frD : FReg) (frB : FReg) (rc : Bool) :
    encode (.ps_rsqrte frD frB rc) = aForm 4 frD 0 frB 0 26 rc := rfl
@[simp] theorem encode_ps_sel (frD : FReg) (frA : FReg) (frB : FReg) (frC : FReg) (rc : Bool) :
    encode (.ps_sel frD frA frB frC rc) = aForm 4 frD frA frB frC 23 rc := rfl
@[simp] theorem encode_ps_sum0 (frD : FReg) (frA : FReg) (frB : FReg) (frC : FReg) (rc : Bool) :
    encode (.ps_sum0 frD frA frB frC rc) = aForm 4 frD frA frB frC 10 rc := rfl
@[simp] theorem encode_ps_sum1 (frD : FReg) (frA : FReg) (frB : FReg) (frC : FReg) (rc : Bool) :
    encode (.ps_sum1 frD frA frB frC rc) = aForm 4 frD frA frB frC 11 rc := rfl
@[simp] theorem encode_ps_muls0 (frD : FReg) (frA : FReg) (frC : FReg) (rc : Bool) :
    encode (.ps_muls0 frD frA frC rc) = aForm 4 frD frA 0 frC 12 rc := rfl
@[simp] theorem encode_ps_muls1 (frD : FReg) (frA : FReg) (frC : FReg) (rc : Bool) :
    encode (.ps_muls1 frD frA frC rc) = aForm 4 frD frA 0 frC 13 rc := rfl
@[simp] theorem encode_ps_merge00 (frD : FReg) (frA : FReg) (frB : FReg) (rc : Bool) :
    encode (.ps_merge00 frD frA frB rc) = xForm 4 frD frA frB 528 rc := rfl
@[simp] theorem encode_ps_merge01 (frD : FReg) (frA : FReg) (frB : FReg) (rc : Bool) :
    encode (.ps_merge01 frD frA frB rc) = xForm 4 frD frA frB 560 rc := rfl
@[simp] theorem encode_ps_merge10 (frD : FReg) (frA : FReg) (frB : FReg) (rc : Bool) :
    encode (.ps_merge10 frD frA frB rc) = xForm 4 frD frA frB 592 rc := rfl
@[simp] theorem encode_ps_merge11 (frD : FReg) (frA : FReg) (frB : FReg) (rc : Bool) :
    encode (.ps_merge11 frD frA frB rc) = xForm 4 frD frA frB 624 rc := rfl
@[simp] theorem encode_ps_cmpu0 (crfD : CrField) (frA : FReg) (frB : FReg) :
    encode (.ps_cmpu0 crfD frA frB) = xForm 4 (crfD ++ 0#2) frA frB 0 false := rfl
@[simp] theorem encode_ps_cmpo0 (crfD : CrField) (frA : FReg) (frB : FReg) :
    encode (.ps_cmpo0 crfD frA frB) = xForm 4 (crfD ++ 0#2) frA frB 32 false := rfl
@[simp] theorem encode_ps_cmpu1 (crfD : CrField) (frA : FReg) (frB : FReg) :
    encode (.ps_cmpu1 crfD frA frB) = xForm 4 (crfD ++ 0#2) frA frB 64 false := rfl
@[simp] theorem encode_ps_cmpo1 (crfD : CrField) (frA : FReg) (frB : FReg) :
    encode (.ps_cmpo1 crfD frA frB) = xForm 4 (crfD ++ 0#2) frA frB 96 false := rfl
@[simp] theorem encode_extsb (rS : Reg) (rA : Reg) (rc : Bool) :
    encode (.extsb rS rA rc) = xForm 31 rS rA 0 954 rc := rfl
@[simp] theorem encode_extsh (rS : Reg) (rA : Reg) (rc : Bool) :
    encode (.extsh rS rA rc) = xForm 31 rS rA 0 922 rc := rfl
@[simp] theorem encode_lwarx (rD : Reg) (rA : Reg) (rB : Reg) :
    encode (.lwarx rD rA rB) = xForm 31 rD rA rB 20 false := rfl
@[simp] theorem encode_stwcx_rc (rS : Reg) (rA : Reg) (rB : Reg) :
    encode (.stwcx_rc rS rA rB) = xForm 31 rS rA rB 150 true := rfl
@[simp] theorem encode_cntlzw (rS : Reg) (rA : Reg) (rc : Bool) :
    encode (.cntlzw rS rA rc) = xForm 31 rS rA 0 26 rc := rfl
@[simp] theorem encode_eciwx (rD : Reg) (rA : Reg) (rB : Reg) :
    encode (.eciwx rD rA rB) = xForm 31 rD rA rB 310 false := rfl
@[simp] theorem encode_ecowx (rS : Reg) (rA : Reg) (rB : Reg) :
    encode (.ecowx rS rA rB) = xForm 31 rS rA rB 438 false := rfl
@[simp] theorem encode_mcrxr (crfD : CrField) :
    encode (.mcrxr crfD) = xForm 31 (crfD ++ 0#2) 0 0 512 false := rfl
@[simp] theorem encode_dcbz_l (rA : Reg) (rB : Reg) :
    encode (.dcbz_l rA rB) = xForm 4 0 rA rB 1014 false := rfl

end Sys2Proof
end

