-- ==== Sys2Proof/Laws/Dispatch.lean ====
section
/-! SUPPORT. The meaning `exec` gives each instruction. -/

namespace Sys2Proof.Machine

@[simp] theorem exec_add (rD : Reg) (rA : Reg) (rB : Reg) (oe : Bool) (rc : Bool) (s : State) :
    exec (.add rD rA rB oe rc) s = execAdd rD rA rB oe rc s := rfl
@[simp] theorem exec_addc (rD : Reg) (rA : Reg) (rB : Reg) (oe : Bool) (rc : Bool) (s : State) :
    exec (.addc rD rA rB oe rc) s = execAddc rD rA rB oe rc s := rfl
@[simp] theorem exec_adde (rD : Reg) (rA : Reg) (rB : Reg) (oe : Bool) (rc : Bool) (s : State) :
    exec (.adde rD rA rB oe rc) s = execAdde rD rA rB oe rc s := rfl
@[simp] theorem exec_addi (rD : Reg) (rA : Reg) (simm : BitVec 16) (s : State) :
    exec (.addi rD rA simm) s = execAddi rD rA simm s := rfl
@[simp] theorem exec_addic (rD : Reg) (rA : Reg) (simm : BitVec 16) (s : State) :
    exec (.addic rD rA simm) s = execAddic rD rA simm s := rfl
@[simp] theorem exec_addic_rc (rD : Reg) (rA : Reg) (simm : BitVec 16) (s : State) :
    exec (.addic_rc rD rA simm) s = execAddicRc rD rA simm s := rfl
@[simp] theorem exec_addis (rD : Reg) (rA : Reg) (simm : BitVec 16) (s : State) :
    exec (.addis rD rA simm) s = execAddis rD rA simm s := rfl
@[simp] theorem exec_addme (rD : Reg) (rA : Reg) (oe : Bool) (rc : Bool) (s : State) :
    exec (.addme rD rA oe rc) s = execAddme rD rA oe rc s := rfl
@[simp] theorem exec_addze (rD : Reg) (rA : Reg) (oe : Bool) (rc : Bool) (s : State) :
    exec (.addze rD rA oe rc) s = execAddze rD rA oe rc s := rfl
@[simp] theorem exec_subf (rD : Reg) (rA : Reg) (rB : Reg) (oe : Bool) (rc : Bool) (s : State) :
    exec (.subf rD rA rB oe rc) s = execSubf rD rA rB oe rc s := rfl
@[simp] theorem exec_subfc (rD : Reg) (rA : Reg) (rB : Reg) (oe : Bool) (rc : Bool) (s : State) :
    exec (.subfc rD rA rB oe rc) s = execSubfc rD rA rB oe rc s := rfl
@[simp] theorem exec_subfe (rD : Reg) (rA : Reg) (rB : Reg) (oe : Bool) (rc : Bool) (s : State) :
    exec (.subfe rD rA rB oe rc) s = execSubfe rD rA rB oe rc s := rfl
@[simp] theorem exec_subfic (rD : Reg) (rA : Reg) (simm : BitVec 16) (s : State) :
    exec (.subfic rD rA simm) s = execSubfic rD rA simm s := rfl
@[simp] theorem exec_subfme (rD : Reg) (rA : Reg) (oe : Bool) (rc : Bool) (s : State) :
    exec (.subfme rD rA oe rc) s = execSubfme rD rA oe rc s := rfl
@[simp] theorem exec_subfze (rD : Reg) (rA : Reg) (oe : Bool) (rc : Bool) (s : State) :
    exec (.subfze rD rA oe rc) s = execSubfze rD rA oe rc s := rfl
@[simp] theorem exec_neg (rD : Reg) (rA : Reg) (oe : Bool) (rc : Bool) (s : State) :
    exec (.neg rD rA oe rc) s = execNeg rD rA oe rc s := rfl
@[simp] theorem exec_mulhw (rD : Reg) (rA : Reg) (rB : Reg) (rc : Bool) (s : State) :
    exec (.mulhw rD rA rB rc) s = execMulhw rD rA rB rc s := rfl
@[simp] theorem exec_mulhwu (rD : Reg) (rA : Reg) (rB : Reg) (rc : Bool) (s : State) :
    exec (.mulhwu rD rA rB rc) s = execMulhwu rD rA rB rc s := rfl
@[simp] theorem exec_mullw (rD : Reg) (rA : Reg) (rB : Reg) (oe : Bool) (rc : Bool) (s : State) :
    exec (.mullw rD rA rB oe rc) s = execMullw rD rA rB oe rc s := rfl
@[simp] theorem exec_mulli (rD : Reg) (rA : Reg) (simm : BitVec 16) (s : State) :
    exec (.mulli rD rA simm) s = execMulli rD rA simm s := rfl
@[simp] theorem exec_divw (rD : Reg) (rA : Reg) (rB : Reg) (oe : Bool) (rc : Bool) (s : State) :
    exec (.divw rD rA rB oe rc) s = execDivw rD rA rB oe rc s := rfl
@[simp] theorem exec_divwu (rD : Reg) (rA : Reg) (rB : Reg) (oe : Bool) (rc : Bool) (s : State) :
    exec (.divwu rD rA rB oe rc) s = execDivwu rD rA rB oe rc s := rfl
@[simp] theorem exec_and (rS : Reg) (rA : Reg) (rB : Reg) (rc : Bool) (s : State) :
    exec (.and rS rA rB rc) s = execAnd rS rA rB rc s := rfl
@[simp] theorem exec_andc (rS : Reg) (rA : Reg) (rB : Reg) (rc : Bool) (s : State) :
    exec (.andc rS rA rB rc) s = execAndc rS rA rB rc s := rfl
@[simp] theorem exec_andi_rc (rS : Reg) (rA : Reg) (uimm : BitVec 16) (s : State) :
    exec (.andi_rc rS rA uimm) s = execAndiRc rS rA uimm s := rfl
@[simp] theorem exec_andis_rc (rS : Reg) (rA : Reg) (uimm : BitVec 16) (s : State) :
    exec (.andis_rc rS rA uimm) s = execAndisRc rS rA uimm s := rfl
@[simp] theorem exec_or (rS : Reg) (rA : Reg) (rB : Reg) (rc : Bool) (s : State) :
    exec (.or rS rA rB rc) s = execOr rS rA rB rc s := rfl
@[simp] theorem exec_orc (rS : Reg) (rA : Reg) (rB : Reg) (rc : Bool) (s : State) :
    exec (.orc rS rA rB rc) s = execOrc rS rA rB rc s := rfl
@[simp] theorem exec_ori (rS : Reg) (rA : Reg) (uimm : BitVec 16) (s : State) :
    exec (.ori rS rA uimm) s = execOri rS rA uimm s := rfl
@[simp] theorem exec_oris (rS : Reg) (rA : Reg) (uimm : BitVec 16) (s : State) :
    exec (.oris rS rA uimm) s = execOris rS rA uimm s := rfl
@[simp] theorem exec_xor (rS : Reg) (rA : Reg) (rB : Reg) (rc : Bool) (s : State) :
    exec (.xor rS rA rB rc) s = execXor rS rA rB rc s := rfl
@[simp] theorem exec_xori (rS : Reg) (rA : Reg) (uimm : BitVec 16) (s : State) :
    exec (.xori rS rA uimm) s = execXori rS rA uimm s := rfl
@[simp] theorem exec_xoris (rS : Reg) (rA : Reg) (uimm : BitVec 16) (s : State) :
    exec (.xoris rS rA uimm) s = execXoris rS rA uimm s := rfl
@[simp] theorem exec_nand (rS : Reg) (rA : Reg) (rB : Reg) (rc : Bool) (s : State) :
    exec (.nand rS rA rB rc) s = execNand rS rA rB rc s := rfl
@[simp] theorem exec_nor (rS : Reg) (rA : Reg) (rB : Reg) (rc : Bool) (s : State) :
    exec (.nor rS rA rB rc) s = execNor rS rA rB rc s := rfl
@[simp] theorem exec_eqv (rS : Reg) (rA : Reg) (rB : Reg) (rc : Bool) (s : State) :
    exec (.eqv rS rA rB rc) s = execEqv rS rA rB rc s := rfl
@[simp] theorem exec_slw (rS : Reg) (rA : Reg) (rB : Reg) (rc : Bool) (s : State) :
    exec (.slw rS rA rB rc) s = execSlw rS rA rB rc s := rfl
@[simp] theorem exec_srw (rS : Reg) (rA : Reg) (rB : Reg) (rc : Bool) (s : State) :
    exec (.srw rS rA rB rc) s = execSrw rS rA rB rc s := rfl
@[simp] theorem exec_sraw (rS : Reg) (rA : Reg) (rB : Reg) (rc : Bool) (s : State) :
    exec (.sraw rS rA rB rc) s = execSraw rS rA rB rc s := rfl
@[simp] theorem exec_srawi (rS : Reg) (rA : Reg) (sh : BitVec 5) (rc : Bool) (s : State) :
    exec (.srawi rS rA sh rc) s = execSrawi rS rA sh rc s := rfl
@[simp] theorem exec_rlwimi (rS : Reg) (rA : Reg) (sh : BitVec 5) (mb : BitVec 5) (me : BitVec 5) (rc : Bool) (s : State) :
    exec (.rlwimi rS rA sh mb me rc) s = execRlwimi rS rA sh mb me rc s := rfl
@[simp] theorem exec_rlwinm (rS : Reg) (rA : Reg) (sh : BitVec 5) (mb : BitVec 5) (me : BitVec 5) (rc : Bool) (s : State) :
    exec (.rlwinm rS rA sh mb me rc) s = execRlwinm rS rA sh mb me rc s := rfl
@[simp] theorem exec_rlwnm (rS : Reg) (rA : Reg) (rB : Reg) (mb : BitVec 5) (me : BitVec 5) (rc : Bool) (s : State) :
    exec (.rlwnm rS rA rB mb me rc) s = execRlwnm rS rA rB mb me rc s := rfl
@[simp] theorem exec_cmp (crfD : CrField) (l : Bool) (rA : Reg) (rB : Reg) (s : State) :
    exec (.cmp crfD l rA rB) s = execCmp crfD l rA rB s := rfl
@[simp] theorem exec_cmpi (crfD : CrField) (l : Bool) (rA : Reg) (simm : BitVec 16) (s : State) :
    exec (.cmpi crfD l rA simm) s = execCmpi crfD l rA simm s := rfl
@[simp] theorem exec_cmpl (crfD : CrField) (l : Bool) (rA : Reg) (rB : Reg) (s : State) :
    exec (.cmpl crfD l rA rB) s = execCmpl crfD l rA rB s := rfl
@[simp] theorem exec_cmpli (crfD : CrField) (l : Bool) (rA : Reg) (uimm : BitVec 16) (s : State) :
    exec (.cmpli crfD l rA uimm) s = execCmpli crfD l rA uimm s := rfl
@[simp] theorem exec_b (li : BitVec 24) (aa : Bool) (lk : Bool) (s : State) :
    exec (.b li aa lk) s = execB li aa lk s := rfl
@[simp] theorem exec_bc (bo : BitVec 5) (bi : CrBit) (bd : BitVec 14) (aa : Bool) (lk : Bool) (s : State) :
    exec (.bc bo bi bd aa lk) s = execBc bo bi bd aa lk s := rfl
@[simp] theorem exec_bclr (bo : BitVec 5) (bi : CrBit) (lk : Bool) (s : State) :
    exec (.bclr bo bi lk) s = execBclr bo bi lk s := rfl
@[simp] theorem exec_bcctr (bo : BitVec 5) (bi : CrBit) (lk : Bool) (s : State) :
    exec (.bcctr bo bi lk) s = execBcctr bo bi lk s := rfl
@[simp] theorem exec_lbz (rD : Reg) (rA : Reg) (d : BitVec 16) (s : State) :
    exec (.lbz rD rA d) s = execLbz rD rA d s := rfl
@[simp] theorem exec_lbzu (rD : Reg) (rA : Reg) (d : BitVec 16) (s : State) :
    exec (.lbzu rD rA d) s = execLbzu rD rA d s := rfl
@[simp] theorem exec_lbzx (rD : Reg) (rA : Reg) (rB : Reg) (s : State) :
    exec (.lbzx rD rA rB) s = execLbzx rD rA rB s := rfl
@[simp] theorem exec_lbzux (rD : Reg) (rA : Reg) (rB : Reg) (s : State) :
    exec (.lbzux rD rA rB) s = execLbzux rD rA rB s := rfl
@[simp] theorem exec_stb (rS : Reg) (rA : Reg) (d : BitVec 16) (s : State) :
    exec (.stb rS rA d) s = execStb rS rA d s := rfl
@[simp] theorem exec_stbu (rS : Reg) (rA : Reg) (d : BitVec 16) (s : State) :
    exec (.stbu rS rA d) s = execStbu rS rA d s := rfl
@[simp] theorem exec_stbx (rS : Reg) (rA : Reg) (rB : Reg) (s : State) :
    exec (.stbx rS rA rB) s = execStbx rS rA rB s := rfl
@[simp] theorem exec_stbux (rS : Reg) (rA : Reg) (rB : Reg) (s : State) :
    exec (.stbux rS rA rB) s = execStbux rS rA rB s := rfl
@[simp] theorem exec_lhz (rD : Reg) (rA : Reg) (d : BitVec 16) (s : State) :
    exec (.lhz rD rA d) s = execLhz rD rA d s := rfl
@[simp] theorem exec_lhzu (rD : Reg) (rA : Reg) (d : BitVec 16) (s : State) :
    exec (.lhzu rD rA d) s = execLhzu rD rA d s := rfl
@[simp] theorem exec_lhzx (rD : Reg) (rA : Reg) (rB : Reg) (s : State) :
    exec (.lhzx rD rA rB) s = execLhzx rD rA rB s := rfl
@[simp] theorem exec_lhzux (rD : Reg) (rA : Reg) (rB : Reg) (s : State) :
    exec (.lhzux rD rA rB) s = execLhzux rD rA rB s := rfl
@[simp] theorem exec_lha (rD : Reg) (rA : Reg) (d : BitVec 16) (s : State) :
    exec (.lha rD rA d) s = execLha rD rA d s := rfl
@[simp] theorem exec_lhau (rD : Reg) (rA : Reg) (d : BitVec 16) (s : State) :
    exec (.lhau rD rA d) s = execLhau rD rA d s := rfl
@[simp] theorem exec_lhax (rD : Reg) (rA : Reg) (rB : Reg) (s : State) :
    exec (.lhax rD rA rB) s = execLhax rD rA rB s := rfl
@[simp] theorem exec_lhaux (rD : Reg) (rA : Reg) (rB : Reg) (s : State) :
    exec (.lhaux rD rA rB) s = execLhaux rD rA rB s := rfl
@[simp] theorem exec_sth (rS : Reg) (rA : Reg) (d : BitVec 16) (s : State) :
    exec (.sth rS rA d) s = execSth rS rA d s := rfl
@[simp] theorem exec_sthu (rS : Reg) (rA : Reg) (d : BitVec 16) (s : State) :
    exec (.sthu rS rA d) s = execSthu rS rA d s := rfl
@[simp] theorem exec_sthx (rS : Reg) (rA : Reg) (rB : Reg) (s : State) :
    exec (.sthx rS rA rB) s = execSthx rS rA rB s := rfl
@[simp] theorem exec_sthux (rS : Reg) (rA : Reg) (rB : Reg) (s : State) :
    exec (.sthux rS rA rB) s = execSthux rS rA rB s := rfl
@[simp] theorem exec_lhbrx (rD : Reg) (rA : Reg) (rB : Reg) (s : State) :
    exec (.lhbrx rD rA rB) s = execLhbrx rD rA rB s := rfl
@[simp] theorem exec_sthbrx (rS : Reg) (rA : Reg) (rB : Reg) (s : State) :
    exec (.sthbrx rS rA rB) s = execSthbrx rS rA rB s := rfl
@[simp] theorem exec_lwz (rD : Reg) (rA : Reg) (d : BitVec 16) (s : State) :
    exec (.lwz rD rA d) s = execLwz rD rA d s := rfl
@[simp] theorem exec_lwzu (rD : Reg) (rA : Reg) (d : BitVec 16) (s : State) :
    exec (.lwzu rD rA d) s = execLwzu rD rA d s := rfl
@[simp] theorem exec_lwzx (rD : Reg) (rA : Reg) (rB : Reg) (s : State) :
    exec (.lwzx rD rA rB) s = execLwzx rD rA rB s := rfl
@[simp] theorem exec_lwzux (rD : Reg) (rA : Reg) (rB : Reg) (s : State) :
    exec (.lwzux rD rA rB) s = execLwzux rD rA rB s := rfl
@[simp] theorem exec_stw (rS : Reg) (rA : Reg) (d : BitVec 16) (s : State) :
    exec (.stw rS rA d) s = execStw rS rA d s := rfl
@[simp] theorem exec_stwu (rS : Reg) (rA : Reg) (d : BitVec 16) (s : State) :
    exec (.stwu rS rA d) s = execStwu rS rA d s := rfl
@[simp] theorem exec_stwx (rS : Reg) (rA : Reg) (rB : Reg) (s : State) :
    exec (.stwx rS rA rB) s = execStwx rS rA rB s := rfl
@[simp] theorem exec_stwux (rS : Reg) (rA : Reg) (rB : Reg) (s : State) :
    exec (.stwux rS rA rB) s = execStwux rS rA rB s := rfl
@[simp] theorem exec_lwbrx (rD : Reg) (rA : Reg) (rB : Reg) (s : State) :
    exec (.lwbrx rD rA rB) s = execLwbrx rD rA rB s := rfl
@[simp] theorem exec_stwbrx (rS : Reg) (rA : Reg) (rB : Reg) (s : State) :
    exec (.stwbrx rS rA rB) s = execStwbrx rS rA rB s := rfl
@[simp] theorem exec_lmw (rD : Reg) (rA : Reg) (d : BitVec 16) (s : State) :
    exec (.lmw rD rA d) s = execLmw rD rA d s := rfl
@[simp] theorem exec_stmw (rS : Reg) (rA : Reg) (d : BitVec 16) (s : State) :
    exec (.stmw rS rA d) s = execStmw rS rA d s := rfl
@[simp] theorem exec_lswi (rD : Reg) (rA : Reg) (nb : BitVec 5) (s : State) :
    exec (.lswi rD rA nb) s = execLswi rD rA nb s := rfl
@[simp] theorem exec_lswx (rD : Reg) (rA : Reg) (rB : Reg) (s : State) :
    exec (.lswx rD rA rB) s = execLswx rD rA rB s := rfl
@[simp] theorem exec_stswi (rS : Reg) (rA : Reg) (nb : BitVec 5) (s : State) :
    exec (.stswi rS rA nb) s = execStswi rS rA nb s := rfl
@[simp] theorem exec_stswx (rS : Reg) (rA : Reg) (rB : Reg) (s : State) :
    exec (.stswx rS rA rB) s = execStswx rS rA rB s := rfl
@[simp] theorem exec_fadd (frD : FReg) (frA : FReg) (frB : FReg) (rc : Bool) (s : State) :
    exec (.fadd frD frA frB rc) s = execFadd frD frA frB rc s := rfl
@[simp] theorem exec_fadds (frD : FReg) (frA : FReg) (frB : FReg) (rc : Bool) (s : State) :
    exec (.fadds frD frA frB rc) s = execFadds frD frA frB rc s := rfl
@[simp] theorem exec_fsub (frD : FReg) (frA : FReg) (frB : FReg) (rc : Bool) (s : State) :
    exec (.fsub frD frA frB rc) s = execFsub frD frA frB rc s := rfl
@[simp] theorem exec_fsubs (frD : FReg) (frA : FReg) (frB : FReg) (rc : Bool) (s : State) :
    exec (.fsubs frD frA frB rc) s = execFsubs frD frA frB rc s := rfl
@[simp] theorem exec_fmul (frD : FReg) (frA : FReg) (frC : FReg) (rc : Bool) (s : State) :
    exec (.fmul frD frA frC rc) s = execFmul frD frA frC rc s := rfl
@[simp] theorem exec_fmuls (frD : FReg) (frA : FReg) (frC : FReg) (rc : Bool) (s : State) :
    exec (.fmuls frD frA frC rc) s = execFmuls frD frA frC rc s := rfl
@[simp] theorem exec_fdiv (frD : FReg) (frA : FReg) (frB : FReg) (rc : Bool) (s : State) :
    exec (.fdiv frD frA frB rc) s = execFdiv frD frA frB rc s := rfl
@[simp] theorem exec_fdivs (frD : FReg) (frA : FReg) (frB : FReg) (rc : Bool) (s : State) :
    exec (.fdivs frD frA frB rc) s = execFdivs frD frA frB rc s := rfl
@[simp] theorem exec_fmadd (frD : FReg) (frA : FReg) (frB : FReg) (frC : FReg) (rc : Bool) (s : State) :
    exec (.fmadd frD frA frB frC rc) s = execFmadd frD frA frB frC rc s := rfl
@[simp] theorem exec_fmadds (frD : FReg) (frA : FReg) (frB : FReg) (frC : FReg) (rc : Bool) (s : State) :
    exec (.fmadds frD frA frB frC rc) s = execFmadds frD frA frB frC rc s := rfl
@[simp] theorem exec_fmsub (frD : FReg) (frA : FReg) (frB : FReg) (frC : FReg) (rc : Bool) (s : State) :
    exec (.fmsub frD frA frB frC rc) s = execFmsub frD frA frB frC rc s := rfl
@[simp] theorem exec_fmsubs (frD : FReg) (frA : FReg) (frB : FReg) (frC : FReg) (rc : Bool) (s : State) :
    exec (.fmsubs frD frA frB frC rc) s = execFmsubs frD frA frB frC rc s := rfl
@[simp] theorem exec_fnmadd (frD : FReg) (frA : FReg) (frB : FReg) (frC : FReg) (rc : Bool) (s : State) :
    exec (.fnmadd frD frA frB frC rc) s = execFnmadd frD frA frB frC rc s := rfl
@[simp] theorem exec_fnmadds (frD : FReg) (frA : FReg) (frB : FReg) (frC : FReg) (rc : Bool) (s : State) :
    exec (.fnmadds frD frA frB frC rc) s = execFnmadds frD frA frB frC rc s := rfl
@[simp] theorem exec_fnmsub (frD : FReg) (frA : FReg) (frB : FReg) (frC : FReg) (rc : Bool) (s : State) :
    exec (.fnmsub frD frA frB frC rc) s = execFnmsub frD frA frB frC rc s := rfl
@[simp] theorem exec_fnmsubs (frD : FReg) (frA : FReg) (frB : FReg) (frC : FReg) (rc : Bool) (s : State) :
    exec (.fnmsubs frD frA frB frC rc) s = execFnmsubs frD frA frB frC rc s := rfl
@[simp] theorem exec_fabs (frD : FReg) (frB : FReg) (rc : Bool) (s : State) :
    exec (.fabs frD frB rc) s = execFabs frD frB rc s := rfl
@[simp] theorem exec_fnabs (frD : FReg) (frB : FReg) (rc : Bool) (s : State) :
    exec (.fnabs frD frB rc) s = execFnabs frD frB rc s := rfl
@[simp] theorem exec_fneg (frD : FReg) (frB : FReg) (rc : Bool) (s : State) :
    exec (.fneg frD frB rc) s = execFneg frD frB rc s := rfl
@[simp] theorem exec_fres (frD : FReg) (frB : FReg) (rc : Bool) (s : State) :
    exec (.fres frD frB rc) s = execFres frD frB rc s := rfl
@[simp] theorem exec_frsqrte (frD : FReg) (frB : FReg) (rc : Bool) (s : State) :
    exec (.frsqrte frD frB rc) s = execFrsqrte frD frB rc s := rfl
@[simp] theorem exec_fsel (frD : FReg) (frA : FReg) (frB : FReg) (frC : FReg) (rc : Bool) (s : State) :
    exec (.fsel frD frA frB frC rc) s = execFsel frD frA frB frC rc s := rfl
@[simp] theorem exec_fsqrt (frD : FReg) (frB : FReg) (rc : Bool) (s : State) :
    exec (.fsqrt frD frB rc) s = execFsqrt frD frB rc s := rfl
@[simp] theorem exec_fsqrts (frD : FReg) (frB : FReg) (rc : Bool) (s : State) :
    exec (.fsqrts frD frB rc) s = execFsqrts frD frB rc s := rfl
@[simp] theorem exec_frsp (frD : FReg) (frB : FReg) (rc : Bool) (s : State) :
    exec (.frsp frD frB rc) s = execFrsp frD frB rc s := rfl
@[simp] theorem exec_fctiw (frD : FReg) (frB : FReg) (rc : Bool) (s : State) :
    exec (.fctiw frD frB rc) s = execFctiw frD frB rc s := rfl
@[simp] theorem exec_fctiwz (frD : FReg) (frB : FReg) (rc : Bool) (s : State) :
    exec (.fctiwz frD frB rc) s = execFctiwz frD frB rc s := rfl
@[simp] theorem exec_fcmpo (crfD : CrField) (frA : FReg) (frB : FReg) (s : State) :
    exec (.fcmpo crfD frA frB) s = execFcmpo crfD frA frB s := rfl
@[simp] theorem exec_fcmpu (crfD : CrField) (frA : FReg) (frB : FReg) (s : State) :
    exec (.fcmpu crfD frA frB) s = execFcmpu crfD frA frB s := rfl
@[simp] theorem exec_fmr (frD : FReg) (frB : FReg) (rc : Bool) (s : State) :
    exec (.fmr frD frB rc) s = execFmr frD frB rc s := rfl
@[simp] theorem exec_lfd (frD : FReg) (rA : Reg) (d : BitVec 16) (s : State) :
    exec (.lfd frD rA d) s = execLfd frD rA d s := rfl
@[simp] theorem exec_lfdu (frD : FReg) (rA : Reg) (d : BitVec 16) (s : State) :
    exec (.lfdu frD rA d) s = execLfdu frD rA d s := rfl
@[simp] theorem exec_lfdx (frD : FReg) (rA : Reg) (rB : Reg) (s : State) :
    exec (.lfdx frD rA rB) s = execLfdx frD rA rB s := rfl
@[simp] theorem exec_lfdux (frD : FReg) (rA : Reg) (rB : Reg) (s : State) :
    exec (.lfdux frD rA rB) s = execLfdux frD rA rB s := rfl
@[simp] theorem exec_lfs (frD : FReg) (rA : Reg) (d : BitVec 16) (s : State) :
    exec (.lfs frD rA d) s = execLfs frD rA d s := rfl
@[simp] theorem exec_lfsu (frD : FReg) (rA : Reg) (d : BitVec 16) (s : State) :
    exec (.lfsu frD rA d) s = execLfsu frD rA d s := rfl
@[simp] theorem exec_lfsx (frD : FReg) (rA : Reg) (rB : Reg) (s : State) :
    exec (.lfsx frD rA rB) s = execLfsx frD rA rB s := rfl
@[simp] theorem exec_lfsux (frD : FReg) (rA : Reg) (rB : Reg) (s : State) :
    exec (.lfsux frD rA rB) s = execLfsux frD rA rB s := rfl
@[simp] theorem exec_stfd (frS : FReg) (rA : Reg) (d : BitVec 16) (s : State) :
    exec (.stfd frS rA d) s = execStfd frS rA d s := rfl
@[simp] theorem exec_stfdu (frS : FReg) (rA : Reg) (d : BitVec 16) (s : State) :
    exec (.stfdu frS rA d) s = execStfdu frS rA d s := rfl
@[simp] theorem exec_stfdx (frS : FReg) (rA : Reg) (rB : Reg) (s : State) :
    exec (.stfdx frS rA rB) s = execStfdx frS rA rB s := rfl
@[simp] theorem exec_stfdux (frS : FReg) (rA : Reg) (rB : Reg) (s : State) :
    exec (.stfdux frS rA rB) s = execStfdux frS rA rB s := rfl
@[simp] theorem exec_stfs (frS : FReg) (rA : Reg) (d : BitVec 16) (s : State) :
    exec (.stfs frS rA d) s = execStfs frS rA d s := rfl
@[simp] theorem exec_stfsu (frS : FReg) (rA : Reg) (d : BitVec 16) (s : State) :
    exec (.stfsu frS rA d) s = execStfsu frS rA d s := rfl
@[simp] theorem exec_stfsx (frS : FReg) (rA : Reg) (rB : Reg) (s : State) :
    exec (.stfsx frS rA rB) s = execStfsx frS rA rB s := rfl
@[simp] theorem exec_stfsux (frS : FReg) (rA : Reg) (rB : Reg) (s : State) :
    exec (.stfsux frS rA rB) s = execStfsux frS rA rB s := rfl
@[simp] theorem exec_stfiwx (frS : FReg) (rA : Reg) (rB : Reg) (s : State) :
    exec (.stfiwx frS rA rB) s = execStfiwx frS rA rB s := rfl
@[simp] theorem exec_dcbf (rA : Reg) (rB : Reg) (s : State) :
    exec (.dcbf rA rB) s = execDcbf rA rB s := rfl
@[simp] theorem exec_dcbi (rA : Reg) (rB : Reg) (s : State) :
    exec (.dcbi rA rB) s = execDcbi rA rB s := rfl
@[simp] theorem exec_dcbst (rA : Reg) (rB : Reg) (s : State) :
    exec (.dcbst rA rB) s = execDcbst rA rB s := rfl
@[simp] theorem exec_dcbt (rA : Reg) (rB : Reg) (s : State) :
    exec (.dcbt rA rB) s = execDcbt rA rB s := rfl
@[simp] theorem exec_dcbtst (rA : Reg) (rB : Reg) (s : State) :
    exec (.dcbtst rA rB) s = execDcbtst rA rB s := rfl
@[simp] theorem exec_dcbz (rA : Reg) (rB : Reg) (s : State) :
    exec (.dcbz rA rB) s = execDcbz rA rB s := rfl
@[simp] theorem exec_icbi (rA : Reg) (rB : Reg) (s : State) :
    exec (.icbi rA rB) s = execIcbi rA rB s := rfl
@[simp] theorem exec_mtspr (rS : Reg) (spr : BitVec 10) (s : State) :
    exec (.mtspr rS spr) s = execMtspr rS spr s := rfl
@[simp] theorem exec_mfspr (rD : Reg) (spr : BitVec 10) (s : State) :
    exec (.mfspr rD spr) s = execMfspr rD spr s := rfl
@[simp] theorem exec_mtcrf (rS : Reg) (crm : BitVec 8) (s : State) :
    exec (.mtcrf rS crm) s = execMtcrf rS crm s := rfl
@[simp] theorem exec_mftb (rD : Reg) (tbr : BitVec 10) (s : State) :
    exec (.mftb rD tbr) s = execMftb rD tbr s := rfl
@[simp] theorem exec_mfcr (rD : Reg) (s : State) :
    exec (.mfcr rD) s = execMfcr rD s := rfl
@[simp] theorem exec_mtmsr (rS : Reg) (s : State) :
    exec (.mtmsr rS) s = execMtmsr rS s := rfl
@[simp] theorem exec_mfmsr (rD : Reg) (s : State) :
    exec (.mfmsr rD) s = execMfmsr rD s := rfl
@[simp] theorem exec_mcrfs (crfD : CrField) (crfS : CrField) (s : State) :
    exec (.mcrfs crfD crfS) s = execMcrfs crfD crfS s := rfl
@[simp] theorem exec_mffs (frD : FReg) (rc : Bool) (s : State) :
    exec (.mffs frD rc) s = execMffs frD rc s := rfl
@[simp] theorem exec_mtfsb0 (crbD : CrBit) (rc : Bool) (s : State) :
    exec (.mtfsb0 crbD rc) s = execMtfsb0 crbD rc s := rfl
@[simp] theorem exec_mtfsb1 (crbD : CrBit) (rc : Bool) (s : State) :
    exec (.mtfsb1 crbD rc) s = execMtfsb1 crbD rc s := rfl
@[simp] theorem exec_mtfsf (fm : BitVec 8) (frB : FReg) (rc : Bool) (s : State) :
    exec (.mtfsf fm frB rc) s = execMtfsf fm frB rc s := rfl
@[simp] theorem exec_mtfsfi (crfD : CrField) (imm : BitVec 4) (rc : Bool) (s : State) :
    exec (.mtfsfi crfD imm rc) s = execMtfsfi crfD imm rc s := rfl
@[simp] theorem exec_crand (crbD : CrBit) (crbA : CrBit) (crbB : CrBit) (s : State) :
    exec (.crand crbD crbA crbB) s = execCrand crbD crbA crbB s := rfl
@[simp] theorem exec_crandc (crbD : CrBit) (crbA : CrBit) (crbB : CrBit) (s : State) :
    exec (.crandc crbD crbA crbB) s = execCrandc crbD crbA crbB s := rfl
@[simp] theorem exec_creqv (crbD : CrBit) (crbA : CrBit) (crbB : CrBit) (s : State) :
    exec (.creqv crbD crbA crbB) s = execCreqv crbD crbA crbB s := rfl
@[simp] theorem exec_crnand (crbD : CrBit) (crbA : CrBit) (crbB : CrBit) (s : State) :
    exec (.crnand crbD crbA crbB) s = execCrnand crbD crbA crbB s := rfl
@[simp] theorem exec_crnor (crbD : CrBit) (crbA : CrBit) (crbB : CrBit) (s : State) :
    exec (.crnor crbD crbA crbB) s = execCrnor crbD crbA crbB s := rfl
@[simp] theorem exec_cror (crbD : CrBit) (crbA : CrBit) (crbB : CrBit) (s : State) :
    exec (.cror crbD crbA crbB) s = execCror crbD crbA crbB s := rfl
@[simp] theorem exec_crorc (crbD : CrBit) (crbA : CrBit) (crbB : CrBit) (s : State) :
    exec (.crorc crbD crbA crbB) s = execCrorc crbD crbA crbB s := rfl
@[simp] theorem exec_crxor (crbD : CrBit) (crbA : CrBit) (crbB : CrBit) (s : State) :
    exec (.crxor crbD crbA crbB) s = execCrxor crbD crbA crbB s := rfl
@[simp] theorem exec_mcrf (crfD : CrField) (crfS : CrField) (s : State) :
    exec (.mcrf crfD crfS) s = execMcrf crfD crfS s := rfl
@[simp] theorem exec_sync (s : State) :
    exec .sync s = execSync s := rfl
@[simp] theorem exec_isync (s : State) :
    exec .isync s = execIsync s := rfl
@[simp] theorem exec_eieio (s : State) :
    exec .eieio s = execEieio s := rfl
@[simp] theorem exec_tlbie (rB : Reg) (s : State) :
    exec (.tlbie rB) s = execTlbie rB s := rfl
@[simp] theorem exec_tlbia (s : State) :
    exec .tlbia s = execTlbia s := rfl
@[simp] theorem exec_tlbsync (s : State) :
    exec .tlbsync s = execTlbsync s := rfl
@[simp] theorem exec_mtsr (rS : Reg) (sr : BitVec 4) (s : State) :
    exec (.mtsr rS sr) s = execMtsr rS sr s := rfl
@[simp] theorem exec_mfsr (rD : Reg) (sr : BitVec 4) (s : State) :
    exec (.mfsr rD sr) s = execMfsr rD sr s := rfl
@[simp] theorem exec_mtsrin (rS : Reg) (rB : Reg) (s : State) :
    exec (.mtsrin rS rB) s = execMtsrin rS rB s := rfl
@[simp] theorem exec_mfsrin (rD : Reg) (rB : Reg) (s : State) :
    exec (.mfsrin rD rB) s = execMfsrin rD rB s := rfl
@[simp] theorem exec_sc (s : State) :
    exec .sc s = execSc s := rfl
@[simp] theorem exec_rfi (s : State) :
    exec .rfi s = execRfi s := rfl
@[simp] theorem exec_tw (cond : BitVec 5) (rA : Reg) (rB : Reg) (s : State) :
    exec (.tw cond rA rB) s = execTw cond rA rB s := rfl
@[simp] theorem exec_twi (cond : BitVec 5) (rA : Reg) (simm : BitVec 16) (s : State) :
    exec (.twi cond rA simm) s = execTwi cond rA simm s := rfl
@[simp] theorem exec_psq_l (frD : FReg) (rA : Reg) (single : Bool) (gqr : BitVec 3) (d12 : BitVec 12) (s : State) :
    exec (.psq_l frD rA single gqr d12) s = execPsqL frD rA single gqr d12 s := rfl
@[simp] theorem exec_psq_lu (frD : FReg) (rA : Reg) (single : Bool) (gqr : BitVec 3) (d12 : BitVec 12) (s : State) :
    exec (.psq_lu frD rA single gqr d12) s = execPsqLu frD rA single gqr d12 s := rfl
@[simp] theorem exec_psq_lx (frD : FReg) (rA : Reg) (rB : Reg) (single : Bool) (gqr : BitVec 3) (s : State) :
    exec (.psq_lx frD rA rB single gqr) s = execPsqLx frD rA rB single gqr s := rfl
@[simp] theorem exec_psq_lux (frD : FReg) (rA : Reg) (rB : Reg) (single : Bool) (gqr : BitVec 3) (s : State) :
    exec (.psq_lux frD rA rB single gqr) s = execPsqLux frD rA rB single gqr s := rfl
@[simp] theorem exec_psq_st (frS : FReg) (rA : Reg) (single : Bool) (gqr : BitVec 3) (d12 : BitVec 12) (s : State) :
    exec (.psq_st frS rA single gqr d12) s = execPsqSt frS rA single gqr d12 s := rfl
@[simp] theorem exec_psq_stu (frS : FReg) (rA : Reg) (single : Bool) (gqr : BitVec 3) (d12 : BitVec 12) (s : State) :
    exec (.psq_stu frS rA single gqr d12) s = execPsqStu frS rA single gqr d12 s := rfl
@[simp] theorem exec_psq_stx (frS : FReg) (rA : Reg) (rB : Reg) (single : Bool) (gqr : BitVec 3) (s : State) :
    exec (.psq_stx frS rA rB single gqr) s = execPsqStx frS rA rB single gqr s := rfl
@[simp] theorem exec_psq_stux (frS : FReg) (rA : Reg) (rB : Reg) (single : Bool) (gqr : BitVec 3) (s : State) :
    exec (.psq_stux frS rA rB single gqr) s = execPsqStux frS rA rB single gqr s := rfl
@[simp] theorem exec_ps_add (frD : FReg) (frA : FReg) (frB : FReg) (rc : Bool) (s : State) :
    exec (.ps_add frD frA frB rc) s = execPsAdd frD frA frB rc s := rfl
@[simp] theorem exec_ps_sub (frD : FReg) (frA : FReg) (frB : FReg) (rc : Bool) (s : State) :
    exec (.ps_sub frD frA frB rc) s = execPsSub frD frA frB rc s := rfl
@[simp] theorem exec_ps_mul (frD : FReg) (frA : FReg) (frC : FReg) (rc : Bool) (s : State) :
    exec (.ps_mul frD frA frC rc) s = execPsMul frD frA frC rc s := rfl
@[simp] theorem exec_ps_div (frD : FReg) (frA : FReg) (frB : FReg) (rc : Bool) (s : State) :
    exec (.ps_div frD frA frB rc) s = execPsDiv frD frA frB rc s := rfl
@[simp] theorem exec_ps_abs (frD : FReg) (frB : FReg) (rc : Bool) (s : State) :
    exec (.ps_abs frD frB rc) s = execPsAbs frD frB rc s := rfl
@[simp] theorem exec_ps_neg (frD : FReg) (frB : FReg) (rc : Bool) (s : State) :
    exec (.ps_neg frD frB rc) s = execPsNeg frD frB rc s := rfl
@[simp] theorem exec_ps_nabs (frD : FReg) (frB : FReg) (rc : Bool) (s : State) :
    exec (.ps_nabs frD frB rc) s = execPsNabs frD frB rc s := rfl
@[simp] theorem exec_ps_madd (frD : FReg) (frA : FReg) (frB : FReg) (frC : FReg) (rc : Bool) (s : State) :
    exec (.ps_madd frD frA frB frC rc) s = execPsMadd frD frA frB frC rc s := rfl
@[simp] theorem exec_ps_madds0 (frD : FReg) (frA : FReg) (frB : FReg) (frC : FReg) (rc : Bool) (s : State) :
    exec (.ps_madds0 frD frA frB frC rc) s = execPsMadds0 frD frA frB frC rc s := rfl
@[simp] theorem exec_ps_madds1 (frD : FReg) (frA : FReg) (frB : FReg) (frC : FReg) (rc : Bool) (s : State) :
    exec (.ps_madds1 frD frA frB frC rc) s = execPsMadds1 frD frA frB frC rc s := rfl
@[simp] theorem exec_ps_msub (frD : FReg) (frA : FReg) (frB : FReg) (frC : FReg) (rc : Bool) (s : State) :
    exec (.ps_msub frD frA frB frC rc) s = execPsMsub frD frA frB frC rc s := rfl
@[simp] theorem exec_ps_nmadd (frD : FReg) (frA : FReg) (frB : FReg) (frC : FReg) (rc : Bool) (s : State) :
    exec (.ps_nmadd frD frA frB frC rc) s = execPsNmadd frD frA frB frC rc s := rfl
@[simp] theorem exec_ps_nmsub (frD : FReg) (frA : FReg) (frB : FReg) (frC : FReg) (rc : Bool) (s : State) :
    exec (.ps_nmsub frD frA frB frC rc) s = execPsNmsub frD frA frB frC rc s := rfl
@[simp] theorem exec_ps_mr (frD : FReg) (frB : FReg) (rc : Bool) (s : State) :
    exec (.ps_mr frD frB rc) s = execPsMr frD frB rc s := rfl
@[simp] theorem exec_ps_res (frD : FReg) (frB : FReg) (rc : Bool) (s : State) :
    exec (.ps_res frD frB rc) s = execPsRes frD frB rc s := rfl
@[simp] theorem exec_ps_rsqrte (frD : FReg) (frB : FReg) (rc : Bool) (s : State) :
    exec (.ps_rsqrte frD frB rc) s = execPsRsqrte frD frB rc s := rfl
@[simp] theorem exec_ps_sel (frD : FReg) (frA : FReg) (frB : FReg) (frC : FReg) (rc : Bool) (s : State) :
    exec (.ps_sel frD frA frB frC rc) s = execPsSel frD frA frB frC rc s := rfl
@[simp] theorem exec_ps_sum0 (frD : FReg) (frA : FReg) (frB : FReg) (frC : FReg) (rc : Bool) (s : State) :
    exec (.ps_sum0 frD frA frB frC rc) s = execPsSum0 frD frA frB frC rc s := rfl
@[simp] theorem exec_ps_sum1 (frD : FReg) (frA : FReg) (frB : FReg) (frC : FReg) (rc : Bool) (s : State) :
    exec (.ps_sum1 frD frA frB frC rc) s = execPsSum1 frD frA frB frC rc s := rfl
@[simp] theorem exec_ps_muls0 (frD : FReg) (frA : FReg) (frC : FReg) (rc : Bool) (s : State) :
    exec (.ps_muls0 frD frA frC rc) s = execPsMuls0 frD frA frC rc s := rfl
@[simp] theorem exec_ps_muls1 (frD : FReg) (frA : FReg) (frC : FReg) (rc : Bool) (s : State) :
    exec (.ps_muls1 frD frA frC rc) s = execPsMuls1 frD frA frC rc s := rfl
@[simp] theorem exec_ps_merge00 (frD : FReg) (frA : FReg) (frB : FReg) (rc : Bool) (s : State) :
    exec (.ps_merge00 frD frA frB rc) s = execPsMerge00 frD frA frB rc s := rfl
@[simp] theorem exec_ps_merge01 (frD : FReg) (frA : FReg) (frB : FReg) (rc : Bool) (s : State) :
    exec (.ps_merge01 frD frA frB rc) s = execPsMerge01 frD frA frB rc s := rfl
@[simp] theorem exec_ps_merge10 (frD : FReg) (frA : FReg) (frB : FReg) (rc : Bool) (s : State) :
    exec (.ps_merge10 frD frA frB rc) s = execPsMerge10 frD frA frB rc s := rfl
@[simp] theorem exec_ps_merge11 (frD : FReg) (frA : FReg) (frB : FReg) (rc : Bool) (s : State) :
    exec (.ps_merge11 frD frA frB rc) s = execPsMerge11 frD frA frB rc s := rfl
@[simp] theorem exec_ps_cmpu0 (crfD : CrField) (frA : FReg) (frB : FReg) (s : State) :
    exec (.ps_cmpu0 crfD frA frB) s = execPsCmpu0 crfD frA frB s := rfl
@[simp] theorem exec_ps_cmpo0 (crfD : CrField) (frA : FReg) (frB : FReg) (s : State) :
    exec (.ps_cmpo0 crfD frA frB) s = execPsCmpo0 crfD frA frB s := rfl
@[simp] theorem exec_ps_cmpu1 (crfD : CrField) (frA : FReg) (frB : FReg) (s : State) :
    exec (.ps_cmpu1 crfD frA frB) s = execPsCmpu1 crfD frA frB s := rfl
@[simp] theorem exec_ps_cmpo1 (crfD : CrField) (frA : FReg) (frB : FReg) (s : State) :
    exec (.ps_cmpo1 crfD frA frB) s = execPsCmpo1 crfD frA frB s := rfl
@[simp] theorem exec_extsb (rS : Reg) (rA : Reg) (rc : Bool) (s : State) :
    exec (.extsb rS rA rc) s = execExtsb rS rA rc s := rfl
@[simp] theorem exec_extsh (rS : Reg) (rA : Reg) (rc : Bool) (s : State) :
    exec (.extsh rS rA rc) s = execExtsh rS rA rc s := rfl
@[simp] theorem exec_lwarx (rD : Reg) (rA : Reg) (rB : Reg) (s : State) :
    exec (.lwarx rD rA rB) s = execLwarx rD rA rB s := rfl
@[simp] theorem exec_stwcx_rc (rS : Reg) (rA : Reg) (rB : Reg) (s : State) :
    exec (.stwcx_rc rS rA rB) s = execStwcx rS rA rB s := rfl
@[simp] theorem exec_cntlzw (rS : Reg) (rA : Reg) (rc : Bool) (s : State) :
    exec (.cntlzw rS rA rc) s = execCntlzw rS rA rc s := rfl
@[simp] theorem exec_eciwx (rD : Reg) (rA : Reg) (rB : Reg) (s : State) :
    exec (.eciwx rD rA rB) s = execEciwx rD rA rB s := rfl
@[simp] theorem exec_ecowx (rS : Reg) (rA : Reg) (rB : Reg) (s : State) :
    exec (.ecowx rS rA rB) s = execEcowx rS rA rB s := rfl
@[simp] theorem exec_mcrxr (crfD : CrField) (s : State) :
    exec (.mcrxr crfD) s = execMcrxr crfD s := rfl
@[simp] theorem exec_dcbz_l (rA : Reg) (rB : Reg) (s : State) :
    exec (.dcbz_l rA rB) s = execDcbzL rA rB s := rfl

end Sys2Proof.Machine
end

