-- ==== Sys2Proof/Laws/Float.lean ====
section
/-! SUPPORT. Which exception bits a floating-point outcome raises, in either mode. -/

namespace Sys2Proof.Machine

/-- The free outcome of non-IEEE mode raises no bit but those of the operation. -/
theorem freeOutcome_raises (p : Precision) (bits v : Word) (flags result : BitVec 64) :
    (freeOutcome p bits v flags result).raised &&& ~~~bits = 0 := by
  simp [freeOutcome, BitVec.and_assoc]

/-- Whatever the mode, an operation raises no bit but those it can raise. -/
theorem State.inMode_raises {s : State} {p : Precision} {bits : Word} {result : BitVec 64} {o : FpOut}
    (h : o.raised &&& ~~~bits = 0) : (s.inMode p bits result o).raised &&& ~~~bits = 0 := by
  unfold State.inMode
  split
  · exact freeOutcome_raises ..
  · exact h

/-- A conversion to integer raises VXSNAN, VXCVI and XX only (R437). -/
theorem convertToInteger_raises (rn : BitVec 2) (v : Lane) :
    (convertToInteger rn v).raised &&& ~~~conversionBits = 0 := by
  have snans : ∀ b, snanBits b = 0 ∨ snanBits b = vxsnanBit := by
    intro b; unfold snanBits; split <;> simp
  have inexact : ∀ b, xxIf b &&& ~~~conversionBits = 0 := by decide
  have limit : vxcviBit &&& ~~~conversionBits = 0 := by decide
  unfold convertToInteger
  split
  · rcases snans [v] with h | h <;> rw [h] <;> decide
  · exact limit
  · rfl
  · dsimp only
    split
    · exact limit
    split
    · exact limit
    · exact inexact _

end Sys2Proof.Machine
end

