-- ==== Sys2Proof/Laws/State.lean ====
section
/-! SUPPORT. What each update of the state does to each field of it, so that no proof unfolds an update. -/

namespace Sys2Proof.Machine


/-! ### `setX` -/

@[simp] theorem State.setX_pc (s : State) (r : Reg) (v : Word) : (s.setX r v).pc = s.pc := rfl
@[simp] theorem State.setX_gpr (s : State) (r : Reg) (v : Word) : (s.setX r v).gpr = s.gpr.set r.toFin v := rfl
@[simp] theorem State.setX_ps0 (s : State) (r : Reg) (v : Word) : (s.setX r v).ps0 = s.ps0 := rfl
@[simp] theorem State.setX_ps1 (s : State) (r : Reg) (v : Word) : (s.setX r v).ps1 = s.ps1 := rfl
@[simp] theorem State.setX_cr (s : State) (r : Reg) (v : Word) : (s.setX r v).cr = s.cr := rfl
@[simp] theorem State.setX_lr (s : State) (r : Reg) (v : Word) : (s.setX r v).lr = s.lr := rfl
@[simp] theorem State.setX_ctr (s : State) (r : Reg) (v : Word) : (s.setX r v).ctr = s.ctr := rfl
@[simp] theorem State.setX_xer (s : State) (r : Reg) (v : Word) : (s.setX r v).xer = s.xer := rfl
@[simp] theorem State.setX_xerReservedWritten (s : State) (r : Reg) (v : Word) : (s.setX r v).xerReservedWritten = s.xerReservedWritten := rfl
@[simp] theorem State.setX_fpscr (s : State) (r : Reg) (v : Word) : (s.setX r v).fpscr = s.fpscr := rfl
@[simp] theorem State.setX_msr (s : State) (r : Reg) (v : Word) : (s.setX r v).msr = s.msr := rfl
@[simp] theorem State.setX_srr0 (s : State) (r : Reg) (v : Word) : (s.setX r v).srr0 = s.srr0 := rfl
@[simp] theorem State.setX_srr1 (s : State) (r : Reg) (v : Word) : (s.setX r v).srr1 = s.srr1 := rfl
@[simp] theorem State.setX_dar (s : State) (r : Reg) (v : Word) : (s.setX r v).dar = s.dar := rfl
@[simp] theorem State.setX_dsisr (s : State) (r : Reg) (v : Word) : (s.setX r v).dsisr = s.dsisr := rfl
@[simp] theorem State.setX_dec (s : State) (r : Reg) (v : Word) : (s.setX r v).dec = s.dec := rfl
@[simp] theorem State.setX_tb (s : State) (r : Reg) (v : Word) : (s.setX r v).tb = s.tb := rfl
@[simp] theorem State.setX_sdr1 (s : State) (r : Reg) (v : Word) : (s.setX r v).sdr1 = s.sdr1 := rfl
@[simp] theorem State.setX_sprg (s : State) (r : Reg) (v : Word) : (s.setX r v).sprg = s.sprg := rfl
@[simp] theorem State.setX_ear (s : State) (r : Reg) (v : Word) : (s.setX r v).ear = s.ear := rfl
@[simp] theorem State.setX_sr (s : State) (r : Reg) (v : Word) : (s.setX r v).sr = s.sr := rfl
@[simp] theorem State.setX_ibat (s : State) (r : Reg) (v : Word) : (s.setX r v).ibat = s.ibat := rfl
@[simp] theorem State.setX_dbat (s : State) (r : Reg) (v : Word) : (s.setX r v).dbat = s.dbat := rfl
@[simp] theorem State.setX_gqr (s : State) (r : Reg) (v : Word) : (s.setX r v).gqr = s.gqr := rfl
@[simp] theorem State.setX_hid0 (s : State) (r : Reg) (v : Word) : (s.setX r v).hid0 = s.hid0 := rfl
@[simp] theorem State.setX_hid1 (s : State) (r : Reg) (v : Word) : (s.setX r v).hid1 = s.hid1 := rfl
@[simp] theorem State.setX_hid2 (s : State) (r : Reg) (v : Word) : (s.setX r v).hid2 = s.hid2 := rfl
@[simp] theorem State.setX_hid4 (s : State) (r : Reg) (v : Word) : (s.setX r v).hid4 = s.hid4 := rfl
@[simp] theorem State.setX_wpar (s : State) (r : Reg) (v : Word) : (s.setX r v).wpar = s.wpar := rfl
@[simp] theorem State.setX_dmau (s : State) (r : Reg) (v : Word) : (s.setX r v).dmau = s.dmau := rfl
@[simp] theorem State.setX_dmal (s : State) (r : Reg) (v : Word) : (s.setX r v).dmal = s.dmal := rfl
@[simp] theorem State.setX_mmcr0 (s : State) (r : Reg) (v : Word) : (s.setX r v).mmcr0 = s.mmcr0 := rfl
@[simp] theorem State.setX_mmcr1 (s : State) (r : Reg) (v : Word) : (s.setX r v).mmcr1 = s.mmcr1 := rfl
@[simp] theorem State.setX_pmc (s : State) (r : Reg) (v : Word) : (s.setX r v).pmc = s.pmc := rfl
@[simp] theorem State.setX_sia (s : State) (r : Reg) (v : Word) : (s.setX r v).sia = s.sia := rfl
@[simp] theorem State.setX_iabr (s : State) (r : Reg) (v : Word) : (s.setX r v).iabr = s.iabr := rfl
@[simp] theorem State.setX_dabr (s : State) (r : Reg) (v : Word) : (s.setX r v).dabr = s.dabr := rfl
@[simp] theorem State.setX_l2cr (s : State) (r : Reg) (v : Word) : (s.setX r v).l2cr = s.l2cr := rfl
@[simp] theorem State.setX_ictc (s : State) (r : Reg) (v : Word) : (s.setX r v).ictc = s.ictc := rfl
@[simp] theorem State.setX_thrm (s : State) (r : Reg) (v : Word) : (s.setX r v).thrm = s.thrm := rfl
@[simp] theorem State.setX_reserve (s : State) (r : Reg) (v : Word) : (s.setX r v).reserve = s.reserve := rfl
@[simp] theorem State.setX_reserveAddr (s : State) (r : Reg) (v : Word) : (s.setX r v).reserveAddr = s.reserveAddr := rfl
@[simp] theorem State.setX_decPending (s : State) (r : Reg) (v : Word) : (s.setX r v).decPending = s.decPending := rfl
@[simp] theorem State.setX_lines (s : State) (r : Reg) (v : Word) : (s.setX r v).lines = s.lines := rfl
@[simp] theorem State.setX_mode (s : State) (r : Reg) (v : Word) : (s.setX r v).mode = s.mode := rfl
@[simp] theorem State.setX_mem (s : State) (r : Reg) (v : Word) : (s.setX r v).mem = s.mem := rfl
@[simp] theorem State.setX_stale (s : State) (r : Reg) (v : Word) : (s.setX r v).stale = s.stale := rfl
@[simp] theorem State.setX_dirty (s : State) (r : Reg) (v : Word) : (s.setX r v).dirty = s.dirty := rfl
@[simp] theorem State.setX_late (s : State) (r : Reg) (v : Word) : (s.setX r v).late = s.late := rfl
@[simp] theorem State.setX_tables (s : State) (r : Reg) (v : Word) : (s.setX r v).tables = s.tables := rfl
@[simp] theorem State.setX_bus (s : State) (r : Reg) (v : Word) : (s.setX r v).bus = s.bus := rfl
@[simp] theorem State.setX_params (s : State) (r : Reg) (v : Word) : (s.setX r v).params = s.params := rfl
@[simp] theorem State.setX_draws (s : State) (r : Reg) (v : Word) : (s.setX r v).draws = s.draws := rfl
@[simp] theorem State.setX_time (s : State) (r : Reg) (v : Word) : (s.setX r v).time = s.time := rfl

/-! ### `setF0` -/

@[simp] theorem State.setF0_pc (s : State) (r : FReg) (v : Lane) : (s.setF0 r v).pc = s.pc := rfl
@[simp] theorem State.setF0_gpr (s : State) (r : FReg) (v : Lane) : (s.setF0 r v).gpr = s.gpr := rfl
@[simp] theorem State.setF0_ps0 (s : State) (r : FReg) (v : Lane) : (s.setF0 r v).ps0 = s.ps0.set r.toFin v := rfl
@[simp] theorem State.setF0_ps1 (s : State) (r : FReg) (v : Lane) : (s.setF0 r v).ps1 = s.ps1 := rfl
@[simp] theorem State.setF0_cr (s : State) (r : FReg) (v : Lane) : (s.setF0 r v).cr = s.cr := rfl
@[simp] theorem State.setF0_lr (s : State) (r : FReg) (v : Lane) : (s.setF0 r v).lr = s.lr := rfl
@[simp] theorem State.setF0_ctr (s : State) (r : FReg) (v : Lane) : (s.setF0 r v).ctr = s.ctr := rfl
@[simp] theorem State.setF0_xer (s : State) (r : FReg) (v : Lane) : (s.setF0 r v).xer = s.xer := rfl
@[simp] theorem State.setF0_xerReservedWritten (s : State) (r : FReg) (v : Lane) : (s.setF0 r v).xerReservedWritten = s.xerReservedWritten := rfl
@[simp] theorem State.setF0_fpscr (s : State) (r : FReg) (v : Lane) : (s.setF0 r v).fpscr = s.fpscr := rfl
@[simp] theorem State.setF0_msr (s : State) (r : FReg) (v : Lane) : (s.setF0 r v).msr = s.msr := rfl
@[simp] theorem State.setF0_srr0 (s : State) (r : FReg) (v : Lane) : (s.setF0 r v).srr0 = s.srr0 := rfl
@[simp] theorem State.setF0_srr1 (s : State) (r : FReg) (v : Lane) : (s.setF0 r v).srr1 = s.srr1 := rfl
@[simp] theorem State.setF0_dar (s : State) (r : FReg) (v : Lane) : (s.setF0 r v).dar = s.dar := rfl
@[simp] theorem State.setF0_dsisr (s : State) (r : FReg) (v : Lane) : (s.setF0 r v).dsisr = s.dsisr := rfl
@[simp] theorem State.setF0_dec (s : State) (r : FReg) (v : Lane) : (s.setF0 r v).dec = s.dec := rfl
@[simp] theorem State.setF0_tb (s : State) (r : FReg) (v : Lane) : (s.setF0 r v).tb = s.tb := rfl
@[simp] theorem State.setF0_sdr1 (s : State) (r : FReg) (v : Lane) : (s.setF0 r v).sdr1 = s.sdr1 := rfl
@[simp] theorem State.setF0_sprg (s : State) (r : FReg) (v : Lane) : (s.setF0 r v).sprg = s.sprg := rfl
@[simp] theorem State.setF0_ear (s : State) (r : FReg) (v : Lane) : (s.setF0 r v).ear = s.ear := rfl
@[simp] theorem State.setF0_sr (s : State) (r : FReg) (v : Lane) : (s.setF0 r v).sr = s.sr := rfl
@[simp] theorem State.setF0_ibat (s : State) (r : FReg) (v : Lane) : (s.setF0 r v).ibat = s.ibat := rfl
@[simp] theorem State.setF0_dbat (s : State) (r : FReg) (v : Lane) : (s.setF0 r v).dbat = s.dbat := rfl
@[simp] theorem State.setF0_gqr (s : State) (r : FReg) (v : Lane) : (s.setF0 r v).gqr = s.gqr := rfl
@[simp] theorem State.setF0_hid0 (s : State) (r : FReg) (v : Lane) : (s.setF0 r v).hid0 = s.hid0 := rfl
@[simp] theorem State.setF0_hid1 (s : State) (r : FReg) (v : Lane) : (s.setF0 r v).hid1 = s.hid1 := rfl
@[simp] theorem State.setF0_hid2 (s : State) (r : FReg) (v : Lane) : (s.setF0 r v).hid2 = s.hid2 := rfl
@[simp] theorem State.setF0_hid4 (s : State) (r : FReg) (v : Lane) : (s.setF0 r v).hid4 = s.hid4 := rfl
@[simp] theorem State.setF0_wpar (s : State) (r : FReg) (v : Lane) : (s.setF0 r v).wpar = s.wpar := rfl
@[simp] theorem State.setF0_dmau (s : State) (r : FReg) (v : Lane) : (s.setF0 r v).dmau = s.dmau := rfl
@[simp] theorem State.setF0_dmal (s : State) (r : FReg) (v : Lane) : (s.setF0 r v).dmal = s.dmal := rfl
@[simp] theorem State.setF0_mmcr0 (s : State) (r : FReg) (v : Lane) : (s.setF0 r v).mmcr0 = s.mmcr0 := rfl
@[simp] theorem State.setF0_mmcr1 (s : State) (r : FReg) (v : Lane) : (s.setF0 r v).mmcr1 = s.mmcr1 := rfl
@[simp] theorem State.setF0_pmc (s : State) (r : FReg) (v : Lane) : (s.setF0 r v).pmc = s.pmc := rfl
@[simp] theorem State.setF0_sia (s : State) (r : FReg) (v : Lane) : (s.setF0 r v).sia = s.sia := rfl
@[simp] theorem State.setF0_iabr (s : State) (r : FReg) (v : Lane) : (s.setF0 r v).iabr = s.iabr := rfl
@[simp] theorem State.setF0_dabr (s : State) (r : FReg) (v : Lane) : (s.setF0 r v).dabr = s.dabr := rfl
@[simp] theorem State.setF0_l2cr (s : State) (r : FReg) (v : Lane) : (s.setF0 r v).l2cr = s.l2cr := rfl
@[simp] theorem State.setF0_ictc (s : State) (r : FReg) (v : Lane) : (s.setF0 r v).ictc = s.ictc := rfl
@[simp] theorem State.setF0_thrm (s : State) (r : FReg) (v : Lane) : (s.setF0 r v).thrm = s.thrm := rfl
@[simp] theorem State.setF0_reserve (s : State) (r : FReg) (v : Lane) : (s.setF0 r v).reserve = s.reserve := rfl
@[simp] theorem State.setF0_reserveAddr (s : State) (r : FReg) (v : Lane) : (s.setF0 r v).reserveAddr = s.reserveAddr := rfl
@[simp] theorem State.setF0_decPending (s : State) (r : FReg) (v : Lane) : (s.setF0 r v).decPending = s.decPending := rfl
@[simp] theorem State.setF0_lines (s : State) (r : FReg) (v : Lane) : (s.setF0 r v).lines = s.lines := rfl
@[simp] theorem State.setF0_mode (s : State) (r : FReg) (v : Lane) : (s.setF0 r v).mode = s.mode := rfl
@[simp] theorem State.setF0_mem (s : State) (r : FReg) (v : Lane) : (s.setF0 r v).mem = s.mem := rfl
@[simp] theorem State.setF0_stale (s : State) (r : FReg) (v : Lane) : (s.setF0 r v).stale = s.stale := rfl
@[simp] theorem State.setF0_dirty (s : State) (r : FReg) (v : Lane) : (s.setF0 r v).dirty = s.dirty := rfl
@[simp] theorem State.setF0_late (s : State) (r : FReg) (v : Lane) : (s.setF0 r v).late = s.late := rfl
@[simp] theorem State.setF0_tables (s : State) (r : FReg) (v : Lane) : (s.setF0 r v).tables = s.tables := rfl
@[simp] theorem State.setF0_bus (s : State) (r : FReg) (v : Lane) : (s.setF0 r v).bus = s.bus := rfl
@[simp] theorem State.setF0_params (s : State) (r : FReg) (v : Lane) : (s.setF0 r v).params = s.params := rfl
@[simp] theorem State.setF0_draws (s : State) (r : FReg) (v : Lane) : (s.setF0 r v).draws = s.draws := rfl
@[simp] theorem State.setF0_time (s : State) (r : FReg) (v : Lane) : (s.setF0 r v).time = s.time := rfl

/-! ### `setF1` -/

@[simp] theorem State.setF1_pc (s : State) (r : FReg) (v : Lane) : (s.setF1 r v).pc = s.pc := rfl
@[simp] theorem State.setF1_gpr (s : State) (r : FReg) (v : Lane) : (s.setF1 r v).gpr = s.gpr := rfl
@[simp] theorem State.setF1_ps0 (s : State) (r : FReg) (v : Lane) : (s.setF1 r v).ps0 = s.ps0 := rfl
@[simp] theorem State.setF1_ps1 (s : State) (r : FReg) (v : Lane) : (s.setF1 r v).ps1 = s.ps1.set r.toFin v := rfl
@[simp] theorem State.setF1_cr (s : State) (r : FReg) (v : Lane) : (s.setF1 r v).cr = s.cr := rfl
@[simp] theorem State.setF1_lr (s : State) (r : FReg) (v : Lane) : (s.setF1 r v).lr = s.lr := rfl
@[simp] theorem State.setF1_ctr (s : State) (r : FReg) (v : Lane) : (s.setF1 r v).ctr = s.ctr := rfl
@[simp] theorem State.setF1_xer (s : State) (r : FReg) (v : Lane) : (s.setF1 r v).xer = s.xer := rfl
@[simp] theorem State.setF1_xerReservedWritten (s : State) (r : FReg) (v : Lane) : (s.setF1 r v).xerReservedWritten = s.xerReservedWritten := rfl
@[simp] theorem State.setF1_fpscr (s : State) (r : FReg) (v : Lane) : (s.setF1 r v).fpscr = s.fpscr := rfl
@[simp] theorem State.setF1_msr (s : State) (r : FReg) (v : Lane) : (s.setF1 r v).msr = s.msr := rfl
@[simp] theorem State.setF1_srr0 (s : State) (r : FReg) (v : Lane) : (s.setF1 r v).srr0 = s.srr0 := rfl
@[simp] theorem State.setF1_srr1 (s : State) (r : FReg) (v : Lane) : (s.setF1 r v).srr1 = s.srr1 := rfl
@[simp] theorem State.setF1_dar (s : State) (r : FReg) (v : Lane) : (s.setF1 r v).dar = s.dar := rfl
@[simp] theorem State.setF1_dsisr (s : State) (r : FReg) (v : Lane) : (s.setF1 r v).dsisr = s.dsisr := rfl
@[simp] theorem State.setF1_dec (s : State) (r : FReg) (v : Lane) : (s.setF1 r v).dec = s.dec := rfl
@[simp] theorem State.setF1_tb (s : State) (r : FReg) (v : Lane) : (s.setF1 r v).tb = s.tb := rfl
@[simp] theorem State.setF1_sdr1 (s : State) (r : FReg) (v : Lane) : (s.setF1 r v).sdr1 = s.sdr1 := rfl
@[simp] theorem State.setF1_sprg (s : State) (r : FReg) (v : Lane) : (s.setF1 r v).sprg = s.sprg := rfl
@[simp] theorem State.setF1_ear (s : State) (r : FReg) (v : Lane) : (s.setF1 r v).ear = s.ear := rfl
@[simp] theorem State.setF1_sr (s : State) (r : FReg) (v : Lane) : (s.setF1 r v).sr = s.sr := rfl
@[simp] theorem State.setF1_ibat (s : State) (r : FReg) (v : Lane) : (s.setF1 r v).ibat = s.ibat := rfl
@[simp] theorem State.setF1_dbat (s : State) (r : FReg) (v : Lane) : (s.setF1 r v).dbat = s.dbat := rfl
@[simp] theorem State.setF1_gqr (s : State) (r : FReg) (v : Lane) : (s.setF1 r v).gqr = s.gqr := rfl
@[simp] theorem State.setF1_hid0 (s : State) (r : FReg) (v : Lane) : (s.setF1 r v).hid0 = s.hid0 := rfl
@[simp] theorem State.setF1_hid1 (s : State) (r : FReg) (v : Lane) : (s.setF1 r v).hid1 = s.hid1 := rfl
@[simp] theorem State.setF1_hid2 (s : State) (r : FReg) (v : Lane) : (s.setF1 r v).hid2 = s.hid2 := rfl
@[simp] theorem State.setF1_hid4 (s : State) (r : FReg) (v : Lane) : (s.setF1 r v).hid4 = s.hid4 := rfl
@[simp] theorem State.setF1_wpar (s : State) (r : FReg) (v : Lane) : (s.setF1 r v).wpar = s.wpar := rfl
@[simp] theorem State.setF1_dmau (s : State) (r : FReg) (v : Lane) : (s.setF1 r v).dmau = s.dmau := rfl
@[simp] theorem State.setF1_dmal (s : State) (r : FReg) (v : Lane) : (s.setF1 r v).dmal = s.dmal := rfl
@[simp] theorem State.setF1_mmcr0 (s : State) (r : FReg) (v : Lane) : (s.setF1 r v).mmcr0 = s.mmcr0 := rfl
@[simp] theorem State.setF1_mmcr1 (s : State) (r : FReg) (v : Lane) : (s.setF1 r v).mmcr1 = s.mmcr1 := rfl
@[simp] theorem State.setF1_pmc (s : State) (r : FReg) (v : Lane) : (s.setF1 r v).pmc = s.pmc := rfl
@[simp] theorem State.setF1_sia (s : State) (r : FReg) (v : Lane) : (s.setF1 r v).sia = s.sia := rfl
@[simp] theorem State.setF1_iabr (s : State) (r : FReg) (v : Lane) : (s.setF1 r v).iabr = s.iabr := rfl
@[simp] theorem State.setF1_dabr (s : State) (r : FReg) (v : Lane) : (s.setF1 r v).dabr = s.dabr := rfl
@[simp] theorem State.setF1_l2cr (s : State) (r : FReg) (v : Lane) : (s.setF1 r v).l2cr = s.l2cr := rfl
@[simp] theorem State.setF1_ictc (s : State) (r : FReg) (v : Lane) : (s.setF1 r v).ictc = s.ictc := rfl
@[simp] theorem State.setF1_thrm (s : State) (r : FReg) (v : Lane) : (s.setF1 r v).thrm = s.thrm := rfl
@[simp] theorem State.setF1_reserve (s : State) (r : FReg) (v : Lane) : (s.setF1 r v).reserve = s.reserve := rfl
@[simp] theorem State.setF1_reserveAddr (s : State) (r : FReg) (v : Lane) : (s.setF1 r v).reserveAddr = s.reserveAddr := rfl
@[simp] theorem State.setF1_decPending (s : State) (r : FReg) (v : Lane) : (s.setF1 r v).decPending = s.decPending := rfl
@[simp] theorem State.setF1_lines (s : State) (r : FReg) (v : Lane) : (s.setF1 r v).lines = s.lines := rfl
@[simp] theorem State.setF1_mode (s : State) (r : FReg) (v : Lane) : (s.setF1 r v).mode = s.mode := rfl
@[simp] theorem State.setF1_mem (s : State) (r : FReg) (v : Lane) : (s.setF1 r v).mem = s.mem := rfl
@[simp] theorem State.setF1_stale (s : State) (r : FReg) (v : Lane) : (s.setF1 r v).stale = s.stale := rfl
@[simp] theorem State.setF1_dirty (s : State) (r : FReg) (v : Lane) : (s.setF1 r v).dirty = s.dirty := rfl
@[simp] theorem State.setF1_late (s : State) (r : FReg) (v : Lane) : (s.setF1 r v).late = s.late := rfl
@[simp] theorem State.setF1_tables (s : State) (r : FReg) (v : Lane) : (s.setF1 r v).tables = s.tables := rfl
@[simp] theorem State.setF1_bus (s : State) (r : FReg) (v : Lane) : (s.setF1 r v).bus = s.bus := rfl
@[simp] theorem State.setF1_params (s : State) (r : FReg) (v : Lane) : (s.setF1 r v).params = s.params := rfl
@[simp] theorem State.setF1_draws (s : State) (r : FReg) (v : Lane) : (s.setF1 r v).draws = s.draws := rfl
@[simp] theorem State.setF1_time (s : State) (r : FReg) (v : Lane) : (s.setF1 r v).time = s.time := rfl

/-! ### `drawnBy` -/

@[simp] theorem State.drawnBy_pc (s : State) (n : Nat) : (s.drawnBy n).pc = s.pc := rfl
@[simp] theorem State.drawnBy_gpr (s : State) (n : Nat) : (s.drawnBy n).gpr = s.gpr := rfl
@[simp] theorem State.drawnBy_ps0 (s : State) (n : Nat) : (s.drawnBy n).ps0 = s.ps0 := rfl
@[simp] theorem State.drawnBy_ps1 (s : State) (n : Nat) : (s.drawnBy n).ps1 = s.ps1 := rfl
@[simp] theorem State.drawnBy_cr (s : State) (n : Nat) : (s.drawnBy n).cr = s.cr := rfl
@[simp] theorem State.drawnBy_lr (s : State) (n : Nat) : (s.drawnBy n).lr = s.lr := rfl
@[simp] theorem State.drawnBy_ctr (s : State) (n : Nat) : (s.drawnBy n).ctr = s.ctr := rfl
@[simp] theorem State.drawnBy_xer (s : State) (n : Nat) : (s.drawnBy n).xer = s.xer := rfl
@[simp] theorem State.drawnBy_xerReservedWritten (s : State) (n : Nat) : (s.drawnBy n).xerReservedWritten = s.xerReservedWritten := rfl
@[simp] theorem State.drawnBy_fpscr (s : State) (n : Nat) : (s.drawnBy n).fpscr = s.fpscr := rfl
@[simp] theorem State.drawnBy_msr (s : State) (n : Nat) : (s.drawnBy n).msr = s.msr := rfl
@[simp] theorem State.drawnBy_srr0 (s : State) (n : Nat) : (s.drawnBy n).srr0 = s.srr0 := rfl
@[simp] theorem State.drawnBy_srr1 (s : State) (n : Nat) : (s.drawnBy n).srr1 = s.srr1 := rfl
@[simp] theorem State.drawnBy_dar (s : State) (n : Nat) : (s.drawnBy n).dar = s.dar := rfl
@[simp] theorem State.drawnBy_dsisr (s : State) (n : Nat) : (s.drawnBy n).dsisr = s.dsisr := rfl
@[simp] theorem State.drawnBy_dec (s : State) (n : Nat) : (s.drawnBy n).dec = s.dec := rfl
@[simp] theorem State.drawnBy_tb (s : State) (n : Nat) : (s.drawnBy n).tb = s.tb := rfl
@[simp] theorem State.drawnBy_sdr1 (s : State) (n : Nat) : (s.drawnBy n).sdr1 = s.sdr1 := rfl
@[simp] theorem State.drawnBy_sprg (s : State) (n : Nat) : (s.drawnBy n).sprg = s.sprg := rfl
@[simp] theorem State.drawnBy_ear (s : State) (n : Nat) : (s.drawnBy n).ear = s.ear := rfl
@[simp] theorem State.drawnBy_sr (s : State) (n : Nat) : (s.drawnBy n).sr = s.sr := rfl
@[simp] theorem State.drawnBy_ibat (s : State) (n : Nat) : (s.drawnBy n).ibat = s.ibat := rfl
@[simp] theorem State.drawnBy_dbat (s : State) (n : Nat) : (s.drawnBy n).dbat = s.dbat := rfl
@[simp] theorem State.drawnBy_gqr (s : State) (n : Nat) : (s.drawnBy n).gqr = s.gqr := rfl
@[simp] theorem State.drawnBy_hid0 (s : State) (n : Nat) : (s.drawnBy n).hid0 = s.hid0 := rfl
@[simp] theorem State.drawnBy_hid1 (s : State) (n : Nat) : (s.drawnBy n).hid1 = s.hid1 := rfl
@[simp] theorem State.drawnBy_hid2 (s : State) (n : Nat) : (s.drawnBy n).hid2 = s.hid2 := rfl
@[simp] theorem State.drawnBy_hid4 (s : State) (n : Nat) : (s.drawnBy n).hid4 = s.hid4 := rfl
@[simp] theorem State.drawnBy_wpar (s : State) (n : Nat) : (s.drawnBy n).wpar = s.wpar := rfl
@[simp] theorem State.drawnBy_dmau (s : State) (n : Nat) : (s.drawnBy n).dmau = s.dmau := rfl
@[simp] theorem State.drawnBy_dmal (s : State) (n : Nat) : (s.drawnBy n).dmal = s.dmal := rfl
@[simp] theorem State.drawnBy_mmcr0 (s : State) (n : Nat) : (s.drawnBy n).mmcr0 = s.mmcr0 := rfl
@[simp] theorem State.drawnBy_mmcr1 (s : State) (n : Nat) : (s.drawnBy n).mmcr1 = s.mmcr1 := rfl
@[simp] theorem State.drawnBy_pmc (s : State) (n : Nat) : (s.drawnBy n).pmc = s.pmc := rfl
@[simp] theorem State.drawnBy_sia (s : State) (n : Nat) : (s.drawnBy n).sia = s.sia := rfl
@[simp] theorem State.drawnBy_iabr (s : State) (n : Nat) : (s.drawnBy n).iabr = s.iabr := rfl
@[simp] theorem State.drawnBy_dabr (s : State) (n : Nat) : (s.drawnBy n).dabr = s.dabr := rfl
@[simp] theorem State.drawnBy_l2cr (s : State) (n : Nat) : (s.drawnBy n).l2cr = s.l2cr := rfl
@[simp] theorem State.drawnBy_ictc (s : State) (n : Nat) : (s.drawnBy n).ictc = s.ictc := rfl
@[simp] theorem State.drawnBy_thrm (s : State) (n : Nat) : (s.drawnBy n).thrm = s.thrm := rfl
@[simp] theorem State.drawnBy_reserve (s : State) (n : Nat) : (s.drawnBy n).reserve = s.reserve := rfl
@[simp] theorem State.drawnBy_reserveAddr (s : State) (n : Nat) : (s.drawnBy n).reserveAddr = s.reserveAddr := rfl
@[simp] theorem State.drawnBy_decPending (s : State) (n : Nat) : (s.drawnBy n).decPending = s.decPending := rfl
@[simp] theorem State.drawnBy_lines (s : State) (n : Nat) : (s.drawnBy n).lines = s.lines := rfl
@[simp] theorem State.drawnBy_mode (s : State) (n : Nat) : (s.drawnBy n).mode = s.mode := rfl
@[simp] theorem State.drawnBy_mem (s : State) (n : Nat) : (s.drawnBy n).mem = s.mem := rfl
@[simp] theorem State.drawnBy_stale (s : State) (n : Nat) : (s.drawnBy n).stale = s.stale := rfl
@[simp] theorem State.drawnBy_dirty (s : State) (n : Nat) : (s.drawnBy n).dirty = s.dirty := rfl
@[simp] theorem State.drawnBy_late (s : State) (n : Nat) : (s.drawnBy n).late = s.late := rfl
@[simp] theorem State.drawnBy_tables (s : State) (n : Nat) : (s.drawnBy n).tables = s.tables := rfl
@[simp] theorem State.drawnBy_bus (s : State) (n : Nat) : (s.drawnBy n).bus = s.bus := rfl
@[simp] theorem State.drawnBy_params (s : State) (n : Nat) : (s.drawnBy n).params = s.params := rfl
@[simp] theorem State.drawnBy_draws (s : State) (n : Nat) : (s.drawnBy n).draws = s.draws + n := rfl
@[simp] theorem State.drawnBy_time (s : State) (n : Nat) : (s.drawnBy n).time = s.time := rfl

/-! ### `drawn` -/

@[simp] theorem State.drawn_pc (s : State) : (s.drawn).pc = s.pc := rfl
@[simp] theorem State.drawn_gpr (s : State) : (s.drawn).gpr = s.gpr := rfl
@[simp] theorem State.drawn_ps0 (s : State) : (s.drawn).ps0 = s.ps0 := rfl
@[simp] theorem State.drawn_ps1 (s : State) : (s.drawn).ps1 = s.ps1 := rfl
@[simp] theorem State.drawn_cr (s : State) : (s.drawn).cr = s.cr := rfl
@[simp] theorem State.drawn_lr (s : State) : (s.drawn).lr = s.lr := rfl
@[simp] theorem State.drawn_ctr (s : State) : (s.drawn).ctr = s.ctr := rfl
@[simp] theorem State.drawn_xer (s : State) : (s.drawn).xer = s.xer := rfl
@[simp] theorem State.drawn_xerReservedWritten (s : State) : (s.drawn).xerReservedWritten = s.xerReservedWritten := rfl
@[simp] theorem State.drawn_fpscr (s : State) : (s.drawn).fpscr = s.fpscr := rfl
@[simp] theorem State.drawn_msr (s : State) : (s.drawn).msr = s.msr := rfl
@[simp] theorem State.drawn_srr0 (s : State) : (s.drawn).srr0 = s.srr0 := rfl
@[simp] theorem State.drawn_srr1 (s : State) : (s.drawn).srr1 = s.srr1 := rfl
@[simp] theorem State.drawn_dar (s : State) : (s.drawn).dar = s.dar := rfl
@[simp] theorem State.drawn_dsisr (s : State) : (s.drawn).dsisr = s.dsisr := rfl
@[simp] theorem State.drawn_dec (s : State) : (s.drawn).dec = s.dec := rfl
@[simp] theorem State.drawn_tb (s : State) : (s.drawn).tb = s.tb := rfl
@[simp] theorem State.drawn_sdr1 (s : State) : (s.drawn).sdr1 = s.sdr1 := rfl
@[simp] theorem State.drawn_sprg (s : State) : (s.drawn).sprg = s.sprg := rfl
@[simp] theorem State.drawn_ear (s : State) : (s.drawn).ear = s.ear := rfl
@[simp] theorem State.drawn_sr (s : State) : (s.drawn).sr = s.sr := rfl
@[simp] theorem State.drawn_ibat (s : State) : (s.drawn).ibat = s.ibat := rfl
@[simp] theorem State.drawn_dbat (s : State) : (s.drawn).dbat = s.dbat := rfl
@[simp] theorem State.drawn_gqr (s : State) : (s.drawn).gqr = s.gqr := rfl
@[simp] theorem State.drawn_hid0 (s : State) : (s.drawn).hid0 = s.hid0 := rfl
@[simp] theorem State.drawn_hid1 (s : State) : (s.drawn).hid1 = s.hid1 := rfl
@[simp] theorem State.drawn_hid2 (s : State) : (s.drawn).hid2 = s.hid2 := rfl
@[simp] theorem State.drawn_hid4 (s : State) : (s.drawn).hid4 = s.hid4 := rfl
@[simp] theorem State.drawn_wpar (s : State) : (s.drawn).wpar = s.wpar := rfl
@[simp] theorem State.drawn_dmau (s : State) : (s.drawn).dmau = s.dmau := rfl
@[simp] theorem State.drawn_dmal (s : State) : (s.drawn).dmal = s.dmal := rfl
@[simp] theorem State.drawn_mmcr0 (s : State) : (s.drawn).mmcr0 = s.mmcr0 := rfl
@[simp] theorem State.drawn_mmcr1 (s : State) : (s.drawn).mmcr1 = s.mmcr1 := rfl
@[simp] theorem State.drawn_pmc (s : State) : (s.drawn).pmc = s.pmc := rfl
@[simp] theorem State.drawn_sia (s : State) : (s.drawn).sia = s.sia := rfl
@[simp] theorem State.drawn_iabr (s : State) : (s.drawn).iabr = s.iabr := rfl
@[simp] theorem State.drawn_dabr (s : State) : (s.drawn).dabr = s.dabr := rfl
@[simp] theorem State.drawn_l2cr (s : State) : (s.drawn).l2cr = s.l2cr := rfl
@[simp] theorem State.drawn_ictc (s : State) : (s.drawn).ictc = s.ictc := rfl
@[simp] theorem State.drawn_thrm (s : State) : (s.drawn).thrm = s.thrm := rfl
@[simp] theorem State.drawn_reserve (s : State) : (s.drawn).reserve = s.reserve := rfl
@[simp] theorem State.drawn_reserveAddr (s : State) : (s.drawn).reserveAddr = s.reserveAddr := rfl
@[simp] theorem State.drawn_decPending (s : State) : (s.drawn).decPending = s.decPending := rfl
@[simp] theorem State.drawn_lines (s : State) : (s.drawn).lines = s.lines := rfl
@[simp] theorem State.drawn_mode (s : State) : (s.drawn).mode = s.mode := rfl
@[simp] theorem State.drawn_mem (s : State) : (s.drawn).mem = s.mem := rfl
@[simp] theorem State.drawn_stale (s : State) : (s.drawn).stale = s.stale := rfl
@[simp] theorem State.drawn_dirty (s : State) : (s.drawn).dirty = s.dirty := rfl
@[simp] theorem State.drawn_late (s : State) : (s.drawn).late = s.late := rfl
@[simp] theorem State.drawn_tables (s : State) : (s.drawn).tables = s.tables := rfl
@[simp] theorem State.drawn_bus (s : State) : (s.drawn).bus = s.bus := rfl
@[simp] theorem State.drawn_params (s : State) : (s.drawn).params = s.params := rfl
@[simp] theorem State.drawn_draws (s : State) : (s.drawn).draws = s.draws + 1 := rfl
@[simp] theorem State.drawn_time (s : State) : (s.drawn).time = s.time := rfl

/-! ### `setCa` -/

@[simp] theorem State.setCa_pc (s : State) (c : Bool) : (s.setCa c).pc = s.pc := rfl
@[simp] theorem State.setCa_gpr (s : State) (c : Bool) : (s.setCa c).gpr = s.gpr := rfl
@[simp] theorem State.setCa_ps0 (s : State) (c : Bool) : (s.setCa c).ps0 = s.ps0 := rfl
@[simp] theorem State.setCa_ps1 (s : State) (c : Bool) : (s.setCa c).ps1 = s.ps1 := rfl
@[simp] theorem State.setCa_cr (s : State) (c : Bool) : (s.setCa c).cr = s.cr := rfl
@[simp] theorem State.setCa_lr (s : State) (c : Bool) : (s.setCa c).lr = s.lr := rfl
@[simp] theorem State.setCa_ctr (s : State) (c : Bool) : (s.setCa c).ctr = s.ctr := rfl
@[simp] theorem State.setCa_xer (s : State) (c : Bool) : (s.setCa c).xer = setBit s.xer 29 c := rfl
@[simp] theorem State.setCa_xerReservedWritten (s : State) (c : Bool) : (s.setCa c).xerReservedWritten = s.xerReservedWritten := rfl
@[simp] theorem State.setCa_fpscr (s : State) (c : Bool) : (s.setCa c).fpscr = s.fpscr := rfl
@[simp] theorem State.setCa_msr (s : State) (c : Bool) : (s.setCa c).msr = s.msr := rfl
@[simp] theorem State.setCa_srr0 (s : State) (c : Bool) : (s.setCa c).srr0 = s.srr0 := rfl
@[simp] theorem State.setCa_srr1 (s : State) (c : Bool) : (s.setCa c).srr1 = s.srr1 := rfl
@[simp] theorem State.setCa_dar (s : State) (c : Bool) : (s.setCa c).dar = s.dar := rfl
@[simp] theorem State.setCa_dsisr (s : State) (c : Bool) : (s.setCa c).dsisr = s.dsisr := rfl
@[simp] theorem State.setCa_dec (s : State) (c : Bool) : (s.setCa c).dec = s.dec := rfl
@[simp] theorem State.setCa_tb (s : State) (c : Bool) : (s.setCa c).tb = s.tb := rfl
@[simp] theorem State.setCa_sdr1 (s : State) (c : Bool) : (s.setCa c).sdr1 = s.sdr1 := rfl
@[simp] theorem State.setCa_sprg (s : State) (c : Bool) : (s.setCa c).sprg = s.sprg := rfl
@[simp] theorem State.setCa_ear (s : State) (c : Bool) : (s.setCa c).ear = s.ear := rfl
@[simp] theorem State.setCa_sr (s : State) (c : Bool) : (s.setCa c).sr = s.sr := rfl
@[simp] theorem State.setCa_ibat (s : State) (c : Bool) : (s.setCa c).ibat = s.ibat := rfl
@[simp] theorem State.setCa_dbat (s : State) (c : Bool) : (s.setCa c).dbat = s.dbat := rfl
@[simp] theorem State.setCa_gqr (s : State) (c : Bool) : (s.setCa c).gqr = s.gqr := rfl
@[simp] theorem State.setCa_hid0 (s : State) (c : Bool) : (s.setCa c).hid0 = s.hid0 := rfl
@[simp] theorem State.setCa_hid1 (s : State) (c : Bool) : (s.setCa c).hid1 = s.hid1 := rfl
@[simp] theorem State.setCa_hid2 (s : State) (c : Bool) : (s.setCa c).hid2 = s.hid2 := rfl
@[simp] theorem State.setCa_hid4 (s : State) (c : Bool) : (s.setCa c).hid4 = s.hid4 := rfl
@[simp] theorem State.setCa_wpar (s : State) (c : Bool) : (s.setCa c).wpar = s.wpar := rfl
@[simp] theorem State.setCa_dmau (s : State) (c : Bool) : (s.setCa c).dmau = s.dmau := rfl
@[simp] theorem State.setCa_dmal (s : State) (c : Bool) : (s.setCa c).dmal = s.dmal := rfl
@[simp] theorem State.setCa_mmcr0 (s : State) (c : Bool) : (s.setCa c).mmcr0 = s.mmcr0 := rfl
@[simp] theorem State.setCa_mmcr1 (s : State) (c : Bool) : (s.setCa c).mmcr1 = s.mmcr1 := rfl
@[simp] theorem State.setCa_pmc (s : State) (c : Bool) : (s.setCa c).pmc = s.pmc := rfl
@[simp] theorem State.setCa_sia (s : State) (c : Bool) : (s.setCa c).sia = s.sia := rfl
@[simp] theorem State.setCa_iabr (s : State) (c : Bool) : (s.setCa c).iabr = s.iabr := rfl
@[simp] theorem State.setCa_dabr (s : State) (c : Bool) : (s.setCa c).dabr = s.dabr := rfl
@[simp] theorem State.setCa_l2cr (s : State) (c : Bool) : (s.setCa c).l2cr = s.l2cr := rfl
@[simp] theorem State.setCa_ictc (s : State) (c : Bool) : (s.setCa c).ictc = s.ictc := rfl
@[simp] theorem State.setCa_thrm (s : State) (c : Bool) : (s.setCa c).thrm = s.thrm := rfl
@[simp] theorem State.setCa_reserve (s : State) (c : Bool) : (s.setCa c).reserve = s.reserve := rfl
@[simp] theorem State.setCa_reserveAddr (s : State) (c : Bool) : (s.setCa c).reserveAddr = s.reserveAddr := rfl
@[simp] theorem State.setCa_decPending (s : State) (c : Bool) : (s.setCa c).decPending = s.decPending := rfl
@[simp] theorem State.setCa_lines (s : State) (c : Bool) : (s.setCa c).lines = s.lines := rfl
@[simp] theorem State.setCa_mode (s : State) (c : Bool) : (s.setCa c).mode = s.mode := rfl
@[simp] theorem State.setCa_mem (s : State) (c : Bool) : (s.setCa c).mem = s.mem := rfl
@[simp] theorem State.setCa_stale (s : State) (c : Bool) : (s.setCa c).stale = s.stale := rfl
@[simp] theorem State.setCa_dirty (s : State) (c : Bool) : (s.setCa c).dirty = s.dirty := rfl
@[simp] theorem State.setCa_late (s : State) (c : Bool) : (s.setCa c).late = s.late := rfl
@[simp] theorem State.setCa_tables (s : State) (c : Bool) : (s.setCa c).tables = s.tables := rfl
@[simp] theorem State.setCa_bus (s : State) (c : Bool) : (s.setCa c).bus = s.bus := rfl
@[simp] theorem State.setCa_params (s : State) (c : Bool) : (s.setCa c).params = s.params := rfl
@[simp] theorem State.setCa_draws (s : State) (c : Bool) : (s.setCa c).draws = s.draws := rfl
@[simp] theorem State.setCa_time (s : State) (c : Bool) : (s.setCa c).time = s.time := rfl

/-! ### `setOv` -/

@[simp] theorem State.setOv_pc (s : State) (ov : Bool) : (s.setOv ov).pc = s.pc := rfl
@[simp] theorem State.setOv_gpr (s : State) (ov : Bool) : (s.setOv ov).gpr = s.gpr := rfl
@[simp] theorem State.setOv_ps0 (s : State) (ov : Bool) : (s.setOv ov).ps0 = s.ps0 := rfl
@[simp] theorem State.setOv_ps1 (s : State) (ov : Bool) : (s.setOv ov).ps1 = s.ps1 := rfl
@[simp] theorem State.setOv_cr (s : State) (ov : Bool) : (s.setOv ov).cr = s.cr := rfl
@[simp] theorem State.setOv_lr (s : State) (ov : Bool) : (s.setOv ov).lr = s.lr := rfl
@[simp] theorem State.setOv_ctr (s : State) (ov : Bool) : (s.setOv ov).ctr = s.ctr := rfl
@[simp] theorem State.setOv_xer (s : State) (ov : Bool) : (s.setOv ov).xer = setBit (setBit s.xer 30 ov) 31 (s.so || ov) := rfl
@[simp] theorem State.setOv_xerReservedWritten (s : State) (ov : Bool) : (s.setOv ov).xerReservedWritten = s.xerReservedWritten := rfl
@[simp] theorem State.setOv_fpscr (s : State) (ov : Bool) : (s.setOv ov).fpscr = s.fpscr := rfl
@[simp] theorem State.setOv_msr (s : State) (ov : Bool) : (s.setOv ov).msr = s.msr := rfl
@[simp] theorem State.setOv_srr0 (s : State) (ov : Bool) : (s.setOv ov).srr0 = s.srr0 := rfl
@[simp] theorem State.setOv_srr1 (s : State) (ov : Bool) : (s.setOv ov).srr1 = s.srr1 := rfl
@[simp] theorem State.setOv_dar (s : State) (ov : Bool) : (s.setOv ov).dar = s.dar := rfl
@[simp] theorem State.setOv_dsisr (s : State) (ov : Bool) : (s.setOv ov).dsisr = s.dsisr := rfl
@[simp] theorem State.setOv_dec (s : State) (ov : Bool) : (s.setOv ov).dec = s.dec := rfl
@[simp] theorem State.setOv_tb (s : State) (ov : Bool) : (s.setOv ov).tb = s.tb := rfl
@[simp] theorem State.setOv_sdr1 (s : State) (ov : Bool) : (s.setOv ov).sdr1 = s.sdr1 := rfl
@[simp] theorem State.setOv_sprg (s : State) (ov : Bool) : (s.setOv ov).sprg = s.sprg := rfl
@[simp] theorem State.setOv_ear (s : State) (ov : Bool) : (s.setOv ov).ear = s.ear := rfl
@[simp] theorem State.setOv_sr (s : State) (ov : Bool) : (s.setOv ov).sr = s.sr := rfl
@[simp] theorem State.setOv_ibat (s : State) (ov : Bool) : (s.setOv ov).ibat = s.ibat := rfl
@[simp] theorem State.setOv_dbat (s : State) (ov : Bool) : (s.setOv ov).dbat = s.dbat := rfl
@[simp] theorem State.setOv_gqr (s : State) (ov : Bool) : (s.setOv ov).gqr = s.gqr := rfl
@[simp] theorem State.setOv_hid0 (s : State) (ov : Bool) : (s.setOv ov).hid0 = s.hid0 := rfl
@[simp] theorem State.setOv_hid1 (s : State) (ov : Bool) : (s.setOv ov).hid1 = s.hid1 := rfl
@[simp] theorem State.setOv_hid2 (s : State) (ov : Bool) : (s.setOv ov).hid2 = s.hid2 := rfl
@[simp] theorem State.setOv_hid4 (s : State) (ov : Bool) : (s.setOv ov).hid4 = s.hid4 := rfl
@[simp] theorem State.setOv_wpar (s : State) (ov : Bool) : (s.setOv ov).wpar = s.wpar := rfl
@[simp] theorem State.setOv_dmau (s : State) (ov : Bool) : (s.setOv ov).dmau = s.dmau := rfl
@[simp] theorem State.setOv_dmal (s : State) (ov : Bool) : (s.setOv ov).dmal = s.dmal := rfl
@[simp] theorem State.setOv_mmcr0 (s : State) (ov : Bool) : (s.setOv ov).mmcr0 = s.mmcr0 := rfl
@[simp] theorem State.setOv_mmcr1 (s : State) (ov : Bool) : (s.setOv ov).mmcr1 = s.mmcr1 := rfl
@[simp] theorem State.setOv_pmc (s : State) (ov : Bool) : (s.setOv ov).pmc = s.pmc := rfl
@[simp] theorem State.setOv_sia (s : State) (ov : Bool) : (s.setOv ov).sia = s.sia := rfl
@[simp] theorem State.setOv_iabr (s : State) (ov : Bool) : (s.setOv ov).iabr = s.iabr := rfl
@[simp] theorem State.setOv_dabr (s : State) (ov : Bool) : (s.setOv ov).dabr = s.dabr := rfl
@[simp] theorem State.setOv_l2cr (s : State) (ov : Bool) : (s.setOv ov).l2cr = s.l2cr := rfl
@[simp] theorem State.setOv_ictc (s : State) (ov : Bool) : (s.setOv ov).ictc = s.ictc := rfl
@[simp] theorem State.setOv_thrm (s : State) (ov : Bool) : (s.setOv ov).thrm = s.thrm := rfl
@[simp] theorem State.setOv_reserve (s : State) (ov : Bool) : (s.setOv ov).reserve = s.reserve := rfl
@[simp] theorem State.setOv_reserveAddr (s : State) (ov : Bool) : (s.setOv ov).reserveAddr = s.reserveAddr := rfl
@[simp] theorem State.setOv_decPending (s : State) (ov : Bool) : (s.setOv ov).decPending = s.decPending := rfl
@[simp] theorem State.setOv_lines (s : State) (ov : Bool) : (s.setOv ov).lines = s.lines := rfl
@[simp] theorem State.setOv_mode (s : State) (ov : Bool) : (s.setOv ov).mode = s.mode := rfl
@[simp] theorem State.setOv_mem (s : State) (ov : Bool) : (s.setOv ov).mem = s.mem := rfl
@[simp] theorem State.setOv_stale (s : State) (ov : Bool) : (s.setOv ov).stale = s.stale := rfl
@[simp] theorem State.setOv_dirty (s : State) (ov : Bool) : (s.setOv ov).dirty = s.dirty := rfl
@[simp] theorem State.setOv_late (s : State) (ov : Bool) : (s.setOv ov).late = s.late := rfl
@[simp] theorem State.setOv_tables (s : State) (ov : Bool) : (s.setOv ov).tables = s.tables := rfl
@[simp] theorem State.setOv_bus (s : State) (ov : Bool) : (s.setOv ov).bus = s.bus := rfl
@[simp] theorem State.setOv_params (s : State) (ov : Bool) : (s.setOv ov).params = s.params := rfl
@[simp] theorem State.setOv_draws (s : State) (ov : Bool) : (s.setOv ov).draws = s.draws := rfl
@[simp] theorem State.setOv_time (s : State) (ov : Bool) : (s.setOv ov).time = s.time := rfl

/-! ### `writeXer` -/

@[simp] theorem State.writeXer_pc (s : State) (v : Word) : (s.writeXer v).pc = s.pc := rfl
@[simp] theorem State.writeXer_gpr (s : State) (v : Word) : (s.writeXer v).gpr = s.gpr := rfl
@[simp] theorem State.writeXer_ps0 (s : State) (v : Word) : (s.writeXer v).ps0 = s.ps0 := rfl
@[simp] theorem State.writeXer_ps1 (s : State) (v : Word) : (s.writeXer v).ps1 = s.ps1 := rfl
@[simp] theorem State.writeXer_cr (s : State) (v : Word) : (s.writeXer v).cr = s.cr := rfl
@[simp] theorem State.writeXer_lr (s : State) (v : Word) : (s.writeXer v).lr = s.lr := rfl
@[simp] theorem State.writeXer_ctr (s : State) (v : Word) : (s.writeXer v).ctr = s.ctr := rfl
@[simp] theorem State.writeXer_xer (s : State) (v : Word) : (s.writeXer v).xer = v &&& 0xE000007F := rfl
@[simp] theorem State.writeXer_xerReservedWritten (s : State) (v : Word) : (s.writeXer v).xerReservedWritten = (s.xerReservedWritten || decide (v &&& 0x1FFFFF80 ≠ 0)) := rfl
@[simp] theorem State.writeXer_fpscr (s : State) (v : Word) : (s.writeXer v).fpscr = s.fpscr := rfl
@[simp] theorem State.writeXer_msr (s : State) (v : Word) : (s.writeXer v).msr = s.msr := rfl
@[simp] theorem State.writeXer_srr0 (s : State) (v : Word) : (s.writeXer v).srr0 = s.srr0 := rfl
@[simp] theorem State.writeXer_srr1 (s : State) (v : Word) : (s.writeXer v).srr1 = s.srr1 := rfl
@[simp] theorem State.writeXer_dar (s : State) (v : Word) : (s.writeXer v).dar = s.dar := rfl
@[simp] theorem State.writeXer_dsisr (s : State) (v : Word) : (s.writeXer v).dsisr = s.dsisr := rfl
@[simp] theorem State.writeXer_dec (s : State) (v : Word) : (s.writeXer v).dec = s.dec := rfl
@[simp] theorem State.writeXer_tb (s : State) (v : Word) : (s.writeXer v).tb = s.tb := rfl
@[simp] theorem State.writeXer_sdr1 (s : State) (v : Word) : (s.writeXer v).sdr1 = s.sdr1 := rfl
@[simp] theorem State.writeXer_sprg (s : State) (v : Word) : (s.writeXer v).sprg = s.sprg := rfl
@[simp] theorem State.writeXer_ear (s : State) (v : Word) : (s.writeXer v).ear = s.ear := rfl
@[simp] theorem State.writeXer_sr (s : State) (v : Word) : (s.writeXer v).sr = s.sr := rfl
@[simp] theorem State.writeXer_ibat (s : State) (v : Word) : (s.writeXer v).ibat = s.ibat := rfl
@[simp] theorem State.writeXer_dbat (s : State) (v : Word) : (s.writeXer v).dbat = s.dbat := rfl
@[simp] theorem State.writeXer_gqr (s : State) (v : Word) : (s.writeXer v).gqr = s.gqr := rfl
@[simp] theorem State.writeXer_hid0 (s : State) (v : Word) : (s.writeXer v).hid0 = s.hid0 := rfl
@[simp] theorem State.writeXer_hid1 (s : State) (v : Word) : (s.writeXer v).hid1 = s.hid1 := rfl
@[simp] theorem State.writeXer_hid2 (s : State) (v : Word) : (s.writeXer v).hid2 = s.hid2 := rfl
@[simp] theorem State.writeXer_hid4 (s : State) (v : Word) : (s.writeXer v).hid4 = s.hid4 := rfl
@[simp] theorem State.writeXer_wpar (s : State) (v : Word) : (s.writeXer v).wpar = s.wpar := rfl
@[simp] theorem State.writeXer_dmau (s : State) (v : Word) : (s.writeXer v).dmau = s.dmau := rfl
@[simp] theorem State.writeXer_dmal (s : State) (v : Word) : (s.writeXer v).dmal = s.dmal := rfl
@[simp] theorem State.writeXer_mmcr0 (s : State) (v : Word) : (s.writeXer v).mmcr0 = s.mmcr0 := rfl
@[simp] theorem State.writeXer_mmcr1 (s : State) (v : Word) : (s.writeXer v).mmcr1 = s.mmcr1 := rfl
@[simp] theorem State.writeXer_pmc (s : State) (v : Word) : (s.writeXer v).pmc = s.pmc := rfl
@[simp] theorem State.writeXer_sia (s : State) (v : Word) : (s.writeXer v).sia = s.sia := rfl
@[simp] theorem State.writeXer_iabr (s : State) (v : Word) : (s.writeXer v).iabr = s.iabr := rfl
@[simp] theorem State.writeXer_dabr (s : State) (v : Word) : (s.writeXer v).dabr = s.dabr := rfl
@[simp] theorem State.writeXer_l2cr (s : State) (v : Word) : (s.writeXer v).l2cr = s.l2cr := rfl
@[simp] theorem State.writeXer_ictc (s : State) (v : Word) : (s.writeXer v).ictc = s.ictc := rfl
@[simp] theorem State.writeXer_thrm (s : State) (v : Word) : (s.writeXer v).thrm = s.thrm := rfl
@[simp] theorem State.writeXer_reserve (s : State) (v : Word) : (s.writeXer v).reserve = s.reserve := rfl
@[simp] theorem State.writeXer_reserveAddr (s : State) (v : Word) : (s.writeXer v).reserveAddr = s.reserveAddr := rfl
@[simp] theorem State.writeXer_decPending (s : State) (v : Word) : (s.writeXer v).decPending = s.decPending := rfl
@[simp] theorem State.writeXer_lines (s : State) (v : Word) : (s.writeXer v).lines = s.lines := rfl
@[simp] theorem State.writeXer_mode (s : State) (v : Word) : (s.writeXer v).mode = s.mode := rfl
@[simp] theorem State.writeXer_mem (s : State) (v : Word) : (s.writeXer v).mem = s.mem := rfl
@[simp] theorem State.writeXer_stale (s : State) (v : Word) : (s.writeXer v).stale = s.stale := rfl
@[simp] theorem State.writeXer_dirty (s : State) (v : Word) : (s.writeXer v).dirty = s.dirty := rfl
@[simp] theorem State.writeXer_late (s : State) (v : Word) : (s.writeXer v).late = s.late := rfl
@[simp] theorem State.writeXer_tables (s : State) (v : Word) : (s.writeXer v).tables = s.tables := rfl
@[simp] theorem State.writeXer_bus (s : State) (v : Word) : (s.writeXer v).bus = s.bus := rfl
@[simp] theorem State.writeXer_params (s : State) (v : Word) : (s.writeXer v).params = s.params := rfl
@[simp] theorem State.writeXer_draws (s : State) (v : Word) : (s.writeXer v).draws = s.draws := rfl
@[simp] theorem State.writeXer_time (s : State) (v : Word) : (s.writeXer v).time = s.time := rfl

/-! ### `setCrf` -/

@[simp] theorem State.setCrf_pc (s : State) (n : CrField) (v : BitVec 4) : (s.setCrf n v).pc = s.pc := rfl
@[simp] theorem State.setCrf_gpr (s : State) (n : CrField) (v : BitVec 4) : (s.setCrf n v).gpr = s.gpr := rfl
@[simp] theorem State.setCrf_ps0 (s : State) (n : CrField) (v : BitVec 4) : (s.setCrf n v).ps0 = s.ps0 := rfl
@[simp] theorem State.setCrf_ps1 (s : State) (n : CrField) (v : BitVec 4) : (s.setCrf n v).ps1 = s.ps1 := rfl
@[simp] theorem State.setCrf_cr (s : State) (n : CrField) (v : BitVec 4) : (s.setCrf n v).cr = replaceField s.cr n v := rfl
@[simp] theorem State.setCrf_lr (s : State) (n : CrField) (v : BitVec 4) : (s.setCrf n v).lr = s.lr := rfl
@[simp] theorem State.setCrf_ctr (s : State) (n : CrField) (v : BitVec 4) : (s.setCrf n v).ctr = s.ctr := rfl
@[simp] theorem State.setCrf_xer (s : State) (n : CrField) (v : BitVec 4) : (s.setCrf n v).xer = s.xer := rfl
@[simp] theorem State.setCrf_xerReservedWritten (s : State) (n : CrField) (v : BitVec 4) : (s.setCrf n v).xerReservedWritten = s.xerReservedWritten := rfl
@[simp] theorem State.setCrf_fpscr (s : State) (n : CrField) (v : BitVec 4) : (s.setCrf n v).fpscr = s.fpscr := rfl
@[simp] theorem State.setCrf_msr (s : State) (n : CrField) (v : BitVec 4) : (s.setCrf n v).msr = s.msr := rfl
@[simp] theorem State.setCrf_srr0 (s : State) (n : CrField) (v : BitVec 4) : (s.setCrf n v).srr0 = s.srr0 := rfl
@[simp] theorem State.setCrf_srr1 (s : State) (n : CrField) (v : BitVec 4) : (s.setCrf n v).srr1 = s.srr1 := rfl
@[simp] theorem State.setCrf_dar (s : State) (n : CrField) (v : BitVec 4) : (s.setCrf n v).dar = s.dar := rfl
@[simp] theorem State.setCrf_dsisr (s : State) (n : CrField) (v : BitVec 4) : (s.setCrf n v).dsisr = s.dsisr := rfl
@[simp] theorem State.setCrf_dec (s : State) (n : CrField) (v : BitVec 4) : (s.setCrf n v).dec = s.dec := rfl
@[simp] theorem State.setCrf_tb (s : State) (n : CrField) (v : BitVec 4) : (s.setCrf n v).tb = s.tb := rfl
@[simp] theorem State.setCrf_sdr1 (s : State) (n : CrField) (v : BitVec 4) : (s.setCrf n v).sdr1 = s.sdr1 := rfl
@[simp] theorem State.setCrf_sprg (s : State) (n : CrField) (v : BitVec 4) : (s.setCrf n v).sprg = s.sprg := rfl
@[simp] theorem State.setCrf_ear (s : State) (n : CrField) (v : BitVec 4) : (s.setCrf n v).ear = s.ear := rfl
@[simp] theorem State.setCrf_sr (s : State) (n : CrField) (v : BitVec 4) : (s.setCrf n v).sr = s.sr := rfl
@[simp] theorem State.setCrf_ibat (s : State) (n : CrField) (v : BitVec 4) : (s.setCrf n v).ibat = s.ibat := rfl
@[simp] theorem State.setCrf_dbat (s : State) (n : CrField) (v : BitVec 4) : (s.setCrf n v).dbat = s.dbat := rfl
@[simp] theorem State.setCrf_gqr (s : State) (n : CrField) (v : BitVec 4) : (s.setCrf n v).gqr = s.gqr := rfl
@[simp] theorem State.setCrf_hid0 (s : State) (n : CrField) (v : BitVec 4) : (s.setCrf n v).hid0 = s.hid0 := rfl
@[simp] theorem State.setCrf_hid1 (s : State) (n : CrField) (v : BitVec 4) : (s.setCrf n v).hid1 = s.hid1 := rfl
@[simp] theorem State.setCrf_hid2 (s : State) (n : CrField) (v : BitVec 4) : (s.setCrf n v).hid2 = s.hid2 := rfl
@[simp] theorem State.setCrf_hid4 (s : State) (n : CrField) (v : BitVec 4) : (s.setCrf n v).hid4 = s.hid4 := rfl
@[simp] theorem State.setCrf_wpar (s : State) (n : CrField) (v : BitVec 4) : (s.setCrf n v).wpar = s.wpar := rfl
@[simp] theorem State.setCrf_dmau (s : State) (n : CrField) (v : BitVec 4) : (s.setCrf n v).dmau = s.dmau := rfl
@[simp] theorem State.setCrf_dmal (s : State) (n : CrField) (v : BitVec 4) : (s.setCrf n v).dmal = s.dmal := rfl
@[simp] theorem State.setCrf_mmcr0 (s : State) (n : CrField) (v : BitVec 4) : (s.setCrf n v).mmcr0 = s.mmcr0 := rfl
@[simp] theorem State.setCrf_mmcr1 (s : State) (n : CrField) (v : BitVec 4) : (s.setCrf n v).mmcr1 = s.mmcr1 := rfl
@[simp] theorem State.setCrf_pmc (s : State) (n : CrField) (v : BitVec 4) : (s.setCrf n v).pmc = s.pmc := rfl
@[simp] theorem State.setCrf_sia (s : State) (n : CrField) (v : BitVec 4) : (s.setCrf n v).sia = s.sia := rfl
@[simp] theorem State.setCrf_iabr (s : State) (n : CrField) (v : BitVec 4) : (s.setCrf n v).iabr = s.iabr := rfl
@[simp] theorem State.setCrf_dabr (s : State) (n : CrField) (v : BitVec 4) : (s.setCrf n v).dabr = s.dabr := rfl
@[simp] theorem State.setCrf_l2cr (s : State) (n : CrField) (v : BitVec 4) : (s.setCrf n v).l2cr = s.l2cr := rfl
@[simp] theorem State.setCrf_ictc (s : State) (n : CrField) (v : BitVec 4) : (s.setCrf n v).ictc = s.ictc := rfl
@[simp] theorem State.setCrf_thrm (s : State) (n : CrField) (v : BitVec 4) : (s.setCrf n v).thrm = s.thrm := rfl
@[simp] theorem State.setCrf_reserve (s : State) (n : CrField) (v : BitVec 4) : (s.setCrf n v).reserve = s.reserve := rfl
@[simp] theorem State.setCrf_reserveAddr (s : State) (n : CrField) (v : BitVec 4) : (s.setCrf n v).reserveAddr = s.reserveAddr := rfl
@[simp] theorem State.setCrf_decPending (s : State) (n : CrField) (v : BitVec 4) : (s.setCrf n v).decPending = s.decPending := rfl
@[simp] theorem State.setCrf_lines (s : State) (n : CrField) (v : BitVec 4) : (s.setCrf n v).lines = s.lines := rfl
@[simp] theorem State.setCrf_mode (s : State) (n : CrField) (v : BitVec 4) : (s.setCrf n v).mode = s.mode := rfl
@[simp] theorem State.setCrf_mem (s : State) (n : CrField) (v : BitVec 4) : (s.setCrf n v).mem = s.mem := rfl
@[simp] theorem State.setCrf_stale (s : State) (n : CrField) (v : BitVec 4) : (s.setCrf n v).stale = s.stale := rfl
@[simp] theorem State.setCrf_dirty (s : State) (n : CrField) (v : BitVec 4) : (s.setCrf n v).dirty = s.dirty := rfl
@[simp] theorem State.setCrf_late (s : State) (n : CrField) (v : BitVec 4) : (s.setCrf n v).late = s.late := rfl
@[simp] theorem State.setCrf_tables (s : State) (n : CrField) (v : BitVec 4) : (s.setCrf n v).tables = s.tables := rfl
@[simp] theorem State.setCrf_bus (s : State) (n : CrField) (v : BitVec 4) : (s.setCrf n v).bus = s.bus := rfl
@[simp] theorem State.setCrf_params (s : State) (n : CrField) (v : BitVec 4) : (s.setCrf n v).params = s.params := rfl
@[simp] theorem State.setCrf_draws (s : State) (n : CrField) (v : BitVec 4) : (s.setCrf n v).draws = s.draws := rfl
@[simp] theorem State.setCrf_time (s : State) (n : CrField) (v : BitVec 4) : (s.setCrf n v).time = s.time := rfl

/-! ### `setCrBit` -/

@[simp] theorem State.setCrBit_pc (s : State) (b : CrBit) (v : Bool) : (s.setCrBit b v).pc = s.pc := rfl
@[simp] theorem State.setCrBit_gpr (s : State) (b : CrBit) (v : Bool) : (s.setCrBit b v).gpr = s.gpr := rfl
@[simp] theorem State.setCrBit_ps0 (s : State) (b : CrBit) (v : Bool) : (s.setCrBit b v).ps0 = s.ps0 := rfl
@[simp] theorem State.setCrBit_ps1 (s : State) (b : CrBit) (v : Bool) : (s.setCrBit b v).ps1 = s.ps1 := rfl
@[simp] theorem State.setCrBit_cr (s : State) (b : CrBit) (v : Bool) : (s.setCrBit b v).cr = setBit s.cr (31 - b.toNat) v := rfl
@[simp] theorem State.setCrBit_lr (s : State) (b : CrBit) (v : Bool) : (s.setCrBit b v).lr = s.lr := rfl
@[simp] theorem State.setCrBit_ctr (s : State) (b : CrBit) (v : Bool) : (s.setCrBit b v).ctr = s.ctr := rfl
@[simp] theorem State.setCrBit_xer (s : State) (b : CrBit) (v : Bool) : (s.setCrBit b v).xer = s.xer := rfl
@[simp] theorem State.setCrBit_xerReservedWritten (s : State) (b : CrBit) (v : Bool) : (s.setCrBit b v).xerReservedWritten = s.xerReservedWritten := rfl
@[simp] theorem State.setCrBit_fpscr (s : State) (b : CrBit) (v : Bool) : (s.setCrBit b v).fpscr = s.fpscr := rfl
@[simp] theorem State.setCrBit_msr (s : State) (b : CrBit) (v : Bool) : (s.setCrBit b v).msr = s.msr := rfl
@[simp] theorem State.setCrBit_srr0 (s : State) (b : CrBit) (v : Bool) : (s.setCrBit b v).srr0 = s.srr0 := rfl
@[simp] theorem State.setCrBit_srr1 (s : State) (b : CrBit) (v : Bool) : (s.setCrBit b v).srr1 = s.srr1 := rfl
@[simp] theorem State.setCrBit_dar (s : State) (b : CrBit) (v : Bool) : (s.setCrBit b v).dar = s.dar := rfl
@[simp] theorem State.setCrBit_dsisr (s : State) (b : CrBit) (v : Bool) : (s.setCrBit b v).dsisr = s.dsisr := rfl
@[simp] theorem State.setCrBit_dec (s : State) (b : CrBit) (v : Bool) : (s.setCrBit b v).dec = s.dec := rfl
@[simp] theorem State.setCrBit_tb (s : State) (b : CrBit) (v : Bool) : (s.setCrBit b v).tb = s.tb := rfl
@[simp] theorem State.setCrBit_sdr1 (s : State) (b : CrBit) (v : Bool) : (s.setCrBit b v).sdr1 = s.sdr1 := rfl
@[simp] theorem State.setCrBit_sprg (s : State) (b : CrBit) (v : Bool) : (s.setCrBit b v).sprg = s.sprg := rfl
@[simp] theorem State.setCrBit_ear (s : State) (b : CrBit) (v : Bool) : (s.setCrBit b v).ear = s.ear := rfl
@[simp] theorem State.setCrBit_sr (s : State) (b : CrBit) (v : Bool) : (s.setCrBit b v).sr = s.sr := rfl
@[simp] theorem State.setCrBit_ibat (s : State) (b : CrBit) (v : Bool) : (s.setCrBit b v).ibat = s.ibat := rfl
@[simp] theorem State.setCrBit_dbat (s : State) (b : CrBit) (v : Bool) : (s.setCrBit b v).dbat = s.dbat := rfl
@[simp] theorem State.setCrBit_gqr (s : State) (b : CrBit) (v : Bool) : (s.setCrBit b v).gqr = s.gqr := rfl
@[simp] theorem State.setCrBit_hid0 (s : State) (b : CrBit) (v : Bool) : (s.setCrBit b v).hid0 = s.hid0 := rfl
@[simp] theorem State.setCrBit_hid1 (s : State) (b : CrBit) (v : Bool) : (s.setCrBit b v).hid1 = s.hid1 := rfl
@[simp] theorem State.setCrBit_hid2 (s : State) (b : CrBit) (v : Bool) : (s.setCrBit b v).hid2 = s.hid2 := rfl
@[simp] theorem State.setCrBit_hid4 (s : State) (b : CrBit) (v : Bool) : (s.setCrBit b v).hid4 = s.hid4 := rfl
@[simp] theorem State.setCrBit_wpar (s : State) (b : CrBit) (v : Bool) : (s.setCrBit b v).wpar = s.wpar := rfl
@[simp] theorem State.setCrBit_dmau (s : State) (b : CrBit) (v : Bool) : (s.setCrBit b v).dmau = s.dmau := rfl
@[simp] theorem State.setCrBit_dmal (s : State) (b : CrBit) (v : Bool) : (s.setCrBit b v).dmal = s.dmal := rfl
@[simp] theorem State.setCrBit_mmcr0 (s : State) (b : CrBit) (v : Bool) : (s.setCrBit b v).mmcr0 = s.mmcr0 := rfl
@[simp] theorem State.setCrBit_mmcr1 (s : State) (b : CrBit) (v : Bool) : (s.setCrBit b v).mmcr1 = s.mmcr1 := rfl
@[simp] theorem State.setCrBit_pmc (s : State) (b : CrBit) (v : Bool) : (s.setCrBit b v).pmc = s.pmc := rfl
@[simp] theorem State.setCrBit_sia (s : State) (b : CrBit) (v : Bool) : (s.setCrBit b v).sia = s.sia := rfl
@[simp] theorem State.setCrBit_iabr (s : State) (b : CrBit) (v : Bool) : (s.setCrBit b v).iabr = s.iabr := rfl
@[simp] theorem State.setCrBit_dabr (s : State) (b : CrBit) (v : Bool) : (s.setCrBit b v).dabr = s.dabr := rfl
@[simp] theorem State.setCrBit_l2cr (s : State) (b : CrBit) (v : Bool) : (s.setCrBit b v).l2cr = s.l2cr := rfl
@[simp] theorem State.setCrBit_ictc (s : State) (b : CrBit) (v : Bool) : (s.setCrBit b v).ictc = s.ictc := rfl
@[simp] theorem State.setCrBit_thrm (s : State) (b : CrBit) (v : Bool) : (s.setCrBit b v).thrm = s.thrm := rfl
@[simp] theorem State.setCrBit_reserve (s : State) (b : CrBit) (v : Bool) : (s.setCrBit b v).reserve = s.reserve := rfl
@[simp] theorem State.setCrBit_reserveAddr (s : State) (b : CrBit) (v : Bool) : (s.setCrBit b v).reserveAddr = s.reserveAddr := rfl
@[simp] theorem State.setCrBit_decPending (s : State) (b : CrBit) (v : Bool) : (s.setCrBit b v).decPending = s.decPending := rfl
@[simp] theorem State.setCrBit_lines (s : State) (b : CrBit) (v : Bool) : (s.setCrBit b v).lines = s.lines := rfl
@[simp] theorem State.setCrBit_mode (s : State) (b : CrBit) (v : Bool) : (s.setCrBit b v).mode = s.mode := rfl
@[simp] theorem State.setCrBit_mem (s : State) (b : CrBit) (v : Bool) : (s.setCrBit b v).mem = s.mem := rfl
@[simp] theorem State.setCrBit_stale (s : State) (b : CrBit) (v : Bool) : (s.setCrBit b v).stale = s.stale := rfl
@[simp] theorem State.setCrBit_dirty (s : State) (b : CrBit) (v : Bool) : (s.setCrBit b v).dirty = s.dirty := rfl
@[simp] theorem State.setCrBit_late (s : State) (b : CrBit) (v : Bool) : (s.setCrBit b v).late = s.late := rfl
@[simp] theorem State.setCrBit_tables (s : State) (b : CrBit) (v : Bool) : (s.setCrBit b v).tables = s.tables := rfl
@[simp] theorem State.setCrBit_bus (s : State) (b : CrBit) (v : Bool) : (s.setCrBit b v).bus = s.bus := rfl
@[simp] theorem State.setCrBit_params (s : State) (b : CrBit) (v : Bool) : (s.setCrBit b v).params = s.params := rfl
@[simp] theorem State.setCrBit_draws (s : State) (b : CrBit) (v : Bool) : (s.setCrBit b v).draws = s.draws := rfl
@[simp] theorem State.setCrBit_time (s : State) (b : CrBit) (v : Bool) : (s.setCrBit b v).time = s.time := rfl

/-! ### `entered` -/

@[simp] theorem State.entered_pc (s : State) (e : Exception) (ra info : Word) : (s.entered e ra info).pc = vectorAddress s.msrIp e := rfl
@[simp] theorem State.entered_gpr (s : State) (e : Exception) (ra info : Word) : (s.entered e ra info).gpr = s.gpr := rfl
@[simp] theorem State.entered_ps0 (s : State) (e : Exception) (ra info : Word) : (s.entered e ra info).ps0 = s.ps0 := rfl
@[simp] theorem State.entered_ps1 (s : State) (e : Exception) (ra info : Word) : (s.entered e ra info).ps1 = s.ps1 := rfl
@[simp] theorem State.entered_cr (s : State) (e : Exception) (ra info : Word) : (s.entered e ra info).cr = s.cr := rfl
@[simp] theorem State.entered_lr (s : State) (e : Exception) (ra info : Word) : (s.entered e ra info).lr = s.lr := rfl
@[simp] theorem State.entered_ctr (s : State) (e : Exception) (ra info : Word) : (s.entered e ra info).ctr = s.ctr := rfl
@[simp] theorem State.entered_xer (s : State) (e : Exception) (ra info : Word) : (s.entered e ra info).xer = s.xer := rfl
@[simp] theorem State.entered_xerReservedWritten (s : State) (e : Exception) (ra info : Word) : (s.entered e ra info).xerReservedWritten = s.xerReservedWritten := rfl
@[simp] theorem State.entered_fpscr (s : State) (e : Exception) (ra info : Word) : (s.entered e ra info).fpscr = s.fpscr := rfl
@[simp] theorem State.entered_msr (s : State) (e : Exception) (ra info : Word) : (s.entered e ra info).msr = s.msr &&& keptOnEntry e := rfl
@[simp] theorem State.entered_srr0 (s : State) (e : Exception) (ra info : Word) : (s.entered e ra info).srr0 = ra &&& 0xFFFFFFFC := rfl
@[simp] theorem State.entered_srr1 (s : State) (e : Exception) (ra info : Word) : (s.entered e ra info).srr1 = (s.msr &&& 0x87C0FFFF) ||| info := rfl
@[simp] theorem State.entered_dar (s : State) (e : Exception) (ra info : Word) : (s.entered e ra info).dar = s.dar := rfl
@[simp] theorem State.entered_dsisr (s : State) (e : Exception) (ra info : Word) : (s.entered e ra info).dsisr = s.dsisr := rfl
@[simp] theorem State.entered_dec (s : State) (e : Exception) (ra info : Word) : (s.entered e ra info).dec = s.dec := rfl
@[simp] theorem State.entered_tb (s : State) (e : Exception) (ra info : Word) : (s.entered e ra info).tb = s.tb := rfl
@[simp] theorem State.entered_sdr1 (s : State) (e : Exception) (ra info : Word) : (s.entered e ra info).sdr1 = s.sdr1 := rfl
@[simp] theorem State.entered_sprg (s : State) (e : Exception) (ra info : Word) : (s.entered e ra info).sprg = s.sprg := rfl
@[simp] theorem State.entered_ear (s : State) (e : Exception) (ra info : Word) : (s.entered e ra info).ear = s.ear := rfl
@[simp] theorem State.entered_sr (s : State) (e : Exception) (ra info : Word) : (s.entered e ra info).sr = s.sr := rfl
@[simp] theorem State.entered_ibat (s : State) (e : Exception) (ra info : Word) : (s.entered e ra info).ibat = s.ibat := rfl
@[simp] theorem State.entered_dbat (s : State) (e : Exception) (ra info : Word) : (s.entered e ra info).dbat = s.dbat := rfl
@[simp] theorem State.entered_gqr (s : State) (e : Exception) (ra info : Word) : (s.entered e ra info).gqr = s.gqr := rfl
@[simp] theorem State.entered_hid0 (s : State) (e : Exception) (ra info : Word) : (s.entered e ra info).hid0 = s.hid0 := rfl
@[simp] theorem State.entered_hid1 (s : State) (e : Exception) (ra info : Word) : (s.entered e ra info).hid1 = s.hid1 := rfl
@[simp] theorem State.entered_hid2 (s : State) (e : Exception) (ra info : Word) : (s.entered e ra info).hid2 = s.hid2 := rfl
@[simp] theorem State.entered_hid4 (s : State) (e : Exception) (ra info : Word) : (s.entered e ra info).hid4 = s.hid4 := rfl
@[simp] theorem State.entered_wpar (s : State) (e : Exception) (ra info : Word) : (s.entered e ra info).wpar = s.wpar := rfl
@[simp] theorem State.entered_dmau (s : State) (e : Exception) (ra info : Word) : (s.entered e ra info).dmau = s.dmau := rfl
@[simp] theorem State.entered_dmal (s : State) (e : Exception) (ra info : Word) : (s.entered e ra info).dmal = s.dmal := rfl
@[simp] theorem State.entered_mmcr0 (s : State) (e : Exception) (ra info : Word) : (s.entered e ra info).mmcr0 = s.mmcr0 := rfl
@[simp] theorem State.entered_mmcr1 (s : State) (e : Exception) (ra info : Word) : (s.entered e ra info).mmcr1 = s.mmcr1 := rfl
@[simp] theorem State.entered_pmc (s : State) (e : Exception) (ra info : Word) : (s.entered e ra info).pmc = s.pmc := rfl
@[simp] theorem State.entered_sia (s : State) (e : Exception) (ra info : Word) : (s.entered e ra info).sia = s.sia := rfl
@[simp] theorem State.entered_iabr (s : State) (e : Exception) (ra info : Word) : (s.entered e ra info).iabr = s.iabr := rfl
@[simp] theorem State.entered_dabr (s : State) (e : Exception) (ra info : Word) : (s.entered e ra info).dabr = s.dabr := rfl
@[simp] theorem State.entered_l2cr (s : State) (e : Exception) (ra info : Word) : (s.entered e ra info).l2cr = s.l2cr := rfl
@[simp] theorem State.entered_ictc (s : State) (e : Exception) (ra info : Word) : (s.entered e ra info).ictc = s.ictc := rfl
@[simp] theorem State.entered_thrm (s : State) (e : Exception) (ra info : Word) : (s.entered e ra info).thrm = s.thrm := rfl
@[simp] theorem State.entered_reserve (s : State) (e : Exception) (ra info : Word) : (s.entered e ra info).reserve = s.reserve := rfl
@[simp] theorem State.entered_reserveAddr (s : State) (e : Exception) (ra info : Word) : (s.entered e ra info).reserveAddr = s.reserveAddr := rfl
@[simp] theorem State.entered_decPending (s : State) (e : Exception) (ra info : Word) : (s.entered e ra info).decPending = s.decPending := rfl
@[simp] theorem State.entered_lines (s : State) (e : Exception) (ra info : Word) : (s.entered e ra info).lines = s.lines := rfl
@[simp] theorem State.entered_mode (s : State) (e : Exception) (ra info : Word) : (s.entered e ra info).mode = s.mode := rfl
@[simp] theorem State.entered_mem (s : State) (e : Exception) (ra info : Word) : (s.entered e ra info).mem = s.mem := rfl
@[simp] theorem State.entered_stale (s : State) (e : Exception) (ra info : Word) : (s.entered e ra info).stale = s.resynced.stale := rfl
@[simp] theorem State.entered_dirty (s : State) (e : Exception) (ra info : Word) : (s.entered e ra info).dirty = s.dirty := rfl
@[simp] theorem State.entered_late (s : State) (e : Exception) (ra info : Word) : (s.entered e ra info).late = s.resynced.late := rfl
@[simp] theorem State.entered_tables (s : State) (e : Exception) (ra info : Word) : (s.entered e ra info).tables = s.tables := rfl
@[simp] theorem State.entered_bus (s : State) (e : Exception) (ra info : Word) : (s.entered e ra info).bus = s.bus := rfl
@[simp] theorem State.entered_params (s : State) (e : Exception) (ra info : Word) : (s.entered e ra info).params = s.params := rfl
@[simp] theorem State.entered_draws (s : State) (e : Exception) (ra info : Word) : (s.entered e ra info).draws = s.draws := rfl
@[simp] theorem State.entered_time (s : State) (e : Exception) (ra info : Word) : (s.entered e ra info).time = s.time := rfl

/-! ### `returned` -/

@[simp] theorem State.returned_pc (s : State) : (s.returned).pc = s.srr0 &&& 0xFFFFFFFC := rfl
@[simp] theorem State.returned_gpr (s : State) : (s.returned).gpr = s.gpr := rfl
@[simp] theorem State.returned_ps0 (s : State) : (s.returned).ps0 = s.ps0 := rfl
@[simp] theorem State.returned_ps1 (s : State) : (s.returned).ps1 = s.ps1 := rfl
@[simp] theorem State.returned_cr (s : State) : (s.returned).cr = s.cr := rfl
@[simp] theorem State.returned_lr (s : State) : (s.returned).lr = s.lr := rfl
@[simp] theorem State.returned_ctr (s : State) : (s.returned).ctr = s.ctr := rfl
@[simp] theorem State.returned_xer (s : State) : (s.returned).xer = s.xer := rfl
@[simp] theorem State.returned_xerReservedWritten (s : State) : (s.returned).xerReservedWritten = s.xerReservedWritten := rfl
@[simp] theorem State.returned_fpscr (s : State) : (s.returned).fpscr = s.fpscr := rfl
@[simp] theorem State.returned_msr (s : State) : (s.returned).msr = s.msrAfterRfi := rfl
@[simp] theorem State.returned_srr0 (s : State) : (s.returned).srr0 = s.srr0 := rfl
@[simp] theorem State.returned_srr1 (s : State) : (s.returned).srr1 = s.srr1 := rfl
@[simp] theorem State.returned_dar (s : State) : (s.returned).dar = s.dar := rfl
@[simp] theorem State.returned_dsisr (s : State) : (s.returned).dsisr = s.dsisr := rfl
@[simp] theorem State.returned_dec (s : State) : (s.returned).dec = s.dec := rfl
@[simp] theorem State.returned_tb (s : State) : (s.returned).tb = s.tb := rfl
@[simp] theorem State.returned_sdr1 (s : State) : (s.returned).sdr1 = s.sdr1 := rfl
@[simp] theorem State.returned_sprg (s : State) : (s.returned).sprg = s.sprg := rfl
@[simp] theorem State.returned_ear (s : State) : (s.returned).ear = s.ear := rfl
@[simp] theorem State.returned_sr (s : State) : (s.returned).sr = s.sr := rfl
@[simp] theorem State.returned_ibat (s : State) : (s.returned).ibat = s.ibat := rfl
@[simp] theorem State.returned_dbat (s : State) : (s.returned).dbat = s.dbat := rfl
@[simp] theorem State.returned_gqr (s : State) : (s.returned).gqr = s.gqr := rfl
@[simp] theorem State.returned_hid0 (s : State) : (s.returned).hid0 = s.hid0 := rfl
@[simp] theorem State.returned_hid1 (s : State) : (s.returned).hid1 = s.hid1 := rfl
@[simp] theorem State.returned_hid2 (s : State) : (s.returned).hid2 = s.hid2 := rfl
@[simp] theorem State.returned_hid4 (s : State) : (s.returned).hid4 = s.hid4 := rfl
@[simp] theorem State.returned_wpar (s : State) : (s.returned).wpar = s.wpar := rfl
@[simp] theorem State.returned_dmau (s : State) : (s.returned).dmau = s.dmau := rfl
@[simp] theorem State.returned_dmal (s : State) : (s.returned).dmal = s.dmal := rfl
@[simp] theorem State.returned_mmcr0 (s : State) : (s.returned).mmcr0 = s.mmcr0 := rfl
@[simp] theorem State.returned_mmcr1 (s : State) : (s.returned).mmcr1 = s.mmcr1 := rfl
@[simp] theorem State.returned_pmc (s : State) : (s.returned).pmc = s.pmc := rfl
@[simp] theorem State.returned_sia (s : State) : (s.returned).sia = s.sia := rfl
@[simp] theorem State.returned_iabr (s : State) : (s.returned).iabr = s.iabr := rfl
@[simp] theorem State.returned_dabr (s : State) : (s.returned).dabr = s.dabr := rfl
@[simp] theorem State.returned_l2cr (s : State) : (s.returned).l2cr = s.l2cr := rfl
@[simp] theorem State.returned_ictc (s : State) : (s.returned).ictc = s.ictc := rfl
@[simp] theorem State.returned_thrm (s : State) : (s.returned).thrm = s.thrm := rfl
@[simp] theorem State.returned_reserve (s : State) : (s.returned).reserve = s.reserve := rfl
@[simp] theorem State.returned_reserveAddr (s : State) : (s.returned).reserveAddr = s.reserveAddr := rfl
@[simp] theorem State.returned_decPending (s : State) : (s.returned).decPending = s.decPending := rfl
@[simp] theorem State.returned_lines (s : State) : (s.returned).lines = s.lines := rfl
@[simp] theorem State.returned_mode (s : State) : (s.returned).mode = s.mode := rfl
@[simp] theorem State.returned_mem (s : State) : (s.returned).mem = s.mem := rfl
@[simp] theorem State.returned_stale (s : State) : (s.returned).stale = s.resynced.stale := rfl
@[simp] theorem State.returned_dirty (s : State) : (s.returned).dirty = s.dirty := rfl
@[simp] theorem State.returned_late (s : State) : (s.returned).late = s.resynced.late := rfl
@[simp] theorem State.returned_tables (s : State) : (s.returned).tables = s.tables := rfl
@[simp] theorem State.returned_bus (s : State) : (s.returned).bus = s.bus := rfl
@[simp] theorem State.returned_params (s : State) : (s.returned).params = s.params := rfl
@[simp] theorem State.returned_draws (s : State) : (s.returned).draws = s.draws := rfl
@[simp] theorem State.returned_time (s : State) : (s.returned).time = s.time := rfl

/-! ### `superseding` -/

@[simp] theorem State.superseding_pc (s : State) (r : ContextReg) : (s.superseding r).pc = s.pc := rfl
@[simp] theorem State.superseding_gpr (s : State) (r : ContextReg) : (s.superseding r).gpr = s.gpr := rfl
@[simp] theorem State.superseding_ps0 (s : State) (r : ContextReg) : (s.superseding r).ps0 = s.ps0 := rfl
@[simp] theorem State.superseding_ps1 (s : State) (r : ContextReg) : (s.superseding r).ps1 = s.ps1 := rfl
@[simp] theorem State.superseding_cr (s : State) (r : ContextReg) : (s.superseding r).cr = s.cr := rfl
@[simp] theorem State.superseding_lr (s : State) (r : ContextReg) : (s.superseding r).lr = s.lr := rfl
@[simp] theorem State.superseding_ctr (s : State) (r : ContextReg) : (s.superseding r).ctr = s.ctr := rfl
@[simp] theorem State.superseding_xer (s : State) (r : ContextReg) : (s.superseding r).xer = s.xer := rfl
@[simp] theorem State.superseding_xerReservedWritten (s : State) (r : ContextReg) : (s.superseding r).xerReservedWritten = s.xerReservedWritten := rfl
@[simp] theorem State.superseding_fpscr (s : State) (r : ContextReg) : (s.superseding r).fpscr = s.fpscr := rfl
@[simp] theorem State.superseding_msr (s : State) (r : ContextReg) : (s.superseding r).msr = s.msr := rfl
@[simp] theorem State.superseding_srr0 (s : State) (r : ContextReg) : (s.superseding r).srr0 = s.srr0 := rfl
@[simp] theorem State.superseding_srr1 (s : State) (r : ContextReg) : (s.superseding r).srr1 = s.srr1 := rfl
@[simp] theorem State.superseding_dar (s : State) (r : ContextReg) : (s.superseding r).dar = s.dar := rfl
@[simp] theorem State.superseding_dsisr (s : State) (r : ContextReg) : (s.superseding r).dsisr = s.dsisr := rfl
@[simp] theorem State.superseding_dec (s : State) (r : ContextReg) : (s.superseding r).dec = s.dec := rfl
@[simp] theorem State.superseding_tb (s : State) (r : ContextReg) : (s.superseding r).tb = s.tb := rfl
@[simp] theorem State.superseding_sdr1 (s : State) (r : ContextReg) : (s.superseding r).sdr1 = s.sdr1 := rfl
@[simp] theorem State.superseding_sprg (s : State) (r : ContextReg) : (s.superseding r).sprg = s.sprg := rfl
@[simp] theorem State.superseding_ear (s : State) (r : ContextReg) : (s.superseding r).ear = s.ear := rfl
@[simp] theorem State.superseding_sr (s : State) (r : ContextReg) : (s.superseding r).sr = s.sr := rfl
@[simp] theorem State.superseding_ibat (s : State) (r : ContextReg) : (s.superseding r).ibat = s.ibat := rfl
@[simp] theorem State.superseding_dbat (s : State) (r : ContextReg) : (s.superseding r).dbat = s.dbat := rfl
@[simp] theorem State.superseding_gqr (s : State) (r : ContextReg) : (s.superseding r).gqr = s.gqr := rfl
@[simp] theorem State.superseding_hid0 (s : State) (r : ContextReg) : (s.superseding r).hid0 = s.hid0 := rfl
@[simp] theorem State.superseding_hid1 (s : State) (r : ContextReg) : (s.superseding r).hid1 = s.hid1 := rfl
@[simp] theorem State.superseding_hid2 (s : State) (r : ContextReg) : (s.superseding r).hid2 = s.hid2 := rfl
@[simp] theorem State.superseding_hid4 (s : State) (r : ContextReg) : (s.superseding r).hid4 = s.hid4 := rfl
@[simp] theorem State.superseding_wpar (s : State) (r : ContextReg) : (s.superseding r).wpar = s.wpar := rfl
@[simp] theorem State.superseding_dmau (s : State) (r : ContextReg) : (s.superseding r).dmau = s.dmau := rfl
@[simp] theorem State.superseding_dmal (s : State) (r : ContextReg) : (s.superseding r).dmal = s.dmal := rfl
@[simp] theorem State.superseding_mmcr0 (s : State) (r : ContextReg) : (s.superseding r).mmcr0 = s.mmcr0 := rfl
@[simp] theorem State.superseding_mmcr1 (s : State) (r : ContextReg) : (s.superseding r).mmcr1 = s.mmcr1 := rfl
@[simp] theorem State.superseding_pmc (s : State) (r : ContextReg) : (s.superseding r).pmc = s.pmc := rfl
@[simp] theorem State.superseding_sia (s : State) (r : ContextReg) : (s.superseding r).sia = s.sia := rfl
@[simp] theorem State.superseding_iabr (s : State) (r : ContextReg) : (s.superseding r).iabr = s.iabr := rfl
@[simp] theorem State.superseding_dabr (s : State) (r : ContextReg) : (s.superseding r).dabr = s.dabr := rfl
@[simp] theorem State.superseding_l2cr (s : State) (r : ContextReg) : (s.superseding r).l2cr = s.l2cr := rfl
@[simp] theorem State.superseding_ictc (s : State) (r : ContextReg) : (s.superseding r).ictc = s.ictc := rfl
@[simp] theorem State.superseding_thrm (s : State) (r : ContextReg) : (s.superseding r).thrm = s.thrm := rfl
@[simp] theorem State.superseding_reserve (s : State) (r : ContextReg) : (s.superseding r).reserve = s.reserve := rfl
@[simp] theorem State.superseding_reserveAddr (s : State) (r : ContextReg) : (s.superseding r).reserveAddr = s.reserveAddr := rfl
@[simp] theorem State.superseding_decPending (s : State) (r : ContextReg) : (s.superseding r).decPending = s.decPending := rfl
@[simp] theorem State.superseding_lines (s : State) (r : ContextReg) : (s.superseding r).lines = s.lines := rfl
@[simp] theorem State.superseding_mode (s : State) (r : ContextReg) : (s.superseding r).mode = s.mode := rfl
@[simp] theorem State.superseding_mem (s : State) (r : ContextReg) : (s.superseding r).mem = s.mem := rfl
@[simp] theorem State.superseding_stale (s : State) (r : ContextReg) : (s.superseding r).stale = s.stale := rfl
@[simp] theorem State.superseding_dirty (s : State) (r : ContextReg) : (s.superseding r).dirty = s.dirty := rfl
@[simp] theorem State.superseding_late (s : State) (r : ContextReg) : (s.superseding r).late = ⟨r, s.contextReg r⟩ :: s.late := rfl
@[simp] theorem State.superseding_tables (s : State) (r : ContextReg) : (s.superseding r).tables = s.tables := rfl
@[simp] theorem State.superseding_bus (s : State) (r : ContextReg) : (s.superseding r).bus = s.bus := rfl
@[simp] theorem State.superseding_params (s : State) (r : ContextReg) : (s.superseding r).params = s.params := rfl
@[simp] theorem State.superseding_draws (s : State) (r : ContextReg) : (s.superseding r).draws = s.draws := rfl
@[simp] theorem State.superseding_time (s : State) (r : ContextReg) : (s.superseding r).time = s.time := rfl

/-! ### `contextSynced` -/

@[simp] theorem State.contextSynced_pc (s : State) : (s.contextSynced).pc = s.pc := rfl
@[simp] theorem State.contextSynced_gpr (s : State) : (s.contextSynced).gpr = s.gpr := rfl
@[simp] theorem State.contextSynced_ps0 (s : State) : (s.contextSynced).ps0 = s.ps0 := rfl
@[simp] theorem State.contextSynced_ps1 (s : State) : (s.contextSynced).ps1 = s.ps1 := rfl
@[simp] theorem State.contextSynced_cr (s : State) : (s.contextSynced).cr = s.cr := rfl
@[simp] theorem State.contextSynced_lr (s : State) : (s.contextSynced).lr = s.lr := rfl
@[simp] theorem State.contextSynced_ctr (s : State) : (s.contextSynced).ctr = s.ctr := rfl
@[simp] theorem State.contextSynced_xer (s : State) : (s.contextSynced).xer = s.xer := rfl
@[simp] theorem State.contextSynced_xerReservedWritten (s : State) : (s.contextSynced).xerReservedWritten = s.xerReservedWritten := rfl
@[simp] theorem State.contextSynced_fpscr (s : State) : (s.contextSynced).fpscr = s.fpscr := rfl
@[simp] theorem State.contextSynced_msr (s : State) : (s.contextSynced).msr = s.msr := rfl
@[simp] theorem State.contextSynced_srr0 (s : State) : (s.contextSynced).srr0 = s.srr0 := rfl
@[simp] theorem State.contextSynced_srr1 (s : State) : (s.contextSynced).srr1 = s.srr1 := rfl
@[simp] theorem State.contextSynced_dar (s : State) : (s.contextSynced).dar = s.dar := rfl
@[simp] theorem State.contextSynced_dsisr (s : State) : (s.contextSynced).dsisr = s.dsisr := rfl
@[simp] theorem State.contextSynced_dec (s : State) : (s.contextSynced).dec = s.dec := rfl
@[simp] theorem State.contextSynced_tb (s : State) : (s.contextSynced).tb = s.tb := rfl
@[simp] theorem State.contextSynced_sdr1 (s : State) : (s.contextSynced).sdr1 = s.sdr1 := rfl
@[simp] theorem State.contextSynced_sprg (s : State) : (s.contextSynced).sprg = s.sprg := rfl
@[simp] theorem State.contextSynced_ear (s : State) : (s.contextSynced).ear = s.ear := rfl
@[simp] theorem State.contextSynced_sr (s : State) : (s.contextSynced).sr = s.sr := rfl
@[simp] theorem State.contextSynced_ibat (s : State) : (s.contextSynced).ibat = s.ibat := rfl
@[simp] theorem State.contextSynced_dbat (s : State) : (s.contextSynced).dbat = s.dbat := rfl
@[simp] theorem State.contextSynced_gqr (s : State) : (s.contextSynced).gqr = s.gqr := rfl
@[simp] theorem State.contextSynced_hid0 (s : State) : (s.contextSynced).hid0 = s.hid0 := rfl
@[simp] theorem State.contextSynced_hid1 (s : State) : (s.contextSynced).hid1 = s.hid1 := rfl
@[simp] theorem State.contextSynced_hid2 (s : State) : (s.contextSynced).hid2 = s.hid2 := rfl
@[simp] theorem State.contextSynced_hid4 (s : State) : (s.contextSynced).hid4 = s.hid4 := rfl
@[simp] theorem State.contextSynced_wpar (s : State) : (s.contextSynced).wpar = s.wpar := rfl
@[simp] theorem State.contextSynced_dmau (s : State) : (s.contextSynced).dmau = s.dmau := rfl
@[simp] theorem State.contextSynced_dmal (s : State) : (s.contextSynced).dmal = s.dmal := rfl
@[simp] theorem State.contextSynced_mmcr0 (s : State) : (s.contextSynced).mmcr0 = s.mmcr0 := rfl
@[simp] theorem State.contextSynced_mmcr1 (s : State) : (s.contextSynced).mmcr1 = s.mmcr1 := rfl
@[simp] theorem State.contextSynced_pmc (s : State) : (s.contextSynced).pmc = s.pmc := rfl
@[simp] theorem State.contextSynced_sia (s : State) : (s.contextSynced).sia = s.sia := rfl
@[simp] theorem State.contextSynced_iabr (s : State) : (s.contextSynced).iabr = s.iabr := rfl
@[simp] theorem State.contextSynced_dabr (s : State) : (s.contextSynced).dabr = s.dabr := rfl
@[simp] theorem State.contextSynced_l2cr (s : State) : (s.contextSynced).l2cr = s.l2cr := rfl
@[simp] theorem State.contextSynced_ictc (s : State) : (s.contextSynced).ictc = s.ictc := rfl
@[simp] theorem State.contextSynced_thrm (s : State) : (s.contextSynced).thrm = s.thrm := rfl
@[simp] theorem State.contextSynced_reserve (s : State) : (s.contextSynced).reserve = s.reserve := rfl
@[simp] theorem State.contextSynced_reserveAddr (s : State) : (s.contextSynced).reserveAddr = s.reserveAddr := rfl
@[simp] theorem State.contextSynced_decPending (s : State) : (s.contextSynced).decPending = s.decPending := rfl
@[simp] theorem State.contextSynced_lines (s : State) : (s.contextSynced).lines = s.lines := rfl
@[simp] theorem State.contextSynced_mode (s : State) : (s.contextSynced).mode = s.mode := rfl
@[simp] theorem State.contextSynced_mem (s : State) : (s.contextSynced).mem = s.mem := rfl
@[simp] theorem State.contextSynced_stale (s : State) : (s.contextSynced).stale = s.stale := rfl
@[simp] theorem State.contextSynced_dirty (s : State) : (s.contextSynced).dirty = s.dirty := rfl
@[simp] theorem State.contextSynced_tables (s : State) : (s.contextSynced).tables = s.tables := rfl
@[simp] theorem State.contextSynced_bus (s : State) : (s.contextSynced).bus = s.bus := rfl
@[simp] theorem State.contextSynced_params (s : State) : (s.contextSynced).params = s.params := rfl
@[simp] theorem State.contextSynced_draws (s : State) : (s.contextSynced).draws = s.draws := rfl
@[simp] theorem State.contextSynced_time (s : State) : (s.contextSynced).time = s.time := rfl

/-! ### `refetched` -/

@[simp] theorem State.refetched_pc (s : State) : (s.refetched).pc = s.pc := rfl
@[simp] theorem State.refetched_gpr (s : State) : (s.refetched).gpr = s.gpr := rfl
@[simp] theorem State.refetched_ps0 (s : State) : (s.refetched).ps0 = s.ps0 := rfl
@[simp] theorem State.refetched_ps1 (s : State) : (s.refetched).ps1 = s.ps1 := rfl
@[simp] theorem State.refetched_cr (s : State) : (s.refetched).cr = s.cr := rfl
@[simp] theorem State.refetched_lr (s : State) : (s.refetched).lr = s.lr := rfl
@[simp] theorem State.refetched_ctr (s : State) : (s.refetched).ctr = s.ctr := rfl
@[simp] theorem State.refetched_xer (s : State) : (s.refetched).xer = s.xer := rfl
@[simp] theorem State.refetched_xerReservedWritten (s : State) : (s.refetched).xerReservedWritten = s.xerReservedWritten := rfl
@[simp] theorem State.refetched_fpscr (s : State) : (s.refetched).fpscr = s.fpscr := rfl
@[simp] theorem State.refetched_msr (s : State) : (s.refetched).msr = s.msr := rfl
@[simp] theorem State.refetched_srr0 (s : State) : (s.refetched).srr0 = s.srr0 := rfl
@[simp] theorem State.refetched_srr1 (s : State) : (s.refetched).srr1 = s.srr1 := rfl
@[simp] theorem State.refetched_dar (s : State) : (s.refetched).dar = s.dar := rfl
@[simp] theorem State.refetched_dsisr (s : State) : (s.refetched).dsisr = s.dsisr := rfl
@[simp] theorem State.refetched_dec (s : State) : (s.refetched).dec = s.dec := rfl
@[simp] theorem State.refetched_tb (s : State) : (s.refetched).tb = s.tb := rfl
@[simp] theorem State.refetched_sdr1 (s : State) : (s.refetched).sdr1 = s.sdr1 := rfl
@[simp] theorem State.refetched_sprg (s : State) : (s.refetched).sprg = s.sprg := rfl
@[simp] theorem State.refetched_ear (s : State) : (s.refetched).ear = s.ear := rfl
@[simp] theorem State.refetched_sr (s : State) : (s.refetched).sr = s.sr := rfl
@[simp] theorem State.refetched_ibat (s : State) : (s.refetched).ibat = s.ibat := rfl
@[simp] theorem State.refetched_dbat (s : State) : (s.refetched).dbat = s.dbat := rfl
@[simp] theorem State.refetched_gqr (s : State) : (s.refetched).gqr = s.gqr := rfl
@[simp] theorem State.refetched_hid0 (s : State) : (s.refetched).hid0 = s.hid0 := rfl
@[simp] theorem State.refetched_hid1 (s : State) : (s.refetched).hid1 = s.hid1 := rfl
@[simp] theorem State.refetched_hid2 (s : State) : (s.refetched).hid2 = s.hid2 := rfl
@[simp] theorem State.refetched_hid4 (s : State) : (s.refetched).hid4 = s.hid4 := rfl
@[simp] theorem State.refetched_wpar (s : State) : (s.refetched).wpar = s.wpar := rfl
@[simp] theorem State.refetched_dmau (s : State) : (s.refetched).dmau = s.dmau := rfl
@[simp] theorem State.refetched_dmal (s : State) : (s.refetched).dmal = s.dmal := rfl
@[simp] theorem State.refetched_mmcr0 (s : State) : (s.refetched).mmcr0 = s.mmcr0 := rfl
@[simp] theorem State.refetched_mmcr1 (s : State) : (s.refetched).mmcr1 = s.mmcr1 := rfl
@[simp] theorem State.refetched_pmc (s : State) : (s.refetched).pmc = s.pmc := rfl
@[simp] theorem State.refetched_sia (s : State) : (s.refetched).sia = s.sia := rfl
@[simp] theorem State.refetched_iabr (s : State) : (s.refetched).iabr = s.iabr := rfl
@[simp] theorem State.refetched_dabr (s : State) : (s.refetched).dabr = s.dabr := rfl
@[simp] theorem State.refetched_l2cr (s : State) : (s.refetched).l2cr = s.l2cr := rfl
@[simp] theorem State.refetched_ictc (s : State) : (s.refetched).ictc = s.ictc := rfl
@[simp] theorem State.refetched_thrm (s : State) : (s.refetched).thrm = s.thrm := rfl
@[simp] theorem State.refetched_reserve (s : State) : (s.refetched).reserve = s.reserve := rfl
@[simp] theorem State.refetched_reserveAddr (s : State) : (s.refetched).reserveAddr = s.reserveAddr := rfl
@[simp] theorem State.refetched_decPending (s : State) : (s.refetched).decPending = s.decPending := rfl
@[simp] theorem State.refetched_lines (s : State) : (s.refetched).lines = s.lines := rfl
@[simp] theorem State.refetched_mode (s : State) : (s.refetched).mode = s.mode := rfl
@[simp] theorem State.refetched_mem (s : State) : (s.refetched).mem = s.mem := rfl
@[simp] theorem State.refetched_dirty (s : State) : (s.refetched).dirty = s.dirty := rfl
@[simp] theorem State.refetched_late (s : State) : (s.refetched).late = s.late := rfl
@[simp] theorem State.refetched_tables (s : State) : (s.refetched).tables = s.tables := rfl
@[simp] theorem State.refetched_bus (s : State) : (s.refetched).bus = s.bus := rfl
@[simp] theorem State.refetched_params (s : State) : (s.refetched).params = s.params := rfl
@[simp] theorem State.refetched_draws (s : State) : (s.refetched).draws = s.draws := rfl
@[simp] theorem State.refetched_time (s : State) : (s.refetched).time = s.time := rfl

/-! ### `resynced` -/

@[simp] theorem State.resynced_pc (s : State) : (s.resynced).pc = s.pc := rfl
@[simp] theorem State.resynced_gpr (s : State) : (s.resynced).gpr = s.gpr := rfl
@[simp] theorem State.resynced_ps0 (s : State) : (s.resynced).ps0 = s.ps0 := rfl
@[simp] theorem State.resynced_ps1 (s : State) : (s.resynced).ps1 = s.ps1 := rfl
@[simp] theorem State.resynced_cr (s : State) : (s.resynced).cr = s.cr := rfl
@[simp] theorem State.resynced_lr (s : State) : (s.resynced).lr = s.lr := rfl
@[simp] theorem State.resynced_ctr (s : State) : (s.resynced).ctr = s.ctr := rfl
@[simp] theorem State.resynced_xer (s : State) : (s.resynced).xer = s.xer := rfl
@[simp] theorem State.resynced_xerReservedWritten (s : State) : (s.resynced).xerReservedWritten = s.xerReservedWritten := rfl
@[simp] theorem State.resynced_fpscr (s : State) : (s.resynced).fpscr = s.fpscr := rfl
@[simp] theorem State.resynced_msr (s : State) : (s.resynced).msr = s.msr := rfl
@[simp] theorem State.resynced_srr0 (s : State) : (s.resynced).srr0 = s.srr0 := rfl
@[simp] theorem State.resynced_srr1 (s : State) : (s.resynced).srr1 = s.srr1 := rfl
@[simp] theorem State.resynced_dar (s : State) : (s.resynced).dar = s.dar := rfl
@[simp] theorem State.resynced_dsisr (s : State) : (s.resynced).dsisr = s.dsisr := rfl
@[simp] theorem State.resynced_dec (s : State) : (s.resynced).dec = s.dec := rfl
@[simp] theorem State.resynced_tb (s : State) : (s.resynced).tb = s.tb := rfl
@[simp] theorem State.resynced_sdr1 (s : State) : (s.resynced).sdr1 = s.sdr1 := rfl
@[simp] theorem State.resynced_sprg (s : State) : (s.resynced).sprg = s.sprg := rfl
@[simp] theorem State.resynced_ear (s : State) : (s.resynced).ear = s.ear := rfl
@[simp] theorem State.resynced_sr (s : State) : (s.resynced).sr = s.sr := rfl
@[simp] theorem State.resynced_ibat (s : State) : (s.resynced).ibat = s.ibat := rfl
@[simp] theorem State.resynced_dbat (s : State) : (s.resynced).dbat = s.dbat := rfl
@[simp] theorem State.resynced_gqr (s : State) : (s.resynced).gqr = s.gqr := rfl
@[simp] theorem State.resynced_hid0 (s : State) : (s.resynced).hid0 = s.hid0 := rfl
@[simp] theorem State.resynced_hid1 (s : State) : (s.resynced).hid1 = s.hid1 := rfl
@[simp] theorem State.resynced_hid2 (s : State) : (s.resynced).hid2 = s.hid2 := rfl
@[simp] theorem State.resynced_hid4 (s : State) : (s.resynced).hid4 = s.hid4 := rfl
@[simp] theorem State.resynced_wpar (s : State) : (s.resynced).wpar = s.wpar := rfl
@[simp] theorem State.resynced_dmau (s : State) : (s.resynced).dmau = s.dmau := rfl
@[simp] theorem State.resynced_dmal (s : State) : (s.resynced).dmal = s.dmal := rfl
@[simp] theorem State.resynced_mmcr0 (s : State) : (s.resynced).mmcr0 = s.mmcr0 := rfl
@[simp] theorem State.resynced_mmcr1 (s : State) : (s.resynced).mmcr1 = s.mmcr1 := rfl
@[simp] theorem State.resynced_pmc (s : State) : (s.resynced).pmc = s.pmc := rfl
@[simp] theorem State.resynced_sia (s : State) : (s.resynced).sia = s.sia := rfl
@[simp] theorem State.resynced_iabr (s : State) : (s.resynced).iabr = s.iabr := rfl
@[simp] theorem State.resynced_dabr (s : State) : (s.resynced).dabr = s.dabr := rfl
@[simp] theorem State.resynced_l2cr (s : State) : (s.resynced).l2cr = s.l2cr := rfl
@[simp] theorem State.resynced_ictc (s : State) : (s.resynced).ictc = s.ictc := rfl
@[simp] theorem State.resynced_thrm (s : State) : (s.resynced).thrm = s.thrm := rfl
@[simp] theorem State.resynced_reserve (s : State) : (s.resynced).reserve = s.reserve := rfl
@[simp] theorem State.resynced_reserveAddr (s : State) : (s.resynced).reserveAddr = s.reserveAddr := rfl
@[simp] theorem State.resynced_decPending (s : State) : (s.resynced).decPending = s.decPending := rfl
@[simp] theorem State.resynced_lines (s : State) : (s.resynced).lines = s.lines := rfl
@[simp] theorem State.resynced_mode (s : State) : (s.resynced).mode = s.mode := rfl
@[simp] theorem State.resynced_mem (s : State) : (s.resynced).mem = s.mem := rfl
@[simp] theorem State.resynced_dirty (s : State) : (s.resynced).dirty = s.dirty := rfl
@[simp] theorem State.resynced_tables (s : State) : (s.resynced).tables = s.tables := rfl
@[simp] theorem State.resynced_bus (s : State) : (s.resynced).bus = s.bus := rfl
@[simp] theorem State.resynced_params (s : State) : (s.resynced).params = s.params := rfl
@[simp] theorem State.resynced_draws (s : State) : (s.resynced).draws = s.draws := rfl
@[simp] theorem State.resynced_time (s : State) : (s.resynced).time = s.time := rfl

/-! ### `storePhys` -/

@[simp] theorem State.storePhys_pc (s : State) (m : Mapped) (bs : List Byte) : (s.storePhys m bs).pc = s.pc := rfl
@[simp] theorem State.storePhys_gpr (s : State) (m : Mapped) (bs : List Byte) : (s.storePhys m bs).gpr = s.gpr := rfl
@[simp] theorem State.storePhys_ps0 (s : State) (m : Mapped) (bs : List Byte) : (s.storePhys m bs).ps0 = s.ps0 := rfl
@[simp] theorem State.storePhys_ps1 (s : State) (m : Mapped) (bs : List Byte) : (s.storePhys m bs).ps1 = s.ps1 := rfl
@[simp] theorem State.storePhys_cr (s : State) (m : Mapped) (bs : List Byte) : (s.storePhys m bs).cr = s.cr := rfl
@[simp] theorem State.storePhys_lr (s : State) (m : Mapped) (bs : List Byte) : (s.storePhys m bs).lr = s.lr := rfl
@[simp] theorem State.storePhys_ctr (s : State) (m : Mapped) (bs : List Byte) : (s.storePhys m bs).ctr = s.ctr := rfl
@[simp] theorem State.storePhys_xer (s : State) (m : Mapped) (bs : List Byte) : (s.storePhys m bs).xer = s.xer := rfl
@[simp] theorem State.storePhys_xerReservedWritten (s : State) (m : Mapped) (bs : List Byte) : (s.storePhys m bs).xerReservedWritten = s.xerReservedWritten := rfl
@[simp] theorem State.storePhys_fpscr (s : State) (m : Mapped) (bs : List Byte) : (s.storePhys m bs).fpscr = s.fpscr := rfl
@[simp] theorem State.storePhys_msr (s : State) (m : Mapped) (bs : List Byte) : (s.storePhys m bs).msr = s.msr := rfl
@[simp] theorem State.storePhys_srr0 (s : State) (m : Mapped) (bs : List Byte) : (s.storePhys m bs).srr0 = s.srr0 := rfl
@[simp] theorem State.storePhys_srr1 (s : State) (m : Mapped) (bs : List Byte) : (s.storePhys m bs).srr1 = s.srr1 := rfl
@[simp] theorem State.storePhys_dar (s : State) (m : Mapped) (bs : List Byte) : (s.storePhys m bs).dar = s.dar := rfl
@[simp] theorem State.storePhys_dsisr (s : State) (m : Mapped) (bs : List Byte) : (s.storePhys m bs).dsisr = s.dsisr := rfl
@[simp] theorem State.storePhys_dec (s : State) (m : Mapped) (bs : List Byte) : (s.storePhys m bs).dec = s.dec := rfl
@[simp] theorem State.storePhys_tb (s : State) (m : Mapped) (bs : List Byte) : (s.storePhys m bs).tb = s.tb := rfl
@[simp] theorem State.storePhys_sdr1 (s : State) (m : Mapped) (bs : List Byte) : (s.storePhys m bs).sdr1 = s.sdr1 := rfl
@[simp] theorem State.storePhys_sprg (s : State) (m : Mapped) (bs : List Byte) : (s.storePhys m bs).sprg = s.sprg := rfl
@[simp] theorem State.storePhys_ear (s : State) (m : Mapped) (bs : List Byte) : (s.storePhys m bs).ear = s.ear := rfl
@[simp] theorem State.storePhys_sr (s : State) (m : Mapped) (bs : List Byte) : (s.storePhys m bs).sr = s.sr := rfl
@[simp] theorem State.storePhys_ibat (s : State) (m : Mapped) (bs : List Byte) : (s.storePhys m bs).ibat = s.ibat := rfl
@[simp] theorem State.storePhys_dbat (s : State) (m : Mapped) (bs : List Byte) : (s.storePhys m bs).dbat = s.dbat := rfl
@[simp] theorem State.storePhys_gqr (s : State) (m : Mapped) (bs : List Byte) : (s.storePhys m bs).gqr = s.gqr := rfl
@[simp] theorem State.storePhys_hid0 (s : State) (m : Mapped) (bs : List Byte) : (s.storePhys m bs).hid0 = s.hid0 := rfl
@[simp] theorem State.storePhys_hid1 (s : State) (m : Mapped) (bs : List Byte) : (s.storePhys m bs).hid1 = s.hid1 := rfl
@[simp] theorem State.storePhys_hid2 (s : State) (m : Mapped) (bs : List Byte) : (s.storePhys m bs).hid2 = s.hid2 := rfl
@[simp] theorem State.storePhys_hid4 (s : State) (m : Mapped) (bs : List Byte) : (s.storePhys m bs).hid4 = s.hid4 := rfl
@[simp] theorem State.storePhys_wpar (s : State) (m : Mapped) (bs : List Byte) : (s.storePhys m bs).wpar = s.wpar := rfl
@[simp] theorem State.storePhys_dmau (s : State) (m : Mapped) (bs : List Byte) : (s.storePhys m bs).dmau = s.dmau := rfl
@[simp] theorem State.storePhys_dmal (s : State) (m : Mapped) (bs : List Byte) : (s.storePhys m bs).dmal = s.dmal := rfl
@[simp] theorem State.storePhys_mmcr0 (s : State) (m : Mapped) (bs : List Byte) : (s.storePhys m bs).mmcr0 = s.mmcr0 := rfl
@[simp] theorem State.storePhys_mmcr1 (s : State) (m : Mapped) (bs : List Byte) : (s.storePhys m bs).mmcr1 = s.mmcr1 := rfl
@[simp] theorem State.storePhys_pmc (s : State) (m : Mapped) (bs : List Byte) : (s.storePhys m bs).pmc = s.pmc := rfl
@[simp] theorem State.storePhys_sia (s : State) (m : Mapped) (bs : List Byte) : (s.storePhys m bs).sia = s.sia := rfl
@[simp] theorem State.storePhys_iabr (s : State) (m : Mapped) (bs : List Byte) : (s.storePhys m bs).iabr = s.iabr := rfl
@[simp] theorem State.storePhys_dabr (s : State) (m : Mapped) (bs : List Byte) : (s.storePhys m bs).dabr = s.dabr := rfl
@[simp] theorem State.storePhys_l2cr (s : State) (m : Mapped) (bs : List Byte) : (s.storePhys m bs).l2cr = s.l2cr := rfl
@[simp] theorem State.storePhys_ictc (s : State) (m : Mapped) (bs : List Byte) : (s.storePhys m bs).ictc = s.ictc := rfl
@[simp] theorem State.storePhys_thrm (s : State) (m : Mapped) (bs : List Byte) : (s.storePhys m bs).thrm = s.thrm := rfl
@[simp] theorem State.storePhys_reserve (s : State) (m : Mapped) (bs : List Byte) : (s.storePhys m bs).reserve = s.reserve := rfl
@[simp] theorem State.storePhys_reserveAddr (s : State) (m : Mapped) (bs : List Byte) : (s.storePhys m bs).reserveAddr = s.reserveAddr := rfl
@[simp] theorem State.storePhys_decPending (s : State) (m : Mapped) (bs : List Byte) : (s.storePhys m bs).decPending = s.decPending := rfl
@[simp] theorem State.storePhys_lines (s : State) (m : Mapped) (bs : List Byte) : (s.storePhys m bs).lines = s.lines := rfl
@[simp] theorem State.storePhys_mode (s : State) (m : Mapped) (bs : List Byte) : (s.storePhys m bs).mode = s.mode := rfl
@[simp] theorem State.storePhys_mem (s : State) (m : Mapped) (bs : List Byte) : (s.storePhys m bs).mem = s.mem.writeBytes m.pa bs := rfl
@[simp] theorem State.storePhys_late (s : State) (m : Mapped) (bs : List Byte) : (s.storePhys m bs).late = s.late := rfl
@[simp] theorem State.storePhys_bus (s : State) (m : Mapped) (bs : List Byte) : (s.storePhys m bs).bus = s.bus := rfl
@[simp] theorem State.storePhys_params (s : State) (m : Mapped) (bs : List Byte) : (s.storePhys m bs).params = s.params := rfl
@[simp] theorem State.storePhys_draws (s : State) (m : Mapped) (bs : List Byte) : (s.storePhys m bs).draws = s.draws := rfl
@[simp] theorem State.storePhys_time (s : State) (m : Mapped) (bs : List Byte) : (s.storePhys m bs).time = s.time := rfl

/-! ### `blockStored` -/

@[simp] theorem State.blockStored_pc (s : State) (inv : Bool) (pa : Word) : (s.blockStored inv pa).pc = s.pc := rfl
@[simp] theorem State.blockStored_gpr (s : State) (inv : Bool) (pa : Word) : (s.blockStored inv pa).gpr = s.gpr := rfl
@[simp] theorem State.blockStored_ps0 (s : State) (inv : Bool) (pa : Word) : (s.blockStored inv pa).ps0 = s.ps0 := rfl
@[simp] theorem State.blockStored_ps1 (s : State) (inv : Bool) (pa : Word) : (s.blockStored inv pa).ps1 = s.ps1 := rfl
@[simp] theorem State.blockStored_cr (s : State) (inv : Bool) (pa : Word) : (s.blockStored inv pa).cr = s.cr := rfl
@[simp] theorem State.blockStored_lr (s : State) (inv : Bool) (pa : Word) : (s.blockStored inv pa).lr = s.lr := rfl
@[simp] theorem State.blockStored_ctr (s : State) (inv : Bool) (pa : Word) : (s.blockStored inv pa).ctr = s.ctr := rfl
@[simp] theorem State.blockStored_xer (s : State) (inv : Bool) (pa : Word) : (s.blockStored inv pa).xer = s.xer := rfl
@[simp] theorem State.blockStored_xerReservedWritten (s : State) (inv : Bool) (pa : Word) : (s.blockStored inv pa).xerReservedWritten = s.xerReservedWritten := rfl
@[simp] theorem State.blockStored_fpscr (s : State) (inv : Bool) (pa : Word) : (s.blockStored inv pa).fpscr = s.fpscr := rfl
@[simp] theorem State.blockStored_msr (s : State) (inv : Bool) (pa : Word) : (s.blockStored inv pa).msr = s.msr := rfl
@[simp] theorem State.blockStored_srr0 (s : State) (inv : Bool) (pa : Word) : (s.blockStored inv pa).srr0 = s.srr0 := rfl
@[simp] theorem State.blockStored_srr1 (s : State) (inv : Bool) (pa : Word) : (s.blockStored inv pa).srr1 = s.srr1 := rfl
@[simp] theorem State.blockStored_dar (s : State) (inv : Bool) (pa : Word) : (s.blockStored inv pa).dar = s.dar := rfl
@[simp] theorem State.blockStored_dsisr (s : State) (inv : Bool) (pa : Word) : (s.blockStored inv pa).dsisr = s.dsisr := rfl
@[simp] theorem State.blockStored_dec (s : State) (inv : Bool) (pa : Word) : (s.blockStored inv pa).dec = s.dec := rfl
@[simp] theorem State.blockStored_tb (s : State) (inv : Bool) (pa : Word) : (s.blockStored inv pa).tb = s.tb := rfl
@[simp] theorem State.blockStored_sdr1 (s : State) (inv : Bool) (pa : Word) : (s.blockStored inv pa).sdr1 = s.sdr1 := rfl
@[simp] theorem State.blockStored_sprg (s : State) (inv : Bool) (pa : Word) : (s.blockStored inv pa).sprg = s.sprg := rfl
@[simp] theorem State.blockStored_ear (s : State) (inv : Bool) (pa : Word) : (s.blockStored inv pa).ear = s.ear := rfl
@[simp] theorem State.blockStored_sr (s : State) (inv : Bool) (pa : Word) : (s.blockStored inv pa).sr = s.sr := rfl
@[simp] theorem State.blockStored_ibat (s : State) (inv : Bool) (pa : Word) : (s.blockStored inv pa).ibat = s.ibat := rfl
@[simp] theorem State.blockStored_dbat (s : State) (inv : Bool) (pa : Word) : (s.blockStored inv pa).dbat = s.dbat := rfl
@[simp] theorem State.blockStored_gqr (s : State) (inv : Bool) (pa : Word) : (s.blockStored inv pa).gqr = s.gqr := rfl
@[simp] theorem State.blockStored_hid0 (s : State) (inv : Bool) (pa : Word) : (s.blockStored inv pa).hid0 = s.hid0 := rfl
@[simp] theorem State.blockStored_hid1 (s : State) (inv : Bool) (pa : Word) : (s.blockStored inv pa).hid1 = s.hid1 := rfl
@[simp] theorem State.blockStored_hid2 (s : State) (inv : Bool) (pa : Word) : (s.blockStored inv pa).hid2 = s.hid2 := rfl
@[simp] theorem State.blockStored_hid4 (s : State) (inv : Bool) (pa : Word) : (s.blockStored inv pa).hid4 = s.hid4 := rfl
@[simp] theorem State.blockStored_wpar (s : State) (inv : Bool) (pa : Word) : (s.blockStored inv pa).wpar = s.wpar := rfl
@[simp] theorem State.blockStored_dmau (s : State) (inv : Bool) (pa : Word) : (s.blockStored inv pa).dmau = s.dmau := rfl
@[simp] theorem State.blockStored_dmal (s : State) (inv : Bool) (pa : Word) : (s.blockStored inv pa).dmal = s.dmal := rfl
@[simp] theorem State.blockStored_mmcr0 (s : State) (inv : Bool) (pa : Word) : (s.blockStored inv pa).mmcr0 = s.mmcr0 := rfl
@[simp] theorem State.blockStored_mmcr1 (s : State) (inv : Bool) (pa : Word) : (s.blockStored inv pa).mmcr1 = s.mmcr1 := rfl
@[simp] theorem State.blockStored_pmc (s : State) (inv : Bool) (pa : Word) : (s.blockStored inv pa).pmc = s.pmc := rfl
@[simp] theorem State.blockStored_sia (s : State) (inv : Bool) (pa : Word) : (s.blockStored inv pa).sia = s.sia := rfl
@[simp] theorem State.blockStored_iabr (s : State) (inv : Bool) (pa : Word) : (s.blockStored inv pa).iabr = s.iabr := rfl
@[simp] theorem State.blockStored_dabr (s : State) (inv : Bool) (pa : Word) : (s.blockStored inv pa).dabr = s.dabr := rfl
@[simp] theorem State.blockStored_l2cr (s : State) (inv : Bool) (pa : Word) : (s.blockStored inv pa).l2cr = s.l2cr := rfl
@[simp] theorem State.blockStored_ictc (s : State) (inv : Bool) (pa : Word) : (s.blockStored inv pa).ictc = s.ictc := rfl
@[simp] theorem State.blockStored_thrm (s : State) (inv : Bool) (pa : Word) : (s.blockStored inv pa).thrm = s.thrm := rfl
@[simp] theorem State.blockStored_reserve (s : State) (inv : Bool) (pa : Word) : (s.blockStored inv pa).reserve = s.reserve := rfl
@[simp] theorem State.blockStored_reserveAddr (s : State) (inv : Bool) (pa : Word) : (s.blockStored inv pa).reserveAddr = s.reserveAddr := rfl
@[simp] theorem State.blockStored_decPending (s : State) (inv : Bool) (pa : Word) : (s.blockStored inv pa).decPending = s.decPending := rfl
@[simp] theorem State.blockStored_lines (s : State) (inv : Bool) (pa : Word) : (s.blockStored inv pa).lines = s.lines := rfl
@[simp] theorem State.blockStored_mode (s : State) (inv : Bool) (pa : Word) : (s.blockStored inv pa).mode = s.mode := rfl
@[simp] theorem State.blockStored_mem (s : State) (inv : Bool) (pa : Word) : (s.blockStored inv pa).mem = s.mem := rfl
@[simp] theorem State.blockStored_late (s : State) (inv : Bool) (pa : Word) : (s.blockStored inv pa).late = s.late := rfl
@[simp] theorem State.blockStored_tables (s : State) (inv : Bool) (pa : Word) : (s.blockStored inv pa).tables = s.tables := rfl
@[simp] theorem State.blockStored_bus (s : State) (inv : Bool) (pa : Word) : (s.blockStored inv pa).bus = s.bus := rfl
@[simp] theorem State.blockStored_params (s : State) (inv : Bool) (pa : Word) : (s.blockStored inv pa).params = s.params := rfl
@[simp] theorem State.blockStored_draws (s : State) (inv : Bool) (pa : Word) : (s.blockStored inv pa).draws = s.draws := rfl
@[simp] theorem State.blockStored_time (s : State) (inv : Bool) (pa : Word) : (s.blockStored inv pa).time = s.time := rfl

/-! ### `blockInvalidated` -/

@[simp] theorem State.blockInvalidated_pc (s : State) (pa : Word) : (s.blockInvalidated pa).pc = s.pc := rfl
@[simp] theorem State.blockInvalidated_gpr (s : State) (pa : Word) : (s.blockInvalidated pa).gpr = s.gpr := rfl
@[simp] theorem State.blockInvalidated_ps0 (s : State) (pa : Word) : (s.blockInvalidated pa).ps0 = s.ps0 := rfl
@[simp] theorem State.blockInvalidated_ps1 (s : State) (pa : Word) : (s.blockInvalidated pa).ps1 = s.ps1 := rfl
@[simp] theorem State.blockInvalidated_cr (s : State) (pa : Word) : (s.blockInvalidated pa).cr = s.cr := rfl
@[simp] theorem State.blockInvalidated_lr (s : State) (pa : Word) : (s.blockInvalidated pa).lr = s.lr := rfl
@[simp] theorem State.blockInvalidated_ctr (s : State) (pa : Word) : (s.blockInvalidated pa).ctr = s.ctr := rfl
@[simp] theorem State.blockInvalidated_xer (s : State) (pa : Word) : (s.blockInvalidated pa).xer = s.xer := rfl
@[simp] theorem State.blockInvalidated_xerReservedWritten (s : State) (pa : Word) : (s.blockInvalidated pa).xerReservedWritten = s.xerReservedWritten := rfl
@[simp] theorem State.blockInvalidated_fpscr (s : State) (pa : Word) : (s.blockInvalidated pa).fpscr = s.fpscr := rfl
@[simp] theorem State.blockInvalidated_msr (s : State) (pa : Word) : (s.blockInvalidated pa).msr = s.msr := rfl
@[simp] theorem State.blockInvalidated_srr0 (s : State) (pa : Word) : (s.blockInvalidated pa).srr0 = s.srr0 := rfl
@[simp] theorem State.blockInvalidated_srr1 (s : State) (pa : Word) : (s.blockInvalidated pa).srr1 = s.srr1 := rfl
@[simp] theorem State.blockInvalidated_dar (s : State) (pa : Word) : (s.blockInvalidated pa).dar = s.dar := rfl
@[simp] theorem State.blockInvalidated_dsisr (s : State) (pa : Word) : (s.blockInvalidated pa).dsisr = s.dsisr := rfl
@[simp] theorem State.blockInvalidated_dec (s : State) (pa : Word) : (s.blockInvalidated pa).dec = s.dec := rfl
@[simp] theorem State.blockInvalidated_tb (s : State) (pa : Word) : (s.blockInvalidated pa).tb = s.tb := rfl
@[simp] theorem State.blockInvalidated_sdr1 (s : State) (pa : Word) : (s.blockInvalidated pa).sdr1 = s.sdr1 := rfl
@[simp] theorem State.blockInvalidated_sprg (s : State) (pa : Word) : (s.blockInvalidated pa).sprg = s.sprg := rfl
@[simp] theorem State.blockInvalidated_ear (s : State) (pa : Word) : (s.blockInvalidated pa).ear = s.ear := rfl
@[simp] theorem State.blockInvalidated_sr (s : State) (pa : Word) : (s.blockInvalidated pa).sr = s.sr := rfl
@[simp] theorem State.blockInvalidated_ibat (s : State) (pa : Word) : (s.blockInvalidated pa).ibat = s.ibat := rfl
@[simp] theorem State.blockInvalidated_dbat (s : State) (pa : Word) : (s.blockInvalidated pa).dbat = s.dbat := rfl
@[simp] theorem State.blockInvalidated_gqr (s : State) (pa : Word) : (s.blockInvalidated pa).gqr = s.gqr := rfl
@[simp] theorem State.blockInvalidated_hid0 (s : State) (pa : Word) : (s.blockInvalidated pa).hid0 = s.hid0 := rfl
@[simp] theorem State.blockInvalidated_hid1 (s : State) (pa : Word) : (s.blockInvalidated pa).hid1 = s.hid1 := rfl
@[simp] theorem State.blockInvalidated_hid2 (s : State) (pa : Word) : (s.blockInvalidated pa).hid2 = s.hid2 := rfl
@[simp] theorem State.blockInvalidated_hid4 (s : State) (pa : Word) : (s.blockInvalidated pa).hid4 = s.hid4 := rfl
@[simp] theorem State.blockInvalidated_wpar (s : State) (pa : Word) : (s.blockInvalidated pa).wpar = s.wpar := rfl
@[simp] theorem State.blockInvalidated_dmau (s : State) (pa : Word) : (s.blockInvalidated pa).dmau = s.dmau := rfl
@[simp] theorem State.blockInvalidated_dmal (s : State) (pa : Word) : (s.blockInvalidated pa).dmal = s.dmal := rfl
@[simp] theorem State.blockInvalidated_mmcr0 (s : State) (pa : Word) : (s.blockInvalidated pa).mmcr0 = s.mmcr0 := rfl
@[simp] theorem State.blockInvalidated_mmcr1 (s : State) (pa : Word) : (s.blockInvalidated pa).mmcr1 = s.mmcr1 := rfl
@[simp] theorem State.blockInvalidated_pmc (s : State) (pa : Word) : (s.blockInvalidated pa).pmc = s.pmc := rfl
@[simp] theorem State.blockInvalidated_sia (s : State) (pa : Word) : (s.blockInvalidated pa).sia = s.sia := rfl
@[simp] theorem State.blockInvalidated_iabr (s : State) (pa : Word) : (s.blockInvalidated pa).iabr = s.iabr := rfl
@[simp] theorem State.blockInvalidated_dabr (s : State) (pa : Word) : (s.blockInvalidated pa).dabr = s.dabr := rfl
@[simp] theorem State.blockInvalidated_l2cr (s : State) (pa : Word) : (s.blockInvalidated pa).l2cr = s.l2cr := rfl
@[simp] theorem State.blockInvalidated_ictc (s : State) (pa : Word) : (s.blockInvalidated pa).ictc = s.ictc := rfl
@[simp] theorem State.blockInvalidated_thrm (s : State) (pa : Word) : (s.blockInvalidated pa).thrm = s.thrm := rfl
@[simp] theorem State.blockInvalidated_reserve (s : State) (pa : Word) : (s.blockInvalidated pa).reserve = s.reserve := rfl
@[simp] theorem State.blockInvalidated_reserveAddr (s : State) (pa : Word) : (s.blockInvalidated pa).reserveAddr = s.reserveAddr := rfl
@[simp] theorem State.blockInvalidated_decPending (s : State) (pa : Word) : (s.blockInvalidated pa).decPending = s.decPending := rfl
@[simp] theorem State.blockInvalidated_lines (s : State) (pa : Word) : (s.blockInvalidated pa).lines = s.lines := rfl
@[simp] theorem State.blockInvalidated_mode (s : State) (pa : Word) : (s.blockInvalidated pa).mode = s.mode := rfl
@[simp] theorem State.blockInvalidated_mem (s : State) (pa : Word) : (s.blockInvalidated pa).mem = s.mem := rfl
@[simp] theorem State.blockInvalidated_dirty (s : State) (pa : Word) : (s.blockInvalidated pa).dirty = s.dirty := rfl
@[simp] theorem State.blockInvalidated_late (s : State) (pa : Word) : (s.blockInvalidated pa).late = s.late := rfl
@[simp] theorem State.blockInvalidated_tables (s : State) (pa : Word) : (s.blockInvalidated pa).tables = s.tables := rfl
@[simp] theorem State.blockInvalidated_bus (s : State) (pa : Word) : (s.blockInvalidated pa).bus = s.bus := rfl
@[simp] theorem State.blockInvalidated_params (s : State) (pa : Word) : (s.blockInvalidated pa).params = s.params := rfl
@[simp] theorem State.blockInvalidated_draws (s : State) (pa : Word) : (s.blockInvalidated pa).draws = s.draws := rfl
@[simp] theorem State.blockInvalidated_time (s : State) (pa : Word) : (s.blockInvalidated pa).time = s.time := rfl

/-! ### `fetchFlushed` -/

@[simp] theorem State.fetchFlushed_pc (s : State) : (s.fetchFlushed).pc = s.pc := rfl
@[simp] theorem State.fetchFlushed_gpr (s : State) : (s.fetchFlushed).gpr = s.gpr := rfl
@[simp] theorem State.fetchFlushed_ps0 (s : State) : (s.fetchFlushed).ps0 = s.ps0 := rfl
@[simp] theorem State.fetchFlushed_ps1 (s : State) : (s.fetchFlushed).ps1 = s.ps1 := rfl
@[simp] theorem State.fetchFlushed_cr (s : State) : (s.fetchFlushed).cr = s.cr := rfl
@[simp] theorem State.fetchFlushed_lr (s : State) : (s.fetchFlushed).lr = s.lr := rfl
@[simp] theorem State.fetchFlushed_ctr (s : State) : (s.fetchFlushed).ctr = s.ctr := rfl
@[simp] theorem State.fetchFlushed_xer (s : State) : (s.fetchFlushed).xer = s.xer := rfl
@[simp] theorem State.fetchFlushed_xerReservedWritten (s : State) : (s.fetchFlushed).xerReservedWritten = s.xerReservedWritten := rfl
@[simp] theorem State.fetchFlushed_fpscr (s : State) : (s.fetchFlushed).fpscr = s.fpscr := rfl
@[simp] theorem State.fetchFlushed_msr (s : State) : (s.fetchFlushed).msr = s.msr := rfl
@[simp] theorem State.fetchFlushed_srr0 (s : State) : (s.fetchFlushed).srr0 = s.srr0 := rfl
@[simp] theorem State.fetchFlushed_srr1 (s : State) : (s.fetchFlushed).srr1 = s.srr1 := rfl
@[simp] theorem State.fetchFlushed_dar (s : State) : (s.fetchFlushed).dar = s.dar := rfl
@[simp] theorem State.fetchFlushed_dsisr (s : State) : (s.fetchFlushed).dsisr = s.dsisr := rfl
@[simp] theorem State.fetchFlushed_dec (s : State) : (s.fetchFlushed).dec = s.dec := rfl
@[simp] theorem State.fetchFlushed_tb (s : State) : (s.fetchFlushed).tb = s.tb := rfl
@[simp] theorem State.fetchFlushed_sdr1 (s : State) : (s.fetchFlushed).sdr1 = s.sdr1 := rfl
@[simp] theorem State.fetchFlushed_sprg (s : State) : (s.fetchFlushed).sprg = s.sprg := rfl
@[simp] theorem State.fetchFlushed_ear (s : State) : (s.fetchFlushed).ear = s.ear := rfl
@[simp] theorem State.fetchFlushed_sr (s : State) : (s.fetchFlushed).sr = s.sr := rfl
@[simp] theorem State.fetchFlushed_ibat (s : State) : (s.fetchFlushed).ibat = s.ibat := rfl
@[simp] theorem State.fetchFlushed_dbat (s : State) : (s.fetchFlushed).dbat = s.dbat := rfl
@[simp] theorem State.fetchFlushed_gqr (s : State) : (s.fetchFlushed).gqr = s.gqr := rfl
@[simp] theorem State.fetchFlushed_hid0 (s : State) : (s.fetchFlushed).hid0 = s.hid0 := rfl
@[simp] theorem State.fetchFlushed_hid1 (s : State) : (s.fetchFlushed).hid1 = s.hid1 := rfl
@[simp] theorem State.fetchFlushed_hid2 (s : State) : (s.fetchFlushed).hid2 = s.hid2 := rfl
@[simp] theorem State.fetchFlushed_hid4 (s : State) : (s.fetchFlushed).hid4 = s.hid4 := rfl
@[simp] theorem State.fetchFlushed_wpar (s : State) : (s.fetchFlushed).wpar = s.wpar := rfl
@[simp] theorem State.fetchFlushed_dmau (s : State) : (s.fetchFlushed).dmau = s.dmau := rfl
@[simp] theorem State.fetchFlushed_dmal (s : State) : (s.fetchFlushed).dmal = s.dmal := rfl
@[simp] theorem State.fetchFlushed_mmcr0 (s : State) : (s.fetchFlushed).mmcr0 = s.mmcr0 := rfl
@[simp] theorem State.fetchFlushed_mmcr1 (s : State) : (s.fetchFlushed).mmcr1 = s.mmcr1 := rfl
@[simp] theorem State.fetchFlushed_pmc (s : State) : (s.fetchFlushed).pmc = s.pmc := rfl
@[simp] theorem State.fetchFlushed_sia (s : State) : (s.fetchFlushed).sia = s.sia := rfl
@[simp] theorem State.fetchFlushed_iabr (s : State) : (s.fetchFlushed).iabr = s.iabr := rfl
@[simp] theorem State.fetchFlushed_dabr (s : State) : (s.fetchFlushed).dabr = s.dabr := rfl
@[simp] theorem State.fetchFlushed_l2cr (s : State) : (s.fetchFlushed).l2cr = s.l2cr := rfl
@[simp] theorem State.fetchFlushed_ictc (s : State) : (s.fetchFlushed).ictc = s.ictc := rfl
@[simp] theorem State.fetchFlushed_thrm (s : State) : (s.fetchFlushed).thrm = s.thrm := rfl
@[simp] theorem State.fetchFlushed_reserve (s : State) : (s.fetchFlushed).reserve = s.reserve := rfl
@[simp] theorem State.fetchFlushed_reserveAddr (s : State) : (s.fetchFlushed).reserveAddr = s.reserveAddr := rfl
@[simp] theorem State.fetchFlushed_decPending (s : State) : (s.fetchFlushed).decPending = s.decPending := rfl
@[simp] theorem State.fetchFlushed_lines (s : State) : (s.fetchFlushed).lines = s.lines := rfl
@[simp] theorem State.fetchFlushed_mode (s : State) : (s.fetchFlushed).mode = s.mode := rfl
@[simp] theorem State.fetchFlushed_mem (s : State) : (s.fetchFlushed).mem = s.mem := rfl
@[simp] theorem State.fetchFlushed_dirty (s : State) : (s.fetchFlushed).dirty = s.dirty := rfl
@[simp] theorem State.fetchFlushed_late (s : State) : (s.fetchFlushed).late = s.late := rfl
@[simp] theorem State.fetchFlushed_tables (s : State) : (s.fetchFlushed).tables = s.tables := rfl
@[simp] theorem State.fetchFlushed_bus (s : State) : (s.fetchFlushed).bus = s.bus := rfl
@[simp] theorem State.fetchFlushed_params (s : State) : (s.fetchFlushed).params = s.params := rfl
@[simp] theorem State.fetchFlushed_draws (s : State) : (s.fetchFlushed).draws = s.draws := rfl
@[simp] theorem State.fetchFlushed_time (s : State) : (s.fetchFlushed).time = s.time := rfl

/-! ### `synced` -/

@[simp] theorem State.synced_pc (s : State) : (s.synced).pc = s.pc := rfl
@[simp] theorem State.synced_gpr (s : State) : (s.synced).gpr = s.gpr := rfl
@[simp] theorem State.synced_ps0 (s : State) : (s.synced).ps0 = s.ps0 := rfl
@[simp] theorem State.synced_ps1 (s : State) : (s.synced).ps1 = s.ps1 := rfl
@[simp] theorem State.synced_cr (s : State) : (s.synced).cr = s.cr := rfl
@[simp] theorem State.synced_lr (s : State) : (s.synced).lr = s.lr := rfl
@[simp] theorem State.synced_ctr (s : State) : (s.synced).ctr = s.ctr := rfl
@[simp] theorem State.synced_xer (s : State) : (s.synced).xer = s.xer := rfl
@[simp] theorem State.synced_xerReservedWritten (s : State) : (s.synced).xerReservedWritten = s.xerReservedWritten := rfl
@[simp] theorem State.synced_fpscr (s : State) : (s.synced).fpscr = s.fpscr := rfl
@[simp] theorem State.synced_msr (s : State) : (s.synced).msr = s.msr := rfl
@[simp] theorem State.synced_srr0 (s : State) : (s.synced).srr0 = s.srr0 := rfl
@[simp] theorem State.synced_srr1 (s : State) : (s.synced).srr1 = s.srr1 := rfl
@[simp] theorem State.synced_dar (s : State) : (s.synced).dar = s.dar := rfl
@[simp] theorem State.synced_dsisr (s : State) : (s.synced).dsisr = s.dsisr := rfl
@[simp] theorem State.synced_dec (s : State) : (s.synced).dec = s.dec := rfl
@[simp] theorem State.synced_tb (s : State) : (s.synced).tb = s.tb := rfl
@[simp] theorem State.synced_sdr1 (s : State) : (s.synced).sdr1 = s.sdr1 := rfl
@[simp] theorem State.synced_sprg (s : State) : (s.synced).sprg = s.sprg := rfl
@[simp] theorem State.synced_ear (s : State) : (s.synced).ear = s.ear := rfl
@[simp] theorem State.synced_sr (s : State) : (s.synced).sr = s.sr := rfl
@[simp] theorem State.synced_ibat (s : State) : (s.synced).ibat = s.ibat := rfl
@[simp] theorem State.synced_dbat (s : State) : (s.synced).dbat = s.dbat := rfl
@[simp] theorem State.synced_gqr (s : State) : (s.synced).gqr = s.gqr := rfl
@[simp] theorem State.synced_hid0 (s : State) : (s.synced).hid0 = s.hid0 := rfl
@[simp] theorem State.synced_hid1 (s : State) : (s.synced).hid1 = s.hid1 := rfl
@[simp] theorem State.synced_hid2 (s : State) : (s.synced).hid2 = s.hid2 := rfl
@[simp] theorem State.synced_hid4 (s : State) : (s.synced).hid4 = s.hid4 := rfl
@[simp] theorem State.synced_wpar (s : State) : (s.synced).wpar = s.wpar := rfl
@[simp] theorem State.synced_dmau (s : State) : (s.synced).dmau = s.dmau := rfl
@[simp] theorem State.synced_dmal (s : State) : (s.synced).dmal = s.dmal := rfl
@[simp] theorem State.synced_mmcr0 (s : State) : (s.synced).mmcr0 = s.mmcr0 := rfl
@[simp] theorem State.synced_mmcr1 (s : State) : (s.synced).mmcr1 = s.mmcr1 := rfl
@[simp] theorem State.synced_pmc (s : State) : (s.synced).pmc = s.pmc := rfl
@[simp] theorem State.synced_sia (s : State) : (s.synced).sia = s.sia := rfl
@[simp] theorem State.synced_iabr (s : State) : (s.synced).iabr = s.iabr := rfl
@[simp] theorem State.synced_dabr (s : State) : (s.synced).dabr = s.dabr := rfl
@[simp] theorem State.synced_l2cr (s : State) : (s.synced).l2cr = s.l2cr := rfl
@[simp] theorem State.synced_ictc (s : State) : (s.synced).ictc = s.ictc := rfl
@[simp] theorem State.synced_thrm (s : State) : (s.synced).thrm = s.thrm := rfl
@[simp] theorem State.synced_reserve (s : State) : (s.synced).reserve = s.reserve := rfl
@[simp] theorem State.synced_reserveAddr (s : State) : (s.synced).reserveAddr = s.reserveAddr := rfl
@[simp] theorem State.synced_decPending (s : State) : (s.synced).decPending = s.decPending := rfl
@[simp] theorem State.synced_lines (s : State) : (s.synced).lines = s.lines := rfl
@[simp] theorem State.synced_mode (s : State) : (s.synced).mode = s.mode := rfl
@[simp] theorem State.synced_bus (s : State) : (s.synced).bus = s.bus := rfl
@[simp] theorem State.synced_params (s : State) : (s.synced).params = s.params := rfl
@[simp] theorem State.synced_time (s : State) : (s.synced).time = s.time := rfl

/-! ### `tlbSetCleared` -/

@[simp] theorem State.tlbSetCleared_pc (s : State) (ea : Word) : (s.tlbSetCleared ea).pc = s.pc := rfl
@[simp] theorem State.tlbSetCleared_gpr (s : State) (ea : Word) : (s.tlbSetCleared ea).gpr = s.gpr := rfl
@[simp] theorem State.tlbSetCleared_ps0 (s : State) (ea : Word) : (s.tlbSetCleared ea).ps0 = s.ps0 := rfl
@[simp] theorem State.tlbSetCleared_ps1 (s : State) (ea : Word) : (s.tlbSetCleared ea).ps1 = s.ps1 := rfl
@[simp] theorem State.tlbSetCleared_cr (s : State) (ea : Word) : (s.tlbSetCleared ea).cr = s.cr := rfl
@[simp] theorem State.tlbSetCleared_lr (s : State) (ea : Word) : (s.tlbSetCleared ea).lr = s.lr := rfl
@[simp] theorem State.tlbSetCleared_ctr (s : State) (ea : Word) : (s.tlbSetCleared ea).ctr = s.ctr := rfl
@[simp] theorem State.tlbSetCleared_xer (s : State) (ea : Word) : (s.tlbSetCleared ea).xer = s.xer := rfl
@[simp] theorem State.tlbSetCleared_xerReservedWritten (s : State) (ea : Word) : (s.tlbSetCleared ea).xerReservedWritten = s.xerReservedWritten := rfl
@[simp] theorem State.tlbSetCleared_fpscr (s : State) (ea : Word) : (s.tlbSetCleared ea).fpscr = s.fpscr := rfl
@[simp] theorem State.tlbSetCleared_msr (s : State) (ea : Word) : (s.tlbSetCleared ea).msr = s.msr := rfl
@[simp] theorem State.tlbSetCleared_srr0 (s : State) (ea : Word) : (s.tlbSetCleared ea).srr0 = s.srr0 := rfl
@[simp] theorem State.tlbSetCleared_srr1 (s : State) (ea : Word) : (s.tlbSetCleared ea).srr1 = s.srr1 := rfl
@[simp] theorem State.tlbSetCleared_dar (s : State) (ea : Word) : (s.tlbSetCleared ea).dar = s.dar := rfl
@[simp] theorem State.tlbSetCleared_dsisr (s : State) (ea : Word) : (s.tlbSetCleared ea).dsisr = s.dsisr := rfl
@[simp] theorem State.tlbSetCleared_dec (s : State) (ea : Word) : (s.tlbSetCleared ea).dec = s.dec := rfl
@[simp] theorem State.tlbSetCleared_tb (s : State) (ea : Word) : (s.tlbSetCleared ea).tb = s.tb := rfl
@[simp] theorem State.tlbSetCleared_sdr1 (s : State) (ea : Word) : (s.tlbSetCleared ea).sdr1 = s.sdr1 := rfl
@[simp] theorem State.tlbSetCleared_sprg (s : State) (ea : Word) : (s.tlbSetCleared ea).sprg = s.sprg := rfl
@[simp] theorem State.tlbSetCleared_ear (s : State) (ea : Word) : (s.tlbSetCleared ea).ear = s.ear := rfl
@[simp] theorem State.tlbSetCleared_sr (s : State) (ea : Word) : (s.tlbSetCleared ea).sr = s.sr := rfl
@[simp] theorem State.tlbSetCleared_ibat (s : State) (ea : Word) : (s.tlbSetCleared ea).ibat = s.ibat := rfl
@[simp] theorem State.tlbSetCleared_dbat (s : State) (ea : Word) : (s.tlbSetCleared ea).dbat = s.dbat := rfl
@[simp] theorem State.tlbSetCleared_gqr (s : State) (ea : Word) : (s.tlbSetCleared ea).gqr = s.gqr := rfl
@[simp] theorem State.tlbSetCleared_hid0 (s : State) (ea : Word) : (s.tlbSetCleared ea).hid0 = s.hid0 := rfl
@[simp] theorem State.tlbSetCleared_hid1 (s : State) (ea : Word) : (s.tlbSetCleared ea).hid1 = s.hid1 := rfl
@[simp] theorem State.tlbSetCleared_hid2 (s : State) (ea : Word) : (s.tlbSetCleared ea).hid2 = s.hid2 := rfl
@[simp] theorem State.tlbSetCleared_hid4 (s : State) (ea : Word) : (s.tlbSetCleared ea).hid4 = s.hid4 := rfl
@[simp] theorem State.tlbSetCleared_wpar (s : State) (ea : Word) : (s.tlbSetCleared ea).wpar = s.wpar := rfl
@[simp] theorem State.tlbSetCleared_dmau (s : State) (ea : Word) : (s.tlbSetCleared ea).dmau = s.dmau := rfl
@[simp] theorem State.tlbSetCleared_dmal (s : State) (ea : Word) : (s.tlbSetCleared ea).dmal = s.dmal := rfl
@[simp] theorem State.tlbSetCleared_mmcr0 (s : State) (ea : Word) : (s.tlbSetCleared ea).mmcr0 = s.mmcr0 := rfl
@[simp] theorem State.tlbSetCleared_mmcr1 (s : State) (ea : Word) : (s.tlbSetCleared ea).mmcr1 = s.mmcr1 := rfl
@[simp] theorem State.tlbSetCleared_pmc (s : State) (ea : Word) : (s.tlbSetCleared ea).pmc = s.pmc := rfl
@[simp] theorem State.tlbSetCleared_sia (s : State) (ea : Word) : (s.tlbSetCleared ea).sia = s.sia := rfl
@[simp] theorem State.tlbSetCleared_iabr (s : State) (ea : Word) : (s.tlbSetCleared ea).iabr = s.iabr := rfl
@[simp] theorem State.tlbSetCleared_dabr (s : State) (ea : Word) : (s.tlbSetCleared ea).dabr = s.dabr := rfl
@[simp] theorem State.tlbSetCleared_l2cr (s : State) (ea : Word) : (s.tlbSetCleared ea).l2cr = s.l2cr := rfl
@[simp] theorem State.tlbSetCleared_ictc (s : State) (ea : Word) : (s.tlbSetCleared ea).ictc = s.ictc := rfl
@[simp] theorem State.tlbSetCleared_thrm (s : State) (ea : Word) : (s.tlbSetCleared ea).thrm = s.thrm := rfl
@[simp] theorem State.tlbSetCleared_reserve (s : State) (ea : Word) : (s.tlbSetCleared ea).reserve = s.reserve := rfl
@[simp] theorem State.tlbSetCleared_reserveAddr (s : State) (ea : Word) : (s.tlbSetCleared ea).reserveAddr = s.reserveAddr := rfl
@[simp] theorem State.tlbSetCleared_decPending (s : State) (ea : Word) : (s.tlbSetCleared ea).decPending = s.decPending := rfl
@[simp] theorem State.tlbSetCleared_lines (s : State) (ea : Word) : (s.tlbSetCleared ea).lines = s.lines := rfl
@[simp] theorem State.tlbSetCleared_mode (s : State) (ea : Word) : (s.tlbSetCleared ea).mode = s.mode := rfl
@[simp] theorem State.tlbSetCleared_mem (s : State) (ea : Word) : (s.tlbSetCleared ea).mem = s.mem := rfl
@[simp] theorem State.tlbSetCleared_stale (s : State) (ea : Word) : (s.tlbSetCleared ea).stale = s.stale := rfl
@[simp] theorem State.tlbSetCleared_dirty (s : State) (ea : Word) : (s.tlbSetCleared ea).dirty = s.dirty := rfl
@[simp] theorem State.tlbSetCleared_late (s : State) (ea : Word) : (s.tlbSetCleared ea).late = s.late := rfl
@[simp] theorem State.tlbSetCleared_bus (s : State) (ea : Word) : (s.tlbSetCleared ea).bus = s.bus := rfl
@[simp] theorem State.tlbSetCleared_params (s : State) (ea : Word) : (s.tlbSetCleared ea).params = s.params := rfl
@[simp] theorem State.tlbSetCleared_draws (s : State) (ea : Word) : (s.tlbSetCleared ea).draws = s.draws := rfl
@[simp] theorem State.tlbSetCleared_time (s : State) (ea : Word) : (s.tlbSetCleared ea).time = s.time := rfl

/-! ### `tlbCleared` -/

@[simp] theorem State.tlbCleared_pc (s : State) : (s.tlbCleared).pc = s.pc := rfl
@[simp] theorem State.tlbCleared_gpr (s : State) : (s.tlbCleared).gpr = s.gpr := rfl
@[simp] theorem State.tlbCleared_ps0 (s : State) : (s.tlbCleared).ps0 = s.ps0 := rfl
@[simp] theorem State.tlbCleared_ps1 (s : State) : (s.tlbCleared).ps1 = s.ps1 := rfl
@[simp] theorem State.tlbCleared_cr (s : State) : (s.tlbCleared).cr = s.cr := rfl
@[simp] theorem State.tlbCleared_lr (s : State) : (s.tlbCleared).lr = s.lr := rfl
@[simp] theorem State.tlbCleared_ctr (s : State) : (s.tlbCleared).ctr = s.ctr := rfl
@[simp] theorem State.tlbCleared_xer (s : State) : (s.tlbCleared).xer = s.xer := rfl
@[simp] theorem State.tlbCleared_xerReservedWritten (s : State) : (s.tlbCleared).xerReservedWritten = s.xerReservedWritten := rfl
@[simp] theorem State.tlbCleared_fpscr (s : State) : (s.tlbCleared).fpscr = s.fpscr := rfl
@[simp] theorem State.tlbCleared_msr (s : State) : (s.tlbCleared).msr = s.msr := rfl
@[simp] theorem State.tlbCleared_srr0 (s : State) : (s.tlbCleared).srr0 = s.srr0 := rfl
@[simp] theorem State.tlbCleared_srr1 (s : State) : (s.tlbCleared).srr1 = s.srr1 := rfl
@[simp] theorem State.tlbCleared_dar (s : State) : (s.tlbCleared).dar = s.dar := rfl
@[simp] theorem State.tlbCleared_dsisr (s : State) : (s.tlbCleared).dsisr = s.dsisr := rfl
@[simp] theorem State.tlbCleared_dec (s : State) : (s.tlbCleared).dec = s.dec := rfl
@[simp] theorem State.tlbCleared_tb (s : State) : (s.tlbCleared).tb = s.tb := rfl
@[simp] theorem State.tlbCleared_sdr1 (s : State) : (s.tlbCleared).sdr1 = s.sdr1 := rfl
@[simp] theorem State.tlbCleared_sprg (s : State) : (s.tlbCleared).sprg = s.sprg := rfl
@[simp] theorem State.tlbCleared_ear (s : State) : (s.tlbCleared).ear = s.ear := rfl
@[simp] theorem State.tlbCleared_sr (s : State) : (s.tlbCleared).sr = s.sr := rfl
@[simp] theorem State.tlbCleared_ibat (s : State) : (s.tlbCleared).ibat = s.ibat := rfl
@[simp] theorem State.tlbCleared_dbat (s : State) : (s.tlbCleared).dbat = s.dbat := rfl
@[simp] theorem State.tlbCleared_gqr (s : State) : (s.tlbCleared).gqr = s.gqr := rfl
@[simp] theorem State.tlbCleared_hid0 (s : State) : (s.tlbCleared).hid0 = s.hid0 := rfl
@[simp] theorem State.tlbCleared_hid1 (s : State) : (s.tlbCleared).hid1 = s.hid1 := rfl
@[simp] theorem State.tlbCleared_hid2 (s : State) : (s.tlbCleared).hid2 = s.hid2 := rfl
@[simp] theorem State.tlbCleared_hid4 (s : State) : (s.tlbCleared).hid4 = s.hid4 := rfl
@[simp] theorem State.tlbCleared_wpar (s : State) : (s.tlbCleared).wpar = s.wpar := rfl
@[simp] theorem State.tlbCleared_dmau (s : State) : (s.tlbCleared).dmau = s.dmau := rfl
@[simp] theorem State.tlbCleared_dmal (s : State) : (s.tlbCleared).dmal = s.dmal := rfl
@[simp] theorem State.tlbCleared_mmcr0 (s : State) : (s.tlbCleared).mmcr0 = s.mmcr0 := rfl
@[simp] theorem State.tlbCleared_mmcr1 (s : State) : (s.tlbCleared).mmcr1 = s.mmcr1 := rfl
@[simp] theorem State.tlbCleared_pmc (s : State) : (s.tlbCleared).pmc = s.pmc := rfl
@[simp] theorem State.tlbCleared_sia (s : State) : (s.tlbCleared).sia = s.sia := rfl
@[simp] theorem State.tlbCleared_iabr (s : State) : (s.tlbCleared).iabr = s.iabr := rfl
@[simp] theorem State.tlbCleared_dabr (s : State) : (s.tlbCleared).dabr = s.dabr := rfl
@[simp] theorem State.tlbCleared_l2cr (s : State) : (s.tlbCleared).l2cr = s.l2cr := rfl
@[simp] theorem State.tlbCleared_ictc (s : State) : (s.tlbCleared).ictc = s.ictc := rfl
@[simp] theorem State.tlbCleared_thrm (s : State) : (s.tlbCleared).thrm = s.thrm := rfl
@[simp] theorem State.tlbCleared_reserve (s : State) : (s.tlbCleared).reserve = s.reserve := rfl
@[simp] theorem State.tlbCleared_reserveAddr (s : State) : (s.tlbCleared).reserveAddr = s.reserveAddr := rfl
@[simp] theorem State.tlbCleared_decPending (s : State) : (s.tlbCleared).decPending = s.decPending := rfl
@[simp] theorem State.tlbCleared_lines (s : State) : (s.tlbCleared).lines = s.lines := rfl
@[simp] theorem State.tlbCleared_mode (s : State) : (s.tlbCleared).mode = s.mode := rfl
@[simp] theorem State.tlbCleared_mem (s : State) : (s.tlbCleared).mem = s.mem := rfl
@[simp] theorem State.tlbCleared_stale (s : State) : (s.tlbCleared).stale = s.stale := rfl
@[simp] theorem State.tlbCleared_dirty (s : State) : (s.tlbCleared).dirty = s.dirty := rfl
@[simp] theorem State.tlbCleared_late (s : State) : (s.tlbCleared).late = s.late := rfl
@[simp] theorem State.tlbCleared_bus (s : State) : (s.tlbCleared).bus = s.bus := rfl
@[simp] theorem State.tlbCleared_params (s : State) : (s.tlbCleared).params = s.params := rfl
@[simp] theorem State.tlbCleared_draws (s : State) : (s.tlbCleared).draws = s.draws := rfl
@[simp] theorem State.tlbCleared_time (s : State) : (s.tlbCleared).time = s.time := rfl

/-! ### `discarded` -/

@[simp] theorem State.discarded_pc (s : State) (lost : DirtyWord → Bool) : (s.discarded lost).pc = s.pc := rfl
@[simp] theorem State.discarded_gpr (s : State) (lost : DirtyWord → Bool) : (s.discarded lost).gpr = s.gpr := rfl
@[simp] theorem State.discarded_ps0 (s : State) (lost : DirtyWord → Bool) : (s.discarded lost).ps0 = s.ps0 := rfl
@[simp] theorem State.discarded_ps1 (s : State) (lost : DirtyWord → Bool) : (s.discarded lost).ps1 = s.ps1 := rfl
@[simp] theorem State.discarded_cr (s : State) (lost : DirtyWord → Bool) : (s.discarded lost).cr = s.cr := rfl
@[simp] theorem State.discarded_lr (s : State) (lost : DirtyWord → Bool) : (s.discarded lost).lr = s.lr := rfl
@[simp] theorem State.discarded_ctr (s : State) (lost : DirtyWord → Bool) : (s.discarded lost).ctr = s.ctr := rfl
@[simp] theorem State.discarded_xer (s : State) (lost : DirtyWord → Bool) : (s.discarded lost).xer = s.xer := rfl
@[simp] theorem State.discarded_xerReservedWritten (s : State) (lost : DirtyWord → Bool) : (s.discarded lost).xerReservedWritten = s.xerReservedWritten := rfl
@[simp] theorem State.discarded_fpscr (s : State) (lost : DirtyWord → Bool) : (s.discarded lost).fpscr = s.fpscr := rfl
@[simp] theorem State.discarded_msr (s : State) (lost : DirtyWord → Bool) : (s.discarded lost).msr = s.msr := rfl
@[simp] theorem State.discarded_srr0 (s : State) (lost : DirtyWord → Bool) : (s.discarded lost).srr0 = s.srr0 := rfl
@[simp] theorem State.discarded_srr1 (s : State) (lost : DirtyWord → Bool) : (s.discarded lost).srr1 = s.srr1 := rfl
@[simp] theorem State.discarded_dar (s : State) (lost : DirtyWord → Bool) : (s.discarded lost).dar = s.dar := rfl
@[simp] theorem State.discarded_dsisr (s : State) (lost : DirtyWord → Bool) : (s.discarded lost).dsisr = s.dsisr := rfl
@[simp] theorem State.discarded_dec (s : State) (lost : DirtyWord → Bool) : (s.discarded lost).dec = s.dec := rfl
@[simp] theorem State.discarded_tb (s : State) (lost : DirtyWord → Bool) : (s.discarded lost).tb = s.tb := rfl
@[simp] theorem State.discarded_sdr1 (s : State) (lost : DirtyWord → Bool) : (s.discarded lost).sdr1 = s.sdr1 := rfl
@[simp] theorem State.discarded_sprg (s : State) (lost : DirtyWord → Bool) : (s.discarded lost).sprg = s.sprg := rfl
@[simp] theorem State.discarded_ear (s : State) (lost : DirtyWord → Bool) : (s.discarded lost).ear = s.ear := rfl
@[simp] theorem State.discarded_sr (s : State) (lost : DirtyWord → Bool) : (s.discarded lost).sr = s.sr := rfl
@[simp] theorem State.discarded_ibat (s : State) (lost : DirtyWord → Bool) : (s.discarded lost).ibat = s.ibat := rfl
@[simp] theorem State.discarded_dbat (s : State) (lost : DirtyWord → Bool) : (s.discarded lost).dbat = s.dbat := rfl
@[simp] theorem State.discarded_gqr (s : State) (lost : DirtyWord → Bool) : (s.discarded lost).gqr = s.gqr := rfl
@[simp] theorem State.discarded_hid0 (s : State) (lost : DirtyWord → Bool) : (s.discarded lost).hid0 = s.hid0 := rfl
@[simp] theorem State.discarded_hid1 (s : State) (lost : DirtyWord → Bool) : (s.discarded lost).hid1 = s.hid1 := rfl
@[simp] theorem State.discarded_hid2 (s : State) (lost : DirtyWord → Bool) : (s.discarded lost).hid2 = s.hid2 := rfl
@[simp] theorem State.discarded_hid4 (s : State) (lost : DirtyWord → Bool) : (s.discarded lost).hid4 = s.hid4 := rfl
@[simp] theorem State.discarded_wpar (s : State) (lost : DirtyWord → Bool) : (s.discarded lost).wpar = s.wpar := rfl
@[simp] theorem State.discarded_dmau (s : State) (lost : DirtyWord → Bool) : (s.discarded lost).dmau = s.dmau := rfl
@[simp] theorem State.discarded_dmal (s : State) (lost : DirtyWord → Bool) : (s.discarded lost).dmal = s.dmal := rfl
@[simp] theorem State.discarded_mmcr0 (s : State) (lost : DirtyWord → Bool) : (s.discarded lost).mmcr0 = s.mmcr0 := rfl
@[simp] theorem State.discarded_mmcr1 (s : State) (lost : DirtyWord → Bool) : (s.discarded lost).mmcr1 = s.mmcr1 := rfl
@[simp] theorem State.discarded_pmc (s : State) (lost : DirtyWord → Bool) : (s.discarded lost).pmc = s.pmc := rfl
@[simp] theorem State.discarded_sia (s : State) (lost : DirtyWord → Bool) : (s.discarded lost).sia = s.sia := rfl
@[simp] theorem State.discarded_iabr (s : State) (lost : DirtyWord → Bool) : (s.discarded lost).iabr = s.iabr := rfl
@[simp] theorem State.discarded_dabr (s : State) (lost : DirtyWord → Bool) : (s.discarded lost).dabr = s.dabr := rfl
@[simp] theorem State.discarded_l2cr (s : State) (lost : DirtyWord → Bool) : (s.discarded lost).l2cr = s.l2cr := rfl
@[simp] theorem State.discarded_ictc (s : State) (lost : DirtyWord → Bool) : (s.discarded lost).ictc = s.ictc := rfl
@[simp] theorem State.discarded_thrm (s : State) (lost : DirtyWord → Bool) : (s.discarded lost).thrm = s.thrm := rfl
@[simp] theorem State.discarded_reserve (s : State) (lost : DirtyWord → Bool) : (s.discarded lost).reserve = s.reserve := rfl
@[simp] theorem State.discarded_reserveAddr (s : State) (lost : DirtyWord → Bool) : (s.discarded lost).reserveAddr = s.reserveAddr := rfl
@[simp] theorem State.discarded_decPending (s : State) (lost : DirtyWord → Bool) : (s.discarded lost).decPending = s.decPending := rfl
@[simp] theorem State.discarded_lines (s : State) (lost : DirtyWord → Bool) : (s.discarded lost).lines = s.lines := rfl
@[simp] theorem State.discarded_mode (s : State) (lost : DirtyWord → Bool) : (s.discarded lost).mode = s.mode := rfl
@[simp] theorem State.discarded_late (s : State) (lost : DirtyWord → Bool) : (s.discarded lost).late = s.late := rfl
@[simp] theorem State.discarded_bus (s : State) (lost : DirtyWord → Bool) : (s.discarded lost).bus = s.bus := rfl
@[simp] theorem State.discarded_params (s : State) (lost : DirtyWord → Bool) : (s.discarded lost).params = s.params := rfl
@[simp] theorem State.discarded_time (s : State) (lost : DirtyWord → Bool) : (s.discarded lost).time = s.time := rfl

/-! ### The register files -/

/-- A register reads the value written to it. -/
@[simp] theorem State.x_setX_same (s : State) (r : Reg) (v : Word) : (s.setX r v).x r = v := by
  simp [State.x, State.setX, Vector.get_eq_getElem]

/-- Writing one register leaves the others. -/
@[simp] theorem State.x_setX_other (s : State) {q r : Reg} (v : Word) (h : q ≠ r) : (s.setX r v).x q = s.x q := by
  have h' : r.toNat ≠ q.toNat := fun e => h (BitVec.eq_of_toNat_eq e.symm)
  simp [State.x, State.setX, Vector.get_eq_getElem, h']

/-- Lane 0 reads the value written to it. -/
@[simp] theorem State.f0_setF0_same (s : State) (r : FReg) (v : Lane) : (s.setF0 r v).f0 r = v := by
  simp [State.f0, State.setF0, Vector.get_eq_getElem]

/-- Writing one lane 0 leaves the others. -/
@[simp] theorem State.f0_setF0_other (s : State) {q r : FReg} (v : Lane) (h : q ≠ r) : (s.setF0 r v).f0 q = s.f0 q := by
  have h' : r.toNat ≠ q.toNat := fun e => h (BitVec.eq_of_toNat_eq e.symm)
  simp [State.f0, State.setF0, Vector.get_eq_getElem, h']

/-- Lane 1 reads the value written to it. -/
@[simp] theorem State.f1_setF1_same (s : State) (r : FReg) (v : Lane) : (s.setF1 r v).f1 r = v := by
  simp [State.f1, State.setF1, Vector.get_eq_getElem]

/-- Writing one lane 1 leaves the others. -/
@[simp] theorem State.f1_setF1_other (s : State) {q r : FReg} (v : Lane) (h : q ≠ r) : (s.setF1 r v).f1 q = s.f1 q := by
  have h' : r.toNat ≠ q.toNat := fun e => h (BitVec.eq_of_toNat_eq e.symm)
  simp [State.f1, State.setF1, Vector.get_eq_getElem, h']

@[simp] theorem State.f0_setF1 (s : State) (q r : FReg) (v : Lane) : (s.setF1 r v).f0 q = s.f0 q := rfl
@[simp] theorem State.f1_setF0 (s : State) (q r : FReg) (v : Lane) : (s.setF0 r v).f1 q = s.f1 q := rfl
@[simp] theorem State.x_setF0 (s : State) (q : Reg) (r : FReg) (v : Lane) : (s.setF0 r v).x q = s.x q := rfl
@[simp] theorem State.x_setF1 (s : State) (q : Reg) (r : FReg) (v : Lane) : (s.setF1 r v).x q = s.x q := rfl

@[simp] theorem State.x_setCa (s : State) (q : Reg) (c : Bool) : (s.setCa c).x q = s.x q := rfl
@[simp] theorem State.x_setOv (s : State) (q : Reg) (ov : Bool) : (s.setOv ov).x q = s.x q := rfl
@[simp] theorem State.x_setCrf (s : State) (q : Reg) (n : CrField) (w : BitVec 4) : (s.setCrf n w).x q = s.x q := rfl
@[simp] theorem State.x_drawnBy (s : State) (q : Reg) (n : Nat) : (s.drawnBy n).x q = s.x q := rfl
@[simp] theorem State.msrSe_setX (s : State) (r : Reg) (v : Word) : (s.setX r v).msrSe = s.msrSe := rfl
@[simp] theorem State.msrFe_setX (s : State) (r : Reg) (v : Word) : (s.setX r v).msrFe = s.msrFe := rfl
@[simp] theorem State.msrPr_setX (s : State) (r : Reg) (v : Word) : (s.setX r v).msrPr = s.msrPr := rfl
@[simp] theorem State.msrFp_setX (s : State) (r : Reg) (v : Word) : (s.setX r v).msrFp = s.msrFp := rfl
@[simp] theorem State.msrIle_setX (s : State) (r : Reg) (v : Word) : (s.setX r v).msrIle = s.msrIle := rfl
@[simp] theorem State.msrSe_setF0 (s : State) (r : FReg) (v : Lane) : (s.setF0 r v).msrSe = s.msrSe := rfl
@[simp] theorem State.msrFe_setF0 (s : State) (r : FReg) (v : Lane) : (s.setF0 r v).msrFe = s.msrFe := rfl
@[simp] theorem State.msrPr_setF0 (s : State) (r : FReg) (v : Lane) : (s.setF0 r v).msrPr = s.msrPr := rfl
@[simp] theorem State.msrFp_setF0 (s : State) (r : FReg) (v : Lane) : (s.setF0 r v).msrFp = s.msrFp := rfl
@[simp] theorem State.msrIle_setF0 (s : State) (r : FReg) (v : Lane) : (s.setF0 r v).msrIle = s.msrIle := rfl
@[simp] theorem State.msrSe_setF1 (s : State) (r : FReg) (v : Lane) : (s.setF1 r v).msrSe = s.msrSe := rfl
@[simp] theorem State.msrFe_setF1 (s : State) (r : FReg) (v : Lane) : (s.setF1 r v).msrFe = s.msrFe := rfl
@[simp] theorem State.msrPr_setF1 (s : State) (r : FReg) (v : Lane) : (s.setF1 r v).msrPr = s.msrPr := rfl
@[simp] theorem State.msrFp_setF1 (s : State) (r : FReg) (v : Lane) : (s.setF1 r v).msrFp = s.msrFp := rfl
@[simp] theorem State.msrIle_setF1 (s : State) (r : FReg) (v : Lane) : (s.setF1 r v).msrIle = s.msrIle := rfl
@[simp] theorem State.msrSe_setCa (s : State) (c : Bool) : (s.setCa c).msrSe = s.msrSe := rfl
@[simp] theorem State.msrFe_setCa (s : State) (c : Bool) : (s.setCa c).msrFe = s.msrFe := rfl
@[simp] theorem State.msrPr_setCa (s : State) (c : Bool) : (s.setCa c).msrPr = s.msrPr := rfl
@[simp] theorem State.msrFp_setCa (s : State) (c : Bool) : (s.setCa c).msrFp = s.msrFp := rfl
@[simp] theorem State.msrIle_setCa (s : State) (c : Bool) : (s.setCa c).msrIle = s.msrIle := rfl
@[simp] theorem State.msrSe_setOv (s : State) (ov : Bool) : (s.setOv ov).msrSe = s.msrSe := rfl
@[simp] theorem State.msrFe_setOv (s : State) (ov : Bool) : (s.setOv ov).msrFe = s.msrFe := rfl
@[simp] theorem State.msrPr_setOv (s : State) (ov : Bool) : (s.setOv ov).msrPr = s.msrPr := rfl
@[simp] theorem State.msrFp_setOv (s : State) (ov : Bool) : (s.setOv ov).msrFp = s.msrFp := rfl
@[simp] theorem State.msrIle_setOv (s : State) (ov : Bool) : (s.setOv ov).msrIle = s.msrIle := rfl
@[simp] theorem State.msrSe_setCrf (s : State) (n : CrField) (w : BitVec 4) : (s.setCrf n w).msrSe = s.msrSe := rfl
@[simp] theorem State.msrFe_setCrf (s : State) (n : CrField) (w : BitVec 4) : (s.setCrf n w).msrFe = s.msrFe := rfl
@[simp] theorem State.msrPr_setCrf (s : State) (n : CrField) (w : BitVec 4) : (s.setCrf n w).msrPr = s.msrPr := rfl
@[simp] theorem State.msrFp_setCrf (s : State) (n : CrField) (w : BitVec 4) : (s.setCrf n w).msrFp = s.msrFp := rfl
@[simp] theorem State.msrIle_setCrf (s : State) (n : CrField) (w : BitVec 4) : (s.setCrf n w).msrIle = s.msrIle := rfl
@[simp] theorem State.msrSe_drawnBy (s : State) (n : Nat) : (s.drawnBy n).msrSe = s.msrSe := rfl
@[simp] theorem State.msrFe_drawnBy (s : State) (n : Nat) : (s.drawnBy n).msrFe = s.msrFe := rfl
@[simp] theorem State.msrPr_drawnBy (s : State) (n : Nat) : (s.drawnBy n).msrPr = s.msrPr := rfl
@[simp] theorem State.msrFp_drawnBy (s : State) (n : Nat) : (s.drawnBy n).msrFp = s.msrFp := rfl
@[simp] theorem State.msrIle_drawnBy (s : State) (n : Nat) : (s.drawnBy n).msrIle = s.msrIle := rfl

/-! ### The bits of a word -/

/-- Bit `j` after bit `i` was set to `b`. -/
@[simp] theorem setBit_getLsbD (v : Word) (i j : Nat) (b : Bool) (hj : j < 32) :
    (setBit v i b).getLsbD j = if j = i then b else v.getLsbD j := by
  by_cases h : j = i <;> cases b <;> simp [setBit, h, hj] <;> omega

end Sys2Proof.Machine
end

