-- ==== Sys2Proof/Laws/Memory.lean ====
section
/-! SUPPORT. The laws of memory: a read after a write, and the canonical form, which every operation keeps. -/

namespace Sys2Proof.Machine

/-! ### One byte -/

theorem Memory.read_insert (m : Memory) (a : Nat) (b : Byte) (x : Nat) :
    (Memory.insert a b m).read x = if x = a then b else m.read x := by
  induction m with
  | nil => simp [Memory.insert, Memory.read, eq_comm]
  | cons c m ih =>
    obtain ⟨k, v⟩ := c
    simp only [Memory.insert]
    split_ifs <;> simp only [Memory.read, ih] <;> grind

theorem Memory.read_filter (m : Memory) (a x : Nat) :
    Memory.read (m.filter (fun c => c.1 ≠ a)) x = if x = a then 0 else m.read x := by
  induction m with
  | nil => simp [Memory.read]
  | cons c m ih =>
    obtain ⟨k, v⟩ := c
    by_cases h : k = a
    · simp only [List.filter, ne_eq, h, not_true_eq_false, decide_false, ih, Memory.read]; grind
    · simp only [List.filter, ne_eq, h, not_false_eq_true, decide_true, Memory.read, ih]; grind

/-- A byte reads as written; every other byte is left alone. -/
@[simp] theorem Memory.read_write (m : Memory) (a : Nat) (b : Byte) (x : Nat) :
    (m.write a b).read x = if x = a then b else m.read x := by
  by_cases h : b = 0
  · simpa [Memory.write, h] using Memory.read_filter m a x
  · rw [Memory.write, if_neg h, Memory.read_insert]

/-! ### The canonical form -/

/-- What the canonical form says. -/
theorem Memory.wf_iff (m : Memory) :
    m.wf = true ↔ m.Pairwise (fun c d => c.1 < d.1) ∧ ∀ c ∈ m, c.1 < 2 ^ 32 ∧ c.2 ≠ 0 := by
  induction m with
  | nil => simp [Memory.wf]
  | cons c m ih =>
    obtain ⟨k, v⟩ := c
    cases m with
    | nil => simp [Memory.wf]
    | cons d m =>
      obtain ⟨k', v'⟩ := d
      rw [Memory.wf, Bool.and_eq_true, ih]
      simp only [List.pairwise_cons, List.mem_cons, forall_eq_or_imp, Bool.and_eq_true, decide_eq_true_eq, bne_iff_ne,
        ne_eq]
      constructor
      · rintro ⟨⟨h1, h2⟩, ⟨h3, h4⟩, h5, h6⟩
        exact ⟨⟨⟨h1, fun c hc => lt_trans h1 (h3 c hc)⟩, h3, h4⟩, ⟨lt_trans h1 h5.1, h2⟩, h5, h6⟩
      · rintro ⟨⟨⟨h1, -⟩, h3, h4⟩, ⟨-, h2⟩, h5, h6⟩
        exact ⟨⟨h1, h2⟩, ⟨h3, h4⟩, h5, h6⟩

theorem Memory.mem_insert {m : Memory} {a : Nat} {b : Byte} {c : Host.Cell} (h : c ∈ Memory.insert a b m) :
    c = (a, b) ∨ c ∈ m := by
  induction m with
  | nil => simpa [Memory.insert] using h
  | cons d m ih =>
    obtain ⟨k, v⟩ := d
    simp only [Memory.insert] at h
    split at h
    · simpa using h
    · split at h
      · rcases List.mem_cons.1 h with h | h
        · exact .inl h
        · exact .inr (List.mem_cons_of_mem _ h)
      · rcases List.mem_cons.1 h with h | h
        · exact .inr (by simp [h])
        · exact (ih h).imp_right (List.mem_cons_of_mem _)

theorem Memory.insert_pairwise {m : Memory} (a : Nat) (b : Byte) (h : m.Pairwise (fun c d => c.1 < d.1)) :
    (Memory.insert a b m).Pairwise (fun c d => c.1 < d.1) := by
  induction m with
  | nil => simp [Memory.insert]
  | cons d m ih =>
    obtain ⟨k, v⟩ := d
    obtain ⟨hk, hm⟩ := List.pairwise_cons.1 h
    simp only [Memory.insert]
    split
    · rename_i hlt
      refine List.pairwise_cons.2 ⟨fun c hc => ?_, h⟩
      rcases List.mem_cons.1 hc with rfl | hc
      · exact hlt
      · exact lt_trans hlt (hk c hc)
    · split
      · rename_i e; subst e; exact List.pairwise_cons.2 ⟨hk, hm⟩
      · rename_i hlt hne
        refine List.pairwise_cons.2 ⟨fun c hc => ?_, ih hm⟩
        rcases Memory.mem_insert hc with rfl | hc
        · exact lt_of_le_of_ne (not_lt.1 hlt) hne
        · exact hk c hc

/-- A write keeps the canonical form. -/
theorem Memory.wf_write {m : Memory} (h : m.wf = true) {a : Nat} (ha : a < 2 ^ 32) (b : Byte) :
    (m.write a b).wf = true := by
  rw [Memory.wf_iff] at h ⊢
  by_cases hb : b = 0
  · simp only [Memory.write, hb, if_true]
    exact ⟨h.1.filter _, fun c hc => h.2 c (List.mem_of_mem_filter hc)⟩
  · simp only [Memory.write, hb, if_false]
    refine ⟨Memory.insert_pairwise a b h.1, fun c hc => ?_⟩
    rcases Memory.mem_insert hc with rfl | hc
    · exact ⟨ha, hb⟩
    · exact h.2 c hc

/-- The canonical form holds after reset. -/
theorem State.reset_wf : State.reset.mem.wf = true := rfl

/-! ### Several bytes -/

theorem byteAt_lt (pa : Word) (i : Nat) : byteAt pa i < 2 ^ 32 := (pa + BitVec.ofNat 32 i).isLt

@[simp] theorem byteAt_zero (pa : Word) : byteAt pa 0 = pa.toNat := by simp [byteAt]

theorem byteAt_succ (pa : Word) (i : Nat) : byteAt (pa + 1) i = byteAt pa (i + 1) := by
  simp [byteAt, Nat.add_assoc, Nat.add_comm 1 i]

theorem byteAt_inj {pa : Word} {i j : Nat} (hi : i < 2 ^ 32) (hj : j < 2 ^ 32) (h : byteAt pa i = byteAt pa j) :
    i = j := by
  simp only [byteAt, BitVec.toNat_add, BitVec.toNat_ofNat] at h
  omega

/-- Writing bytes keeps the canonical form. -/
theorem Memory.wf_writeBytes {m : Memory} (h : m.wf = true) (pa : Word) (bs : List Byte) :
    (m.writeBytes pa bs).wf = true := by
  induction bs generalizing m pa with
  | nil => exact h
  | cons b bs ih => exact ih (Memory.wf_write h pa.isLt b) (pa + 1)

/-- The bytes outside those written are left alone. -/
theorem Memory.read_writeBytes_outside (m : Memory) (pa : Word) (bs : List Byte) (a : Nat)
    (h : ∀ i < bs.length, a ≠ byteAt pa i) : (m.writeBytes pa bs).read a = m.read a := by
  induction bs generalizing m pa with
  | nil => rfl
  | cons b bs ih =>
    rw [Memory.writeBytes, ih]
    · have := h 0 (by simp)
      simp_all
    · intro i hi
      rw [byteAt_succ]
      exact h (i + 1) (by simpa using hi)

/-- The bytes written read as written. -/
theorem Memory.read_writeBytes (m : Memory) (pa : Word) (bs : List Byte) (hl : bs.length ≤ 2 ^ 32) (i : Nat)
    (h : i < bs.length) : (m.writeBytes pa bs).read (byteAt pa i) = bs[i] := by
  induction bs generalizing m pa i with
  | nil => simp at h
  | cons b bs ih =>
    simp only [List.length_cons] at hl h
    cases i with
    | zero =>
      rw [Memory.writeBytes, Memory.read_writeBytes_outside]
      · simp
      · intro j hj
        rw [byteAt_succ]
        exact fun e => absurd (byteAt_inj (by omega) (by omega) e) (by omega)
    | succ i =>
      rw [Memory.writeBytes, ← byteAt_succ, ih _ _ (by omega) _ (by omega)]
      rfl

/-! ### The operations over the state -/

theorem State.wf_storePhys {s : State} (h : s.mem.wf = true) (m : Mapped) (bs : List Byte) :
    (s.storePhys m bs).mem.wf = true := Memory.wf_writeBytes h m.pa bs

theorem State.wf_afterStore {s : State} (h : s.mem.wf = true) (m : Mapped) (bs : List Byte) :
    (s.afterStore m bs).mem.wf = true := by
  unfold State.afterStore
  split
  · exact h
  · exact State.wf_storePhys h m bs

theorem State.wf_touch {s : State} (h : s.mem.wf = true) (k : Access) (p : Option Word) :
    (s.touch k p).mem.wf = true := by
  cases p with
  | none => exact h
  | some a =>
    simp only [State.touch]
    split <;> split <;> first
      | exact h
      | exact Memory.wf_write h (byteAt_lt _ _) _
      | exact Memory.wf_write (Memory.wf_write h (byteAt_lt _ _) _) (byteAt_lt _ _) _

theorem Memory.wf_reverted {m : Memory} (h : m.wf = true) (e : DirtyWord) (draw : BitVec 64) :
    (m.reverted e draw).wf = true := by
  unfold Memory.reverted
  split
  · exact Memory.wf_writeBytes h _ _
  · exact h

theorem State.wf_discarded {s : State} (h : s.mem.wf = true) (lost : DirtyWord → Bool) :
    (s.discarded lost).mem.wf = true := by
  simp only [State.discarded]
  generalize (s.dirty.filter lost).zipIdx = l
  generalize s.mem = m at h
  induction l generalizing m with
  | nil => exact h
  | cons e l ih => exact ih _ (Memory.wf_reverted h _ _)

/-- A store notes nothing about a word of another block. -/
theorem mem_noteDirty_other {m : Memory} {cached : Bool} {attr : BitVec 2} {l : List DirtyWord} {w : Nat} {e : DirtyWord}
    (h : sameBlock e.word w = false) : e ∈ noteDirty m cached attr l w ↔ e ∈ l := by
  have hw : e.word ≠ w := fun hw => by simp [sameBlock, hw] at h
  have h1 : ∀ {f : DirtyWord → DirtyWord} {l : List DirtyWord}, (∀ o, (f o).word = o.word) →
      (∀ o, sameBlock o.word w = false → f o = o) → (e ∈ l.map f ↔ e ∈ l) := by
    intro f l hf hg
    refine ⟨fun he => ?_, fun he => List.mem_map.2 ⟨e, he, hg e h⟩⟩
    obtain ⟨o, ho, rfl⟩ := List.mem_map.1 he
    rwa [hg o (by rwa [hf] at h)]
  have h2 : ∀ o : DirtyWord, sameBlock o.word w = false → o.word ≠ w := fun o ho hw => by simp [sameBlock, hw] at ho
  simp only [noteDirty]
  split
  · rw [h1 (fun o => by split <;> rfl) (fun o ho => by simp [h2 o ho]),
      h1 (fun o => by split <;> rfl) (fun o ho => by simp [ho])]
  · rw [List.mem_cons, h1 (fun o => by split <;> rfl) (fun o ho => by simp [ho])]
    exact or_iff_right fun he => hw (by rw [he])

/-- Where no word is dropped, nothing changes. -/
theorem State.discarded_none {s : State} {lost : DirtyWord → Bool} (h : ∀ e ∈ s.dirty, lost e = false) :
    s.discarded lost = s := by
  have h1 : s.dirty.filter lost = [] := List.filter_eq_nil_iff.2 fun e he => by simp [h e he]
  have h2 : s.dirty.filter (fun e => !lost e) = s.dirty := List.filter_eq_self.2 fun e he => by simp [h e he]
  simp [State.discarded, h1, h2, TableHistory.noteWords]

/-- `sync` keeps the canonical form of memory. -/
theorem State.wf_synced {s : State} (h : s.mem.wf = true) : s.synced.mem.wf = true := State.wf_discarded h _

/-- Where every stored word is decided, `sync` leaves memory. -/
theorem State.synced_mem_of_decided {s : State} (h : ∀ e ∈ s.dirty, s.undecided e = false) : s.synced.mem = s.mem := by
  simp only [State.synced, State.discarded_none h]

theorem State.wf_placeWordBytes {s : State} (h : s.mem.wf = true) (pa : Word) (bs : List Byte) :
    ({ s with mem := s.mem.writeBytes pa bs } : State).mem.wf = true := Memory.wf_writeBytes h pa bs

end Sys2Proof.Machine
end

