-- ==== Sys2Proof/Laws/Ops.lean ====
section
/-! SUPPORT. What each shared operation can do, said once: the cases of taking an exception, ending an instruction, the
gates, translation in real mode, and data accesses. -/

namespace Sys2Proof.Machine

/-! ### Parts -/

@[simp] theorem Res.bind_ok {α β : Type} (a : α) (s : State) (f : α → State → Res β) : (Res.ok a s).bind f = f a s := rfl
@[simp] theorem Res.bind_stop {α β : Type} (o : Out) (f : α → State → Res β) : (Res.stop o).bind f = .stop o := rfl
@[simp] theorem Res.finish_ok {α : Type} (a : α) (s : State) (f : α → State → Out) : (Res.ok a s).finish f = f a s := rfl
@[simp] theorem Res.finish_stop {α : Type} (o : Out) (f : α → State → Out) :
    (Res.stop o : Res α).finish f = o := rfl

/-- If a sequence succeeds, both parts do. -/
theorem Res.bind_eq_ok {α β : Type} {r : Res α} {f : α → State → Res β} {b : β} {t : State} (h : r.bind f = .ok b t) :
    ∃ a s, r = .ok a s ∧ f a s = .ok b t := by
  cases r with
  | ok a s => exact ⟨a, s, rfl, h⟩
  | stop o => cases h

/-- An instruction that ends either ends in its last part or where an earlier part stopped. -/
theorem Res.finish_cases {α : Type} {r : Res α} {f : α → State → Out} {o : Out} (h : r.finish f = o) :
    (∃ a s, r = .ok a s ∧ f a s = o) ∨ r = .stop o := by
  cases r with
  | ok a s => exact .inl ⟨a, s, rfl, h⟩
  | stop o' => exact .inr (congrArg Res.stop h)

/-! ### Exceptions -/

/-- Taking an exception enters it, unless ILE is set. -/
theorem takeException_next {e : Exception} {ra info : Word} {s t : State} :
    takeException e ra info s = .next t ↔ s.msrIle = false ∧ t = s.entered e ra info := by
  unfold takeException
  constructor
  · intro h
    split at h
    · cases h
    · exact ⟨Bool.eq_false_of_not_eq_true ‹_›, by cases h; rfl⟩
  · rintro ⟨h, rfl⟩
    rw [if_neg (by rw [h]; decide)]

theorem takeException_of_ile {e : Exception} {ra info : Word} {s : State} (h : s.msrIle = false) :
    takeException e ra info s = .next (s.entered e ra info) := by
  simp [takeException, h]

theorem takeException_not_fault {e : Exception} {ra info : Word} {s : State} {f : Fault} :
    takeException e ra info s ≠ .fault f := by
  unfold takeException; split <;> simp

/-- The handler's address is a multiple of 4. -/
theorem vectorAddress_aligned (ip : Bool) (e : Exception) : vectorAddress ip e &&& 3 = 0 := by
  cases ip <;> cases e <;> rfl

/-- Ending an instruction advances pc, or takes the trace exception. -/
theorem retireTo_next {traced : Bool} {next : Word} {s t : State} (h : retireTo traced next s = .next t) :
    (traced = false ∧ t = { s with pc := next }) ∨ (traced = true ∧ s.msrIle = false ∧ t = s.entered .trace next 0) := by
  unfold retireTo at h
  split at h
  · exact .inr ⟨‹_›, takeException_next.1 h⟩
  · exact .inl ⟨Bool.eq_false_of_not_eq_true ‹_›, by cases h; rfl⟩

theorem retire_next {s t : State} (h : retire s = .next t) :
    (s.msrSe = false ∧ t = { s with pc := s.pc + 4 }) ∨
      (s.msrSe = true ∧ s.msrIle = false ∧ t = s.entered .trace (s.pc + 4) 0) := retireTo_next h

theorem retire_untraced {s : State} (h : s.msrSe = false) : retire s = .next { s with pc := s.pc + 4 } := by
  simp [retire, retireTo, h]

theorem retireBranch_untraced {s : State} (target : Word) (h : s.msrSe = false) (h' : s.msrBe = false) :
    retireBranch target s = .next { s with pc := target } := by
  simp [retireBranch, retireTo, h, h']

/-- A privileged instruction has its effect in supervisor mode and raises in user mode. -/
theorem privileged_cases {s : State} {run o : Out} (h : privileged s run = o) :
    (s.msrPr = false ∧ run = o) ∨ (s.msrPr = true ∧ raiseProgram .privilegedInstruction s = o) := by
  unfold privileged at h
  split at h
  · exact .inr ⟨‹_›, h⟩
  · exact .inl ⟨Bool.eq_false_of_not_eq_true ‹_›, h⟩

/-- A floating-point instruction has its effect where MSR[FP] is 1 and raises where it is 0. -/
theorem withFp_cases {s : State} {run o : Out} (h : withFp s run = o) :
    (s.msrFp = true ∧ run = o) ∨ (s.msrFp = false ∧ raiseFpUnavailable s = o) := by
  unfold withFp at h
  split at h
  · exact .inl ⟨‹_›, h⟩
  · exact .inr ⟨Bool.eq_false_of_not_eq_true ‹_›, h⟩

/-- A paired-single instruction is illegal, unavailable, or has its effect. -/
theorem withPaired_cases {s : State} {run o : Out} (h : withPaired s run = o) :
    (s.pse = true ∧ s.msrFp = true ∧ run = o) ∨ (s.pse = true ∧ s.msrFp = false ∧ raiseFpUnavailable s = o) ∨
      (s.pse = false ∧ raiseProgram .illegalInstruction s = o) := by
  unfold withPaired at h
  split at h
  · rcases withFp_cases h with h' | h'
    · exact .inl ⟨‹_›, h'⟩
    · exact .inr (.inl ⟨‹_›, h'⟩)
  · exact .inr (.inr ⟨Bool.eq_false_of_not_eq_true ‹_›, h⟩)

theorem withQuantized_cases {s : State} {run o : Out} (h : withQuantized s run = o) :
    (s.pse = true ∧ s.lsqe = true ∧ s.msrFp = true ∧ run = o) ∨
      (s.pse = true ∧ s.lsqe = true ∧ s.msrFp = false ∧ raiseFpUnavailable s = o) ∨
      ((s.pse = false ∨ s.lsqe = false) ∧ raiseProgram .illegalInstruction s = o) := by
  unfold withQuantized at h
  split at h
  · rename_i hp
    simp only [Bool.and_eq_true] at hp
    rcases withFp_cases h with h' | h'
    · exact .inl ⟨hp.1, hp.2, h'⟩
    · exact .inr (.inl ⟨hp.1, hp.2, h'⟩)
  · rename_i hp
    refine .inr (.inr ⟨?_, h⟩)
    revert hp
    cases s.pse <;> cases s.lsqe <;> simp

/-- A machine check is taken, or halts the processor. -/
theorem machineCheck_next {info : Word} {s t : State} (h : machineCheck info s = .next t) :
    (s.msrMe = true ∧ s.msrIle = false ∧ t = s.drawn.entered .machineCheck (s.free.setWidth 32) info) ∨
      (s.msrMe = false ∧ t = { s with mode := .checkstop }) := by
  unfold machineCheck at h
  split at h
  · exact .inl ⟨‹_›, takeException_next.1 h⟩
  · exact .inr ⟨Bool.eq_false_of_not_eq_true ‹_›, by cases h; rfl⟩

/-! ### The context -/

/-- With no write of the context outstanding, every register acts as it stands. -/
@[simp] theorem State.acting_settled {s : State} (h : s.late = []) (f : Bool) (r : ContextReg) :
    s.acting f r = s.contextReg r := by
  simp [State.acting, h]

/-- What acts is what the register holds, or what it held before one of its outstanding writes. -/
theorem State.acting_cases (s : State) (f : Bool) (r : ContextReg) :
    s.acting f r = s.contextReg r ∨ ∃ e ∈ s.late, e.reg = r ∧ s.acting f r = e.old := by
  unfold State.acting
  split
  · exact .inl rfl
  · rename_i olds hne
    rcases hc : (s.late.filter (fun e => e.reg = r))[Config.lateChoice s.time f r]? with _ | e
    · exact .inl (by simp [hc])
    · have hm := List.mem_filter.1 (List.mem_of_getElem? hc)
      exact .inr ⟨e, hm.1, by simpa using hm.2, by simp [hc]⟩

/-- After a context synchronization only an outstanding write of DCE is left. -/
theorem State.resynced_acting (s : State) (f : Bool) {r : ContextReg} (h : r ≠ .dce) :
    s.resynced.acting f r = s.contextReg r := by
  have : s.resynced.late.filter (fun e => e.reg = r) = [] := by
    simp only [State.resynced, State.refetched_late, State.contextSynced, List.filter_filter, List.filter_eq_nil_iff]
    intro e _
    simp only [Bool.and_eq_true, decide_eq_true_eq, not_and]
    intro h1 h2
    exact h (h1 ▸ h2)
  unfold State.acting
  rw [this]
  cases r <;> rfl

/-- The instruction cache is enabled after a context synchronization where HID0[ICE] is 1: no older ICE acts (R862). -/
@[simp] theorem State.resynced_ice (s : State) : s.resynced.ice = s.hid0.getLsbD 15 :=
  congrArg (·.getLsbD 15) (s.resynced_acting true (by decide))

/-- What a context synchronization leaves of the writes of the context. -/
@[simp] theorem State.mem_resynced_late {s : State} {e : LateWrite} : e ∈ s.resynced.late ↔ e ∈ s.late ∧ e.reg = .dce := by
  simp [State.resynced, State.contextSynced]

/-- A word that a fetch may still see old after a context synchronization was one before, and its sequence was not
complete for the ICE that HID0 holds. -/
theorem State.mem_resynced_stale {s : State} {e : StaleWord} (h : e ∈ s.resynced.stale) :
    ∃ o ∈ s.stale, o.stage.complete (s.hid0.getLsbD 15) = false ∧
      e = if o.stage = .invalidated then { o with stage := .settled } else o := by
  have hice : s.contextSynced.ice = s.hid0.getLsbD 15 := s.resynced_ice
  simp only [State.resynced, State.refetched, hice, State.contextSynced_stale, List.mem_map, List.mem_filter,
    Bool.not_eq_true'] at h
  obtain ⟨o, ⟨hm, hc⟩, rfl⟩ := h
  exact ⟨o, hm, hc, rfl⟩

/-- A word that a fetch may see old after ICFI was one before; one whose stores had reached memory now waits only for
`isync`. -/
theorem State.mem_fetchFlushed_stale {s : State} {e : StaleWord} (h : e ∈ s.fetchFlushed.stale) :
    ∃ o ∈ s.stale, e.word = o.word ∧ e.olds = o.olds ∧
      (e.stage = o.stage ∧ (o.stage = .written ∨ o.stage = .stored) ∨ e.stage = .settled) := by
  simp only [State.fetchFlushed, List.mem_map] at h
  obtain ⟨o, hm, rfl⟩ := h
  refine ⟨o, hm, ?_⟩
  split
  · exact ⟨rfl, rfl, .inr rfl⟩
  · refine ⟨rfl, rfl, ?_⟩
    cases ho : o.stage <;> simp_all

/-! ### The page table -/

/-- With no change of the page table remembered, a page is translated by what the search finds. -/
theorem State.pageEntry_settled {s : State} (h : s.tables.changes = []) (f : Bool) (vsid : BitVec 24) (ea : Word) :
    (s.pageEntry f vsid ea).1 = s.search (s.acting f .sdr1) vsid ea := by
  simp [State.pageEntry, h]

/-- An entry found in the primary group alone is the search's. -/
theorem State.search_primary {s : State} {sdr1 : Word} {vsid : BitVec 24} {ea : Word} {p : Pte}
    (h1 : s.searchGroup sdr1 vsid ea false = .found p) (h2 : ∀ q, s.searchGroup sdr1 vsid ea true ≠ .found q)
    (h3 : s.searchGroup sdr1 vsid ea true ≠ .refused .pteConflict) : s.search sdr1 vsid ea = .found p := by
  unfold State.search
  rw [h1]
  dsimp only
  split
  · exact absurd ‹_› (h2 _)
  · exact absurd ‹_› h3
  all_goals rfl

/-! ### Translation in real mode, and accesses to RAM -/

@[simp] theorem State.translate_real {s : State} {k : Access} (h : s.translating k = false) (ea : Word) :
    s.translate k ea = .mapped (realMode k ea) := by
  simp [State.translate, h]

theorem State.dataMap_real {s : State} {k : Access} (hk : k ≠ .fetch) (h : s.msrDr = false) (ea : Word) :
    s.dataMap k ea = .ok (realMode k ea) s := by
  have : s.translating k = false := by cases k <;> simp_all [State.translating]
  simp [State.dataMap, this]

@[simp] theorem State.touch_none (s : State) (k : Access) : s.touch k none = s := rfl

/-- No data address breakpoint matches when none is armed. -/
theorem State.dabrMatches_off {s : State} (h : s.acting false .dabr &&& 3 = 0) (k : Access) (ea : Word) :
    s.dabrMatches k ea = false := by
  have h0 : (s.acting false .dabr).getLsbD 0 = false := by
    have := congrArg (fun v : Word => v.getLsbD 0) h
    rwa [BitVec.getLsbD_and, show (3 : Word).getLsbD 0 = true from rfl, Bool.and_true] at this
  have h1 : (s.acting false .dabr).getLsbD 1 = false := by
    have := congrArg (fun v : Word => v.getLsbD 1) h
    rwa [BitVec.getLsbD_and, show (3 : Word).getLsbD 1 = true from rfl, Bool.and_true] at this
  unfold State.dabrMatches
  dsimp only
  rw [h0, h1, ite_self, Bool.and_false]

/-- An access whose bytes all lie in RAM passes the check of the memory map. -/
theorem State.regionCheck_ram {s : State} {k : Access} {m : Mapped} {n : Nat} {al : Bool}
    (h : ∀ i < n, s.params.kindAt (byteAt m.pa i) = .ram) : s.regionCheck k m n al = .ok () s := by
  have hk : ∀ x ∈ s.kindsOf m.pa n, x = .ram := by
    intro x hx
    simp only [State.kindsOf, List.mem_map, List.mem_range] at hx
    obtain ⟨i, hi, rfl⟩ := hx
    exact h i hi
  have ha : RegionKind.absent ∉ s.kindsOf m.pa n := fun hx => by cases hk _ hx
  have hd : RegionKind.device ∉ s.kindsOf m.pa n := fun hx => by cases hk _ hx
  have hr : RegionKind.rom ∉ s.kindsOf m.pa n := fun hx => by cases hk _ hx
  simp [State.regionCheck, ha, hd, hr]

/-- An access whose bytes all lie in RAM goes to no device. -/
theorem State.toDevice_ram {s : State} {m : Mapped} {n : Nat}
    (h : ∀ i < n, s.params.kindAt (byteAt m.pa i) = .ram) : s.toDevice m n = false := by
  simp only [State.toDevice, State.kindsOf, List.mem_map, List.mem_range, decide_eq_false_iff_not, not_exists, not_and]
  intro i hi e
  rw [h i hi] at e
  cases e

/-- In real mode W and I are 0 (R110). -/
@[simp] theorem realMode_attr (k : Access) (ea : Word) : (realMode k ea).attr = 0 := by
  have h1 : BitVec.extractLsb' 2 2 (1 : BitVec 4) = 0 := rfl
  have h3 : BitVec.extractLsb' 2 2 (3 : BitVec 4) = 0 := rfl
  cases k
  · exact h1
  · exact h3
  · exact h3

/-- The bytes of a stored word that every store reached with the same attributes, and that the data cache is not dropping,
are those in memory. -/
theorem State.loadByte_plain {s : State} {m : Mapped} {a : Nat}
    (h : ∀ e ∈ s.dirty, e.word = a / 4 → e.mixed = false ∧ e.attr = m.attr ∧ (e.cached && s.dropping) = false) :
    s.loadByte m a = s.mem.read a := by
  unfold State.loadByte
  split
  · rfl
  · rename_i e he
    have hw : e.word = a / 4 := by simpa using List.find?_some he
    obtain ⟨h1, h2, h3⟩ := h e (List.mem_of_find?_eq_some he) hw
    simp only [h1, h2, h3]
    simp

/-- A load from RAM gets the bytes of memory and leaves the state. -/
theorem State.loaded_plain {s : State} {m : Mapped} {n : Nat}
    (hram : ∀ i < n, s.params.kindAt (byteAt m.pa i) = .ram)
    (h : ∀ e ∈ s.dirty, ∀ i < n, e.word = byteAt m.pa i / 4 →
      e.mixed = false ∧ e.attr = m.attr ∧ (e.cached && s.dropping) = false) :
    s.loaded m n = s.mem.readBytes m.pa n ∧ s.afterLoad m n = s := by
  have hd := State.toDevice_ram hram
  refine ⟨?_, by simp [State.afterLoad, hd]⟩
  simp only [State.loaded, Memory.readBytes, hd, Bool.false_eq_true, if_false]
  refine List.map_congr_left fun i hi => State.loadByte_plain fun e he hw => h e he i (List.mem_range.1 hi) hw

/-- A store to RAM is in memory. -/
theorem State.afterStore_ram {s : State} {m : Mapped} {bs : List Byte}
    (hram : ∀ i < bs.length, s.params.kindAt (byteAt m.pa i) = .ram) : s.afterStore m bs = s.storePhys m bs := by
  simp [State.afterStore, State.toDevice_ram hram]

/-- One part of a plain access passes every check. -/
theorem State.checkPart_plain {s : State} {k : Access} (hk : k ≠ .fetch) {ea : Word} {n : Nat} {al : Bool}
    (hdr : s.msrDr = false) (hdabr : s.acting false .dabr &&& 3 = 0) (hram : ∀ i < n, s.params.kindAt (byteAt ea i) = .ram) :
    s.checkPart k ea n al = .ok (realMode k ea) s := by
  rw [State.checkPart, State.mapPart, State.dataCheck, State.dataMap_real hk hdr, Res.bind_ok]
  simp only [State.dabrMatches_off hdabr, Bool.false_eq_true, if_false, Res.bind_ok]
  rw [State.regionCheck_ram (by simpa [realMode] using hram)]
  simp [realMode]

theorem byteAt_add (ea : Word) (n i : Nat) : byteAt (ea + BitVec.ofNat 32 n) i = byteAt ea (n + i) := by
  simp [byteAt, Nat.add_assoc]

theorem Memory.readBytes_append (m : Memory) (ea : Word) (a b : Nat) :
    m.readBytes ea (a + b) = m.readBytes ea a ++ m.readBytes (ea + BitVec.ofNat 32 a) b := by
  simp only [Memory.readBytes, List.range_add, List.map_append, List.map_map, byteAt_add]
  rfl

/-- A read from RAM in real mode gives the bytes and leaves the state. -/
theorem State.memRead_plain {s : State} {ea : Word} {n : Nat}
    (hdr : s.msrDr = false) (hdabr : s.acting false .dabr &&& 3 = 0)
    (hram : ∀ i < n, s.params.kindAt (byteAt ea i) = .ram)
    (hold : ∀ e ∈ s.dirty, ∀ i < n, e.word = byteAt ea i / 4 →
      e.mixed = false ∧ e.attr = 0 ∧ (e.cached && s.dropping) = false) :
    s.memRead ea n = .ok (beValue (s.mem.readBytes ea n)) s := by
  unfold State.memRead accessParts
  dsimp only
  split
  · have hl := State.loaded_plain (s := s) (m := realMode .load ea) (n := n) hram
      (fun e he i hi hw => by rw [realMode_attr]; exact hold e he i hi hw)
    rw [State.readParts, State.checkPart_plain (by decide) hdr hdabr hram, Res.bind_ok, hl.1, hl.2]
    simp [State.readParts, realMode]
  · rename_i hgt
    generalize hroom : 4096 - ea.toNat % 4096 = room at hgt ⊢
    have h2 : ∀ i < n - room, s.params.kindAt (byteAt (ea + BitVec.ofNat 32 room) i) = .ram := by
      intro i hi
      rw [byteAt_add]
      exact hram _ (by omega)
    have l1 := State.loaded_plain (s := s) (m := realMode .load ea) (n := room) (fun i hi => hram i (by omega))
      (fun e he i hi hw => by rw [realMode_attr]; exact hold e he i (by omega) hw)
    have l2 := State.loaded_plain (s := s) (m := realMode .load (ea + BitVec.ofNat 32 room)) (n := n - room) h2
      (fun e he i hi hw => by rw [realMode_attr]; exact hold e he (room + i) (by omega) (by rwa [← byteAt_add]))
    rw [State.readParts, State.checkPart_plain (by decide) hdr hdabr (fun i hi => hram i (by omega)), Res.bind_ok,
      l1.1, l1.2, State.readParts, State.checkPart_plain (by decide) hdr hdabr h2, Res.bind_ok, l2.1, l2.2]
    simp only [Res.bind_ok, State.readParts, realMode, List.append_nil]
    rw [← Memory.readBytes_append]
    congr
    omega

/-- Storing bytes changes memory and the record of what may still be seen of the old ones. -/
theorem State.storePhys_frame (s : State) (m : Mapped) (bs : List Byte) :
    s.storePhys m bs = { s with
      mem := s.mem.writeBytes m.pa bs
      stale := (s.storePhys m bs).stale
      dirty := (s.storePhys m bs).dirty
      tables := (s.storePhys m bs).tables } := rfl

/-- Two stores change what one store changes. -/
theorem State.store_frame_trans {s t u : State}
    (h1 : t = { s with mem := t.mem, stale := t.stale, dirty := t.dirty, tables := t.tables })
    (h2 : u = { t with mem := u.mem, stale := u.stale, dirty := u.dirty, tables := u.tables }) :
    u = { s with mem := u.mem, stale := u.stale, dirty := u.dirty, tables := u.tables } :=
  h2.trans (by rw [h1])

/-- A load that passed its checks changes at most the record of device accesses. -/
theorem State.afterLoad_frame (s : State) (m : Mapped) (n : Nat) :
    s.afterLoad m n = { s with bus := (s.afterLoad m n).bus } := by
  unfold State.afterLoad
  split <;> rfl

/-- A store that passed its checks changes memory and the records. -/
theorem State.afterStore_frame (s : State) (m : Mapped) (bs : List Byte) :
    s.afterStore m bs = { s with
      mem := (s.afterStore m bs).mem
      stale := (s.afterStore m bs).stale
      dirty := (s.afterStore m bs).dirty
      tables := (s.afterStore m bs).tables
      bus := (s.afterStore m bs).bus } := by
  unfold State.afterStore
  split <;> rfl

theorem Memory.writeBytes_append (m : Memory) (pa : Word) (bs cs : List Byte) :
    m.writeBytes pa (bs ++ cs) = (m.writeBytes pa bs).writeBytes (pa + BitVec.ofNat 32 bs.length) cs := by
  induction bs generalizing m pa with
  | nil => simp [Memory.writeBytes]
  | cons b bs ih =>
    rw [List.cons_append, Memory.writeBytes, ih, Memory.writeBytes]
    congr 1
    apply BitVec.eq_of_toNat_eq
    simp [Nat.add_assoc, Nat.add_comm 1]

@[simp] theorem beBytes_length (n : Nat) (v : BitVec 64) : (beBytes n v).length = n := by simp [beBytes]

/-- A write to RAM in real mode stores the bytes and changes nothing else but the record of what the caches may hold. -/
theorem State.memWrite_plain {s : State} {ea : Word} {n : Nat} (v : BitVec 64)
    (hdr : s.msrDr = false) (hdabr : s.acting false .dabr &&& 3 = 0)
    (hram : ∀ i < n, s.params.kindAt (byteAt ea i) = .ram) :
    ∃ t, s.memWrite ea n v = .ok () t ∧ t.mem = s.mem.writeBytes ea (beBytes n v) ∧
      t = { s with mem := t.mem, stale := t.stale, dirty := t.dirty, tables := t.tables } := by
  unfold State.memWrite accessParts
  dsimp only
  split
  · rw [State.writeParts, State.checkPart_plain (by decide) hdr hdabr hram, Res.bind_ok, State.writeParts,
      State.afterStore_ram (by simpa [realMode] using hram)]
    refine ⟨_, rfl, ?_, rfl⟩
    simp [realMode, List.take_of_length_le]
  · rename_i hgt
    generalize hroom : 4096 - ea.toNat % 4096 = room at hgt ⊢
    have h2 : ∀ i < n - room, s.params.kindAt (byteAt (ea + BitVec.ofNat 32 room) i) = .ram := by
      intro i hi
      rw [byteAt_add]
      exact hram _ (by omega)
    have second : ∀ m bs, (s.storePhys m bs).checkPart .store (ea + BitVec.ofNat 32 room) (n - room)
        (alignedTo ea n) = .ok (realMode .store (ea + BitVec.ofNat 32 room)) (s.storePhys m bs) :=
      fun m bs => State.checkPart_plain (by decide) hdr hdabr h2
    have third : ∀ m bs, (s.storePhys m bs).afterStore (realMode .store (ea + BitVec.ofNat 32 room))
        (((beBytes n v).drop room).take (n - room)) =
          (s.storePhys m bs).storePhys (realMode .store (ea + BitVec.ofNat 32 room))
            (((beBytes n v).drop room).take (n - room)) := by
      intro m bs
      apply State.afterStore_ram
      intro i h
      rw [State.storePhys_params]
      exact h2 i (by simp at h; omega)
    rw [State.writeParts, State.checkPart_plain (by decide) hdr hdabr (fun i hi => hram i (by omega)), Res.bind_ok,
      State.afterStore_ram (fun i h => hram i (by simp at h; omega)), State.writeParts, second,
      Res.bind_ok, State.writeParts, third]
    refine ⟨_, rfl, ?_, State.store_frame_trans (State.storePhys_frame s _ _) (State.storePhys_frame _ _ _)⟩
    simp only [State.storePhys_mem, realMode]
    have whole := Memory.writeBytes_append s.mem ea ((beBytes n v).take room) ((beBytes n v).drop room)
    rw [List.take_append_drop, List.length_take, beBytes_length, Nat.min_eq_left (by omega)] at whole
    rw [List.take_of_length_le (l := (beBytes n v).drop room) (by simp), whole]

/-! ### Every data access -/

/-- What a translation for data can do: give an address and leave the state, or end the instruction in a DSI, in the
machine check of a table that lies nowhere, or in a refusal. -/
theorem State.dataMap_cases (s : State) (k : Access) (ea : Word) :
    (∃ m, s.dataMap k ea = .ok m s) ∨ (∃ c, s.dataMap k ea = .stop (raiseDsi ea c s)) ∨
      s.dataMap k ea = .stop (absentAddress s) ∨ ∃ r, s.dataMap k ea = .stop (.refused r) := by
  unfold State.dataMap
  split
  · exact .inl ⟨_, rfl⟩
  · exact .inr (.inl ⟨_, rfl⟩)
  · exact .inr (.inl ⟨_, rfl⟩)
  · exact .inr (.inl ⟨_, rfl⟩)
  · exact .inr (.inr (.inl rfl))
  · exact .inr (.inr (.inr ⟨_, rfl⟩))

/-- What translation, protection and the data address breakpoint can do: the same. -/
theorem State.dataCheck_cases (s : State) (k : Access) (ea : Word) :
    (∃ m, s.dataCheck k ea = .ok m s) ∨ (∃ c, s.dataCheck k ea = .stop (raiseDsi ea c s)) ∨
      s.dataCheck k ea = .stop (absentAddress s) ∨ ∃ r, s.dataCheck k ea = .stop (.refused r) := by
  unfold State.dataCheck
  rcases State.dataMap_cases s k ea with ⟨m, h⟩ | ⟨c, h⟩ | h | ⟨r, h⟩
  · rw [h, Res.bind_ok]
    split
    · exact .inr (.inl ⟨_, rfl⟩)
    · exact .inl ⟨_, rfl⟩
  · rw [h]; exact .inr (.inl ⟨_, rfl⟩)
  · rw [h]; exact .inr (.inr (.inl rfl))
  · rw [h]; exact .inr (.inr (.inr ⟨_, rfl⟩))

/-- What the check of the memory map can do. -/
theorem State.regionCheck_cases (s : State) (k : Access) (m : Mapped) (n : Nat) (al : Bool) :
    s.regionCheck k m n al = .ok () s ∨ s.regionCheck k m n al = .stop (absentAddress s) ∨
      ∃ r, s.regionCheck k m n al = .stop (.refused r) := by
  unfold State.regionCheck
  dsimp only
  split
  · exact .inr (.inl rfl)
  · split
    · exact .inr (.inr ⟨_, rfl⟩)
    · split
      · exact .inr (.inr ⟨_, rfl⟩)
      · split
        · exact .inr (.inr ⟨_, rfl⟩)
        · exact .inl rfl

/-- What the checks of one part of an access can do: succeed and leave the state, or end the instruction. -/
theorem State.mapPart_cases (s : State) (k : Access) (ea : Word) (n : Nat) (al : Bool) :
    (∃ m, s.mapPart k ea n al = .ok m s) ∨ (∃ c, s.mapPart k ea n al = .stop (raiseDsi ea c s)) ∨
      s.mapPart k ea n al = .stop (absentAddress s) ∨ ∃ r, s.mapPart k ea n al = .stop (.refused r) := by
  unfold State.mapPart
  rcases State.dataCheck_cases s k ea with ⟨m, h⟩ | ⟨c, h⟩ | h | ⟨r, h⟩
  · rw [h, Res.bind_ok]
    rcases State.regionCheck_cases s k m n al with h' | h' | ⟨r, h'⟩
    · rw [h']; exact .inl ⟨_, rfl⟩
    · rw [h']; exact .inr (.inr (.inl rfl))
    · rw [h']; exact .inr (.inr (.inr ⟨_, rfl⟩))
  · rw [h]; exact .inr (.inl ⟨_, rfl⟩)
  · rw [h]; exact .inr (.inr (.inl rfl))
  · rw [h]; exact .inr (.inr (.inr ⟨_, rfl⟩))

/-- What the checks of one part of an access can do: succeed, with the page's reference and change bits set, or end the
instruction. -/
theorem State.checkPart_cases (s : State) (k : Access) (ea : Word) (n : Nat) (al : Bool) :
    (∃ m, s.checkPart k ea n al = .ok m (s.touch k m.pte)) ∨ (∃ c, s.checkPart k ea n al = .stop (raiseDsi ea c s)) ∨
      s.checkPart k ea n al = .stop (absentAddress s) ∨ ∃ r, s.checkPart k ea n al = .stop (.refused r) := by
  unfold State.checkPart
  rcases State.mapPart_cases s k ea n al with ⟨m, h⟩ | ⟨c, h⟩ | h | ⟨r, h⟩
  · rw [h]; exact .inl ⟨_, rfl⟩
  · rw [h]; exact .inr (.inl ⟨_, rfl⟩)
  · rw [h]; exact .inr (.inr (.inl rfl))
  · rw [h]; exact .inr (.inr (.inr ⟨_, rfl⟩))

/-- Setting the reference and change bits changes memory only. -/
theorem State.touch_frame (s : State) (k : Access) (p : Option Word) :
    s.touch k p = { s with mem := (s.touch k p).mem } := by
  cases p <;> rfl

/-- A read that succeeds changes nothing but reference and change bits in memory and the record of device accesses, and
keeps the canonical form. -/
theorem State.readParts_ok {s t : State} {al : Bool} {ps : List (Word × Nat)} {bs : List Byte}
    (h : s.readParts al ps = .ok bs t) : t = { s with mem := t.mem, bus := t.bus } ∧ (s.mem.wf = true → t.mem.wf = true) := by
  induction ps generalizing s bs with
  | nil => cases h; exact ⟨rfl, id⟩
  | cons p ps ih =>
    obtain ⟨ea, n⟩ := p
    rw [State.readParts] at h
    obtain ⟨m, s1, h1, h2⟩ := Res.bind_eq_ok h
    obtain ⟨cs, s2, h3, h4⟩ := Res.bind_eq_ok h2
    cases h4
    rcases State.checkPart_cases s .load ea n al with ⟨m', e⟩ | ⟨c, e⟩ | e | ⟨r, e⟩ <;> rw [e] at h1 <;> cases h1
    obtain ⟨f1, f2⟩ := ih h3
    refine ⟨?_, fun hw => f2 (by rw [State.afterLoad_frame]; exact State.wf_touch hw _ _)⟩
    rw [f1, State.afterLoad_frame, State.touch_frame]

theorem State.memRead_ok {s t : State} {ea : Word} {n : Nat} {v : BitVec 64} (h : s.memRead ea n = .ok v t) :
    t = { s with mem := t.mem, bus := t.bus } ∧ (s.mem.wf = true → t.mem.wf = true) := by
  obtain ⟨bs, s1, h1, h2⟩ := Res.bind_eq_ok h
  cases h2
  exact State.readParts_ok h1

/-- A write that succeeds changes nothing but memory and the records of what may still be seen of it, and keeps the
canonical form. -/
theorem State.writeParts_ok {s t : State} {al : Bool} {ps : List (Word × Nat)} {bs : List Byte}
    (h : s.writeParts al ps bs = .ok () t) :
    t = { s with mem := t.mem, stale := t.stale, dirty := t.dirty, tables := t.tables, bus := t.bus } ∧ (s.mem.wf = true → t.mem.wf = true) := by
  induction ps generalizing s bs with
  | nil => cases h; exact ⟨rfl, id⟩
  | cons p ps ih =>
    obtain ⟨ea, n⟩ := p
    rw [State.writeParts] at h
    obtain ⟨m, s1, h1, h2⟩ := Res.bind_eq_ok h
    rcases State.checkPart_cases s .store ea n al with ⟨m', e⟩ | ⟨c, e⟩ | e | ⟨r, e⟩ <;> rw [e] at h1 <;> cases h1
    obtain ⟨f1, f2⟩ := ih h2
    refine ⟨?_, fun hw => f2 (State.wf_afterStore (State.wf_touch hw _ _) _ _)⟩
    rw [f1, State.afterStore_frame, State.touch_frame]

theorem State.memWrite_ok {s t : State} {ea : Word} {n : Nat} {v : BitVec 64} (h : s.memWrite ea n v = .ok () t) :
    t = { s with mem := t.mem, stale := t.stale, dirty := t.dirty, tables := t.tables, bus := t.bus } ∧ (s.mem.wf = true → t.mem.wf = true) :=
  State.writeParts_ok h

/-- What the checks of two accesses can do: succeed, with the reference and change bits of both pages set, or end the
instruction with the state as it was. -/
theorem State.mapPair_cases (s : State) (k : Access) (ea0 ea1 : Word) (n : Nat) (al : Bool) :
    (∃ m, s.mapPair k ea0 ea1 n al = .ok m ((s.touch k m.1.pte).touch k m.2.pte)) ∨
      (∃ ea c, s.mapPair k ea0 ea1 n al = .stop (raiseDsi ea c s)) ∨
      s.mapPair k ea0 ea1 n al = .stop (absentAddress s) ∨ ∃ r, s.mapPair k ea0 ea1 n al = .stop (.refused r) := by
  unfold State.mapPair
  rcases State.mapPart_cases s k ea0 n al with ⟨m0, h⟩ | ⟨c, h⟩ | h | ⟨r, h⟩
  · rw [h, Res.bind_ok]
    rcases State.mapPart_cases s k ea1 n al with ⟨m1, h'⟩ | ⟨c, h'⟩ | h' | ⟨r, h'⟩ <;> rw [h']
    · exact .inl ⟨(m0, m1), rfl⟩
    · exact .inr (.inl ⟨_, _, rfl⟩)
    · exact .inr (.inr (.inl rfl))
    · exact .inr (.inr (.inr ⟨_, rfl⟩))
  · rw [h]; exact .inr (.inl ⟨_, _, rfl⟩)
  · rw [h]; exact .inr (.inr (.inl rfl))
  · rw [h]; exact .inr (.inr (.inr ⟨_, rfl⟩))

/-- Two loads that succeed change nothing but reference bits in memory and the record of device accesses. -/
theorem State.loadPair_ok {s t : State} {ea0 ea1 : Word} {n : Nat} {al : Bool} {v : BitVec 64 × BitVec 64}
    (h : s.loadPair ea0 ea1 n al = .ok v t) :
    t = { s with mem := t.mem, bus := t.bus } ∧ (s.mem.wf = true → t.mem.wf = true) := by
  unfold State.loadPair at h
  rcases State.mapPair_cases s .load ea0 ea1 n al with ⟨m, e⟩ | ⟨a, c, e⟩ | e | ⟨r, e⟩ <;> rw [e] at h <;> cases h
  refine ⟨?_, fun hw => ?_⟩
  · rw [State.afterLoad_frame, State.afterLoad_frame, State.touch_frame, State.touch_frame]
  · rw [State.afterLoad_frame, State.afterLoad_frame]
    exact State.wf_touch (State.wf_touch hw _ _) _ _

/-- Two stores that succeed change nothing but memory, the records of what may still be seen of it, and the record of
device accesses. -/
theorem State.storePair_ok {s t : State} {ea0 ea1 : Word} {n : Nat} {al : Bool} {v0 v1 : BitVec 64}
    (h : s.storePair ea0 ea1 n al v0 v1 = .ok () t) :
    t = { s with mem := t.mem, stale := t.stale, dirty := t.dirty, tables := t.tables, bus := t.bus } ∧
      (s.mem.wf = true → t.mem.wf = true) := by
  unfold State.storePair at h
  rcases State.mapPair_cases s .store ea0 ea1 n al with ⟨m, e⟩ | ⟨a, c, e⟩ | e | ⟨r, e⟩ <;> rw [e] at h <;> cases h
  refine ⟨?_, fun hw => State.wf_afterStore (State.wf_afterStore (State.wf_touch (State.wf_touch hw _ _) _ _) _ _) _ _⟩
  rw [State.afterStore_frame, State.afterStore_frame, State.touch_frame, State.touch_frame]

/-- Two stores that do not succeed end in a DSI, a machine check or a refusal, with the state as it was. -/
theorem State.storePair_stop {s : State} {ea0 ea1 : Word} {n : Nat} {al : Bool} {v0 v1 : BitVec 64} {o : Out}
    (h : s.storePair ea0 ea1 n al v0 v1 = .stop o) :
    (∃ ea c, o = raiseDsi ea c s) ∨ o = absentAddress s ∨ ∃ r, o = .refused r := by
  unfold State.storePair at h
  rcases State.mapPair_cases s .store ea0 ea1 n al with ⟨m, e⟩ | ⟨a, c, e⟩ | e | ⟨r, e⟩ <;> rw [e] at h <;> cases h
  · exact .inl ⟨_, _, rfl⟩
  · exact .inr (.inl rfl)
  · exact .inr (.inr ⟨_, rfl⟩)

/-- How an access that does not succeed ends: in a DSI, a machine check or a refusal, from a state that differs from the
one it began in by the parts before. -/
theorem State.readParts_stop {s : State} {al : Bool} {ps : List (Word × Nat)} {o : Out}
    (h : s.readParts al ps = .stop o) :
    ∃ u, u = { s with mem := u.mem, bus := u.bus } ∧ (s.mem.wf = true → u.mem.wf = true) ∧
      ((∃ ea c, o = raiseDsi ea c u) ∨ o = absentAddress u ∨ ∃ r, o = .refused r) := by
  induction ps generalizing s with
  | nil => cases h
  | cons p ps ih =>
    obtain ⟨ea, n⟩ := p
    rw [State.readParts] at h
    rcases State.checkPart_cases s .load ea n al with ⟨m, e⟩ | ⟨c, e⟩ | e | ⟨r, e⟩ <;> rw [e] at h
    · rw [Res.bind_ok] at h
      cases hr : ((s.touch .load m.pte).afterLoad m n).readParts al ps with
      | ok bs u => rw [hr] at h; cases h
      | stop o' =>
        rw [hr] at h
        cases h
        obtain ⟨u, f1, f2, f3⟩ := ih hr
        exact ⟨u, by rw [f1, State.afterLoad_frame, State.touch_frame],
          fun hw => f2 (by rw [State.afterLoad_frame]; exact State.wf_touch hw _ _), f3⟩
    · cases h; exact ⟨s, rfl, id, .inl ⟨_, _, rfl⟩⟩
    · cases h; exact ⟨s, rfl, id, .inr (.inl rfl)⟩
    · cases h; exact ⟨s, rfl, id, .inr (.inr ⟨_, rfl⟩)⟩

theorem State.memRead_stop {s : State} {ea : Word} {n : Nat} {o : Out} (h : s.memRead ea n = .stop o) :
    ∃ u, u = { s with mem := u.mem, bus := u.bus } ∧ (s.mem.wf = true → u.mem.wf = true) ∧
      ((∃ ea c, o = raiseDsi ea c u) ∨ o = absentAddress u ∨ ∃ r, o = .refused r) := by
  unfold State.memRead at h
  cases hr : s.readParts (alignedTo ea n) (accessParts ea n) with
  | ok bs u => rw [hr] at h; cases h
  | stop o' => rw [hr] at h; cases h; exact State.readParts_stop hr

theorem State.writeParts_stop {s : State} {al : Bool} {ps : List (Word × Nat)} {bs : List Byte} {o : Out}
    (h : s.writeParts al ps bs = .stop o) :
    ∃ u, u = { s with mem := u.mem, stale := u.stale, dirty := u.dirty, tables := u.tables, bus := u.bus } ∧ (s.mem.wf = true → u.mem.wf = true) ∧
      ((∃ ea c, o = raiseDsi ea c u) ∨ o = absentAddress u ∨ ∃ r, o = .refused r) := by
  induction ps generalizing s bs with
  | nil => cases h
  | cons p ps ih =>
    obtain ⟨ea, n⟩ := p
    rw [State.writeParts] at h
    rcases State.checkPart_cases s .store ea n al with ⟨m, e⟩ | ⟨c, e⟩ | e | ⟨r, e⟩ <;> rw [e] at h
    · obtain ⟨u, f1, f2, f3⟩ := ih h
      refine ⟨u, ?_, fun hw => f2 (State.wf_afterStore (State.wf_touch hw _ _) _ _), f3⟩
      rw [f1, State.afterStore_frame, State.touch_frame]
    · cases h; exact ⟨s, rfl, id, .inl ⟨_, _, rfl⟩⟩
    · cases h; exact ⟨s, rfl, id, .inr (.inl rfl)⟩
    · cases h; exact ⟨s, rfl, id, .inr (.inr ⟨_, rfl⟩)⟩

theorem State.memWrite_stop {s : State} {ea : Word} {n : Nat} {v : BitVec 64} {o : Out}
    (h : s.memWrite ea n v = .stop o) :
    ∃ u, u = { s with mem := u.mem, stale := u.stale, dirty := u.dirty, tables := u.tables, bus := u.bus } ∧ (s.mem.wf = true → u.mem.wf = true) ∧
      ((∃ ea c, o = raiseDsi ea c u) ∨ o = absentAddress u ∨ ∃ r, o = .refused r) := State.writeParts_stop h

/-- What a fetch can do: give a word, or end the step in an ISI, a machine check or a refusal. -/
theorem State.fetch_cases (s : State) :
    (∃ w t, s.fetch = .ok w t ∧ t = { s with mem := t.mem, draws := t.draws }) ∨
      (∃ c, s.fetch = .stop (raiseIsi c s)) ∨ s.fetch = .stop (absentAddress s) ∨
      ∃ r, s.fetch = .stop (.refused r) := by
  unfold State.fetch
  split
  · split
    · exact .inr (.inr (.inl rfl))
    · split
      · exact .inr (.inr (.inr ⟨_, rfl⟩))
      · refine .inl ?_
        unfold State.fetchPhys
        dsimp only
        split
        · exact ⟨_, _, rfl, by rw [State.touch_frame]⟩
        · exact ⟨_, _, rfl, by rw [State.touch_frame]; rfl⟩
  · exact .inr (.inl ⟨_, rfl⟩)
  · exact .inr (.inl ⟨_, rfl⟩)
  · exact .inr (.inl ⟨_, rfl⟩)
  · exact .inr (.inr (.inl rfl))
  · exact .inr (.inr (.inr ⟨_, rfl⟩))

end Sys2Proof.Machine
end

