-- ==== Sys2Proof/Laws/PerInstr.lean ====
section
/-! SUPPORT. One statement for each instruction: its word has the primary opcode the spec's table gives it (R170 to R175). -/

namespace Sys2Proof.Laws

/-- The primary opcode of an instruction. -/
def PrimaryOpcode.of : Instr → Nat
  | .twi .. => 3
  | .psq_lx .. | .psq_lux .. | .psq_stx .. | .psq_stux .. | .ps_add .. | .ps_sub .. | .ps_mul .. | .ps_div ..
  | .ps_abs .. | .ps_neg .. | .ps_nabs .. | .ps_madd .. | .ps_madds0 .. | .ps_madds1 .. | .ps_msub ..
  | .ps_nmadd .. | .ps_nmsub .. | .ps_mr .. | .ps_res .. | .ps_rsqrte .. | .ps_sel .. | .ps_sum0 .. | .ps_sum1 ..
  | .ps_muls0 .. | .ps_muls1 .. | .ps_merge00 .. | .ps_merge01 .. | .ps_merge10 .. | .ps_merge11 .. | .ps_cmpu0 ..
  | .ps_cmpo0 .. | .ps_cmpu1 .. | .ps_cmpo1 .. | .dcbz_l .. => 4
  | .mulli .. => 7
  | .subfic .. => 8
  | .cmpli .. => 10
  | .cmpi .. => 11
  | .addic .. => 12
  | .addic_rc .. => 13
  | .addi .. => 14
  | .addis .. => 15
  | .bc .. => 16
  | .sc => 17
  | .b .. => 18
  | .bclr .. | .bcctr .. | .crand .. | .crandc .. | .creqv .. | .crnand .. | .crnor .. | .cror .. | .crorc ..
  | .crxor .. | .mcrf .. | .isync | .rfi => 19
  | .rlwimi .. => 20
  | .rlwinm .. => 21
  | .rlwnm .. => 23
  | .ori .. => 24
  | .oris .. => 25
  | .xori .. => 26
  | .xoris .. => 27
  | .andi_rc .. => 28
  | .andis_rc .. => 29
  | .add .. | .addc .. | .adde .. | .addme .. | .addze .. | .subf .. | .subfc .. | .subfe .. | .subfme ..
  | .subfze .. | .neg .. | .mulhw .. | .mulhwu .. | .mullw .. | .divw .. | .divwu .. | .and .. | .andc .. | .or ..
  | .orc .. | .xor .. | .nand .. | .nor .. | .eqv .. | .slw .. | .srw .. | .sraw .. | .srawi .. | .cmp ..
  | .cmpl .. | .lbzx .. | .lbzux .. | .stbx .. | .stbux .. | .lhzx .. | .lhzux .. | .lhax .. | .lhaux .. | .sthx ..
  | .sthux .. | .lhbrx .. | .sthbrx .. | .lwzx .. | .lwzux .. | .stwx .. | .stwux .. | .lwbrx .. | .stwbrx ..
  | .lswi .. | .lswx .. | .stswi .. | .stswx .. | .lfdx .. | .lfdux .. | .lfsx .. | .lfsux .. | .stfdx ..
  | .stfdux .. | .stfsx .. | .stfsux .. | .stfiwx .. | .dcbf .. | .dcbi .. | .dcbst .. | .dcbt .. | .dcbtst ..
  | .dcbz .. | .icbi .. | .mtspr .. | .mfspr .. | .mtcrf .. | .mftb .. | .mfcr .. | .mtmsr .. | .mfmsr .. | .sync
  | .eieio | .tlbie .. | .tlbia | .tlbsync | .mtsr .. | .mfsr .. | .mtsrin .. | .mfsrin .. | .tw .. | .extsb ..
  | .extsh .. | .lwarx .. | .stwcx_rc .. | .cntlzw .. | .eciwx .. | .ecowx .. | .mcrxr .. => 31
  | .lwz .. => 32
  | .lwzu .. => 33
  | .lbz .. => 34
  | .lbzu .. => 35
  | .stw .. => 36
  | .stwu .. => 37
  | .stb .. => 38
  | .stbu .. => 39
  | .lhz .. => 40
  | .lhzu .. => 41
  | .lha .. => 42
  | .lhau .. => 43
  | .sth .. => 44
  | .sthu .. => 45
  | .lmw .. => 46
  | .stmw .. => 47
  | .lfs .. => 48
  | .lfsu .. => 49
  | .lfd .. => 50
  | .lfdu .. => 51
  | .stfs .. => 52
  | .stfsu .. => 53
  | .stfd .. => 54
  | .stfdu .. => 55
  | .psq_l .. => 56
  | .psq_lu .. => 57
  | .fadds .. | .fsubs .. | .fmuls .. | .fdivs .. | .fmadds .. | .fmsubs .. | .fnmadds .. | .fnmsubs .. | .fres ..
  | .fsqrts .. => 59
  | .psq_st .. => 60
  | .psq_stu .. => 61
  | .fadd .. | .fsub .. | .fmul .. | .fdiv .. | .fmadd .. | .fmsub .. | .fnmadd .. | .fnmsub .. | .fabs ..
  | .fnabs .. | .fneg .. | .frsqrte .. | .fsel .. | .fsqrt .. | .frsp .. | .fctiw .. | .fctiwz .. | .fcmpo ..
  | .fcmpu .. | .fmr .. | .mcrfs .. | .mffs .. | .mtfsb0 .. | .mtfsb1 .. | .mtfsf .. | .mtfsfi .. => 63

/-- The word of the instruction has its primary opcode. -/
def PrimaryOpcode.Statement (i : Instr) : Prop := opcd (encode i) = PrimaryOpcode.of i

theorem PrimaryOpcode.add (rD : Reg) (rA : Reg) (rB : Reg) (oe : Bool) (rc : Bool) :
    PrimaryOpcode.Statement (.add rD rA rB oe rc) := opcd_xoForm ..
theorem PrimaryOpcode.addc (rD : Reg) (rA : Reg) (rB : Reg) (oe : Bool) (rc : Bool) :
    PrimaryOpcode.Statement (.addc rD rA rB oe rc) := opcd_xoForm ..
theorem PrimaryOpcode.adde (rD : Reg) (rA : Reg) (rB : Reg) (oe : Bool) (rc : Bool) :
    PrimaryOpcode.Statement (.adde rD rA rB oe rc) := opcd_xoForm ..
theorem PrimaryOpcode.addi (rD : Reg) (rA : Reg) (simm : BitVec 16) :
    PrimaryOpcode.Statement (.addi rD rA simm) := opcd_dForm ..
theorem PrimaryOpcode.addic (rD : Reg) (rA : Reg) (simm : BitVec 16) :
    PrimaryOpcode.Statement (.addic rD rA simm) := opcd_dForm ..
theorem PrimaryOpcode.addic_rc (rD : Reg) (rA : Reg) (simm : BitVec 16) :
    PrimaryOpcode.Statement (.addic_rc rD rA simm) := opcd_dForm ..
theorem PrimaryOpcode.addis (rD : Reg) (rA : Reg) (simm : BitVec 16) :
    PrimaryOpcode.Statement (.addis rD rA simm) := opcd_dForm ..
theorem PrimaryOpcode.addme (rD : Reg) (rA : Reg) (oe : Bool) (rc : Bool) :
    PrimaryOpcode.Statement (.addme rD rA oe rc) := opcd_xoForm ..
theorem PrimaryOpcode.addze (rD : Reg) (rA : Reg) (oe : Bool) (rc : Bool) :
    PrimaryOpcode.Statement (.addze rD rA oe rc) := opcd_xoForm ..
theorem PrimaryOpcode.subf (rD : Reg) (rA : Reg) (rB : Reg) (oe : Bool) (rc : Bool) :
    PrimaryOpcode.Statement (.subf rD rA rB oe rc) := opcd_xoForm ..
theorem PrimaryOpcode.subfc (rD : Reg) (rA : Reg) (rB : Reg) (oe : Bool) (rc : Bool) :
    PrimaryOpcode.Statement (.subfc rD rA rB oe rc) := opcd_xoForm ..
theorem PrimaryOpcode.subfe (rD : Reg) (rA : Reg) (rB : Reg) (oe : Bool) (rc : Bool) :
    PrimaryOpcode.Statement (.subfe rD rA rB oe rc) := opcd_xoForm ..
theorem PrimaryOpcode.subfic (rD : Reg) (rA : Reg) (simm : BitVec 16) :
    PrimaryOpcode.Statement (.subfic rD rA simm) := opcd_dForm ..
theorem PrimaryOpcode.subfme (rD : Reg) (rA : Reg) (oe : Bool) (rc : Bool) :
    PrimaryOpcode.Statement (.subfme rD rA oe rc) := opcd_xoForm ..
theorem PrimaryOpcode.subfze (rD : Reg) (rA : Reg) (oe : Bool) (rc : Bool) :
    PrimaryOpcode.Statement (.subfze rD rA oe rc) := opcd_xoForm ..
theorem PrimaryOpcode.neg (rD : Reg) (rA : Reg) (oe : Bool) (rc : Bool) :
    PrimaryOpcode.Statement (.neg rD rA oe rc) := opcd_xoForm ..
theorem PrimaryOpcode.mulhw (rD : Reg) (rA : Reg) (rB : Reg) (rc : Bool) :
    PrimaryOpcode.Statement (.mulhw rD rA rB rc) := opcd_xoForm ..
theorem PrimaryOpcode.mulhwu (rD : Reg) (rA : Reg) (rB : Reg) (rc : Bool) :
    PrimaryOpcode.Statement (.mulhwu rD rA rB rc) := opcd_xoForm ..
theorem PrimaryOpcode.mullw (rD : Reg) (rA : Reg) (rB : Reg) (oe : Bool) (rc : Bool) :
    PrimaryOpcode.Statement (.mullw rD rA rB oe rc) := opcd_xoForm ..
theorem PrimaryOpcode.mulli (rD : Reg) (rA : Reg) (simm : BitVec 16) :
    PrimaryOpcode.Statement (.mulli rD rA simm) := opcd_dForm ..
theorem PrimaryOpcode.divw (rD : Reg) (rA : Reg) (rB : Reg) (oe : Bool) (rc : Bool) :
    PrimaryOpcode.Statement (.divw rD rA rB oe rc) := opcd_xoForm ..
theorem PrimaryOpcode.divwu (rD : Reg) (rA : Reg) (rB : Reg) (oe : Bool) (rc : Bool) :
    PrimaryOpcode.Statement (.divwu rD rA rB oe rc) := opcd_xoForm ..
theorem PrimaryOpcode.and (rS : Reg) (rA : Reg) (rB : Reg) (rc : Bool) :
    PrimaryOpcode.Statement (.and rS rA rB rc) := opcd_xForm ..
theorem PrimaryOpcode.andc (rS : Reg) (rA : Reg) (rB : Reg) (rc : Bool) :
    PrimaryOpcode.Statement (.andc rS rA rB rc) := opcd_xForm ..
theorem PrimaryOpcode.andi_rc (rS : Reg) (rA : Reg) (uimm : BitVec 16) :
    PrimaryOpcode.Statement (.andi_rc rS rA uimm) := opcd_dForm ..
theorem PrimaryOpcode.andis_rc (rS : Reg) (rA : Reg) (uimm : BitVec 16) :
    PrimaryOpcode.Statement (.andis_rc rS rA uimm) := opcd_dForm ..
theorem PrimaryOpcode.or (rS : Reg) (rA : Reg) (rB : Reg) (rc : Bool) :
    PrimaryOpcode.Statement (.or rS rA rB rc) := opcd_xForm ..
theorem PrimaryOpcode.orc (rS : Reg) (rA : Reg) (rB : Reg) (rc : Bool) :
    PrimaryOpcode.Statement (.orc rS rA rB rc) := opcd_xForm ..
theorem PrimaryOpcode.ori (rS : Reg) (rA : Reg) (uimm : BitVec 16) :
    PrimaryOpcode.Statement (.ori rS rA uimm) := opcd_dForm ..
theorem PrimaryOpcode.oris (rS : Reg) (rA : Reg) (uimm : BitVec 16) :
    PrimaryOpcode.Statement (.oris rS rA uimm) := opcd_dForm ..
theorem PrimaryOpcode.xor (rS : Reg) (rA : Reg) (rB : Reg) (rc : Bool) :
    PrimaryOpcode.Statement (.xor rS rA rB rc) := opcd_xForm ..
theorem PrimaryOpcode.xori (rS : Reg) (rA : Reg) (uimm : BitVec 16) :
    PrimaryOpcode.Statement (.xori rS rA uimm) := opcd_dForm ..
theorem PrimaryOpcode.xoris (rS : Reg) (rA : Reg) (uimm : BitVec 16) :
    PrimaryOpcode.Statement (.xoris rS rA uimm) := opcd_dForm ..
theorem PrimaryOpcode.nand (rS : Reg) (rA : Reg) (rB : Reg) (rc : Bool) :
    PrimaryOpcode.Statement (.nand rS rA rB rc) := opcd_xForm ..
theorem PrimaryOpcode.nor (rS : Reg) (rA : Reg) (rB : Reg) (rc : Bool) :
    PrimaryOpcode.Statement (.nor rS rA rB rc) := opcd_xForm ..
theorem PrimaryOpcode.eqv (rS : Reg) (rA : Reg) (rB : Reg) (rc : Bool) :
    PrimaryOpcode.Statement (.eqv rS rA rB rc) := opcd_xForm ..
theorem PrimaryOpcode.slw (rS : Reg) (rA : Reg) (rB : Reg) (rc : Bool) :
    PrimaryOpcode.Statement (.slw rS rA rB rc) := opcd_xForm ..
theorem PrimaryOpcode.srw (rS : Reg) (rA : Reg) (rB : Reg) (rc : Bool) :
    PrimaryOpcode.Statement (.srw rS rA rB rc) := opcd_xForm ..
theorem PrimaryOpcode.sraw (rS : Reg) (rA : Reg) (rB : Reg) (rc : Bool) :
    PrimaryOpcode.Statement (.sraw rS rA rB rc) := opcd_xForm ..
theorem PrimaryOpcode.srawi (rS : Reg) (rA : Reg) (sh : BitVec 5) (rc : Bool) :
    PrimaryOpcode.Statement (.srawi rS rA sh rc) := opcd_xForm ..
theorem PrimaryOpcode.rlwimi (rS : Reg) (rA : Reg) (sh : BitVec 5) (mb : BitVec 5) (me : BitVec 5) (rc : Bool) :
    PrimaryOpcode.Statement (.rlwimi rS rA sh mb me rc) := opcd_mForm ..
theorem PrimaryOpcode.rlwinm (rS : Reg) (rA : Reg) (sh : BitVec 5) (mb : BitVec 5) (me : BitVec 5) (rc : Bool) :
    PrimaryOpcode.Statement (.rlwinm rS rA sh mb me rc) := opcd_mForm ..
theorem PrimaryOpcode.rlwnm (rS : Reg) (rA : Reg) (rB : Reg) (mb : BitVec 5) (me : BitVec 5) (rc : Bool) :
    PrimaryOpcode.Statement (.rlwnm rS rA rB mb me rc) := opcd_mForm ..
theorem PrimaryOpcode.cmp (crfD : CrField) (l : Bool) (rA : Reg) (rB : Reg) :
    PrimaryOpcode.Statement (.cmp crfD l rA rB) := opcd_xForm ..
theorem PrimaryOpcode.cmpi (crfD : CrField) (l : Bool) (rA : Reg) (simm : BitVec 16) :
    PrimaryOpcode.Statement (.cmpi crfD l rA simm) := opcd_dForm ..
theorem PrimaryOpcode.cmpl (crfD : CrField) (l : Bool) (rA : Reg) (rB : Reg) :
    PrimaryOpcode.Statement (.cmpl crfD l rA rB) := opcd_xForm ..
theorem PrimaryOpcode.cmpli (crfD : CrField) (l : Bool) (rA : Reg) (uimm : BitVec 16) :
    PrimaryOpcode.Statement (.cmpli crfD l rA uimm) := opcd_dForm ..
theorem PrimaryOpcode.b (li : BitVec 24) (aa : Bool) (lk : Bool) :
    PrimaryOpcode.Statement (.b li aa lk) := opcd_iForm ..
theorem PrimaryOpcode.bc (bo : BitVec 5) (bi : CrBit) (bd : BitVec 14) (aa : Bool) (lk : Bool) :
    PrimaryOpcode.Statement (.bc bo bi bd aa lk) := opcd_bForm ..
theorem PrimaryOpcode.bclr (bo : BitVec 5) (bi : CrBit) (lk : Bool) :
    PrimaryOpcode.Statement (.bclr bo bi lk) := opcd_xForm ..
theorem PrimaryOpcode.bcctr (bo : BitVec 5) (bi : CrBit) (lk : Bool) :
    PrimaryOpcode.Statement (.bcctr bo bi lk) := opcd_xForm ..
theorem PrimaryOpcode.lbz (rD : Reg) (rA : Reg) (d : BitVec 16) :
    PrimaryOpcode.Statement (.lbz rD rA d) := opcd_dForm ..
theorem PrimaryOpcode.lbzu (rD : Reg) (rA : Reg) (d : BitVec 16) :
    PrimaryOpcode.Statement (.lbzu rD rA d) := opcd_dForm ..
theorem PrimaryOpcode.lbzx (rD : Reg) (rA : Reg) (rB : Reg) :
    PrimaryOpcode.Statement (.lbzx rD rA rB) := opcd_xForm ..
theorem PrimaryOpcode.lbzux (rD : Reg) (rA : Reg) (rB : Reg) :
    PrimaryOpcode.Statement (.lbzux rD rA rB) := opcd_xForm ..
theorem PrimaryOpcode.stb (rS : Reg) (rA : Reg) (d : BitVec 16) :
    PrimaryOpcode.Statement (.stb rS rA d) := opcd_dForm ..
theorem PrimaryOpcode.stbu (rS : Reg) (rA : Reg) (d : BitVec 16) :
    PrimaryOpcode.Statement (.stbu rS rA d) := opcd_dForm ..
theorem PrimaryOpcode.stbx (rS : Reg) (rA : Reg) (rB : Reg) :
    PrimaryOpcode.Statement (.stbx rS rA rB) := opcd_xForm ..
theorem PrimaryOpcode.stbux (rS : Reg) (rA : Reg) (rB : Reg) :
    PrimaryOpcode.Statement (.stbux rS rA rB) := opcd_xForm ..
theorem PrimaryOpcode.lhz (rD : Reg) (rA : Reg) (d : BitVec 16) :
    PrimaryOpcode.Statement (.lhz rD rA d) := opcd_dForm ..
theorem PrimaryOpcode.lhzu (rD : Reg) (rA : Reg) (d : BitVec 16) :
    PrimaryOpcode.Statement (.lhzu rD rA d) := opcd_dForm ..
theorem PrimaryOpcode.lhzx (rD : Reg) (rA : Reg) (rB : Reg) :
    PrimaryOpcode.Statement (.lhzx rD rA rB) := opcd_xForm ..
theorem PrimaryOpcode.lhzux (rD : Reg) (rA : Reg) (rB : Reg) :
    PrimaryOpcode.Statement (.lhzux rD rA rB) := opcd_xForm ..
theorem PrimaryOpcode.lha (rD : Reg) (rA : Reg) (d : BitVec 16) :
    PrimaryOpcode.Statement (.lha rD rA d) := opcd_dForm ..
theorem PrimaryOpcode.lhau (rD : Reg) (rA : Reg) (d : BitVec 16) :
    PrimaryOpcode.Statement (.lhau rD rA d) := opcd_dForm ..
theorem PrimaryOpcode.lhax (rD : Reg) (rA : Reg) (rB : Reg) :
    PrimaryOpcode.Statement (.lhax rD rA rB) := opcd_xForm ..
theorem PrimaryOpcode.lhaux (rD : Reg) (rA : Reg) (rB : Reg) :
    PrimaryOpcode.Statement (.lhaux rD rA rB) := opcd_xForm ..
theorem PrimaryOpcode.sth (rS : Reg) (rA : Reg) (d : BitVec 16) :
    PrimaryOpcode.Statement (.sth rS rA d) := opcd_dForm ..
theorem PrimaryOpcode.sthu (rS : Reg) (rA : Reg) (d : BitVec 16) :
    PrimaryOpcode.Statement (.sthu rS rA d) := opcd_dForm ..
theorem PrimaryOpcode.sthx (rS : Reg) (rA : Reg) (rB : Reg) :
    PrimaryOpcode.Statement (.sthx rS rA rB) := opcd_xForm ..
theorem PrimaryOpcode.sthux (rS : Reg) (rA : Reg) (rB : Reg) :
    PrimaryOpcode.Statement (.sthux rS rA rB) := opcd_xForm ..
theorem PrimaryOpcode.lhbrx (rD : Reg) (rA : Reg) (rB : Reg) :
    PrimaryOpcode.Statement (.lhbrx rD rA rB) := opcd_xForm ..
theorem PrimaryOpcode.sthbrx (rS : Reg) (rA : Reg) (rB : Reg) :
    PrimaryOpcode.Statement (.sthbrx rS rA rB) := opcd_xForm ..
theorem PrimaryOpcode.lwz (rD : Reg) (rA : Reg) (d : BitVec 16) :
    PrimaryOpcode.Statement (.lwz rD rA d) := opcd_dForm ..
theorem PrimaryOpcode.lwzu (rD : Reg) (rA : Reg) (d : BitVec 16) :
    PrimaryOpcode.Statement (.lwzu rD rA d) := opcd_dForm ..
theorem PrimaryOpcode.lwzx (rD : Reg) (rA : Reg) (rB : Reg) :
    PrimaryOpcode.Statement (.lwzx rD rA rB) := opcd_xForm ..
theorem PrimaryOpcode.lwzux (rD : Reg) (rA : Reg) (rB : Reg) :
    PrimaryOpcode.Statement (.lwzux rD rA rB) := opcd_xForm ..
theorem PrimaryOpcode.stw (rS : Reg) (rA : Reg) (d : BitVec 16) :
    PrimaryOpcode.Statement (.stw rS rA d) := opcd_dForm ..
theorem PrimaryOpcode.stwu (rS : Reg) (rA : Reg) (d : BitVec 16) :
    PrimaryOpcode.Statement (.stwu rS rA d) := opcd_dForm ..
theorem PrimaryOpcode.stwx (rS : Reg) (rA : Reg) (rB : Reg) :
    PrimaryOpcode.Statement (.stwx rS rA rB) := opcd_xForm ..
theorem PrimaryOpcode.stwux (rS : Reg) (rA : Reg) (rB : Reg) :
    PrimaryOpcode.Statement (.stwux rS rA rB) := opcd_xForm ..
theorem PrimaryOpcode.lwbrx (rD : Reg) (rA : Reg) (rB : Reg) :
    PrimaryOpcode.Statement (.lwbrx rD rA rB) := opcd_xForm ..
theorem PrimaryOpcode.stwbrx (rS : Reg) (rA : Reg) (rB : Reg) :
    PrimaryOpcode.Statement (.stwbrx rS rA rB) := opcd_xForm ..
theorem PrimaryOpcode.lmw (rD : Reg) (rA : Reg) (d : BitVec 16) :
    PrimaryOpcode.Statement (.lmw rD rA d) := opcd_dForm ..
theorem PrimaryOpcode.stmw (rS : Reg) (rA : Reg) (d : BitVec 16) :
    PrimaryOpcode.Statement (.stmw rS rA d) := opcd_dForm ..
theorem PrimaryOpcode.lswi (rD : Reg) (rA : Reg) (nb : BitVec 5) :
    PrimaryOpcode.Statement (.lswi rD rA nb) := opcd_xForm ..
theorem PrimaryOpcode.lswx (rD : Reg) (rA : Reg) (rB : Reg) :
    PrimaryOpcode.Statement (.lswx rD rA rB) := opcd_xForm ..
theorem PrimaryOpcode.stswi (rS : Reg) (rA : Reg) (nb : BitVec 5) :
    PrimaryOpcode.Statement (.stswi rS rA nb) := opcd_xForm ..
theorem PrimaryOpcode.stswx (rS : Reg) (rA : Reg) (rB : Reg) :
    PrimaryOpcode.Statement (.stswx rS rA rB) := opcd_xForm ..
theorem PrimaryOpcode.fadd (frD : FReg) (frA : FReg) (frB : FReg) (rc : Bool) :
    PrimaryOpcode.Statement (.fadd frD frA frB rc) := opcd_aForm ..
theorem PrimaryOpcode.fadds (frD : FReg) (frA : FReg) (frB : FReg) (rc : Bool) :
    PrimaryOpcode.Statement (.fadds frD frA frB rc) := opcd_aForm ..
theorem PrimaryOpcode.fsub (frD : FReg) (frA : FReg) (frB : FReg) (rc : Bool) :
    PrimaryOpcode.Statement (.fsub frD frA frB rc) := opcd_aForm ..
theorem PrimaryOpcode.fsubs (frD : FReg) (frA : FReg) (frB : FReg) (rc : Bool) :
    PrimaryOpcode.Statement (.fsubs frD frA frB rc) := opcd_aForm ..
theorem PrimaryOpcode.fmul (frD : FReg) (frA : FReg) (frC : FReg) (rc : Bool) :
    PrimaryOpcode.Statement (.fmul frD frA frC rc) := opcd_aForm ..
theorem PrimaryOpcode.fmuls (frD : FReg) (frA : FReg) (frC : FReg) (rc : Bool) :
    PrimaryOpcode.Statement (.fmuls frD frA frC rc) := opcd_aForm ..
theorem PrimaryOpcode.fdiv (frD : FReg) (frA : FReg) (frB : FReg) (rc : Bool) :
    PrimaryOpcode.Statement (.fdiv frD frA frB rc) := opcd_aForm ..
theorem PrimaryOpcode.fdivs (frD : FReg) (frA : FReg) (frB : FReg) (rc : Bool) :
    PrimaryOpcode.Statement (.fdivs frD frA frB rc) := opcd_aForm ..
theorem PrimaryOpcode.fmadd (frD : FReg) (frA : FReg) (frB : FReg) (frC : FReg) (rc : Bool) :
    PrimaryOpcode.Statement (.fmadd frD frA frB frC rc) := opcd_aForm ..
theorem PrimaryOpcode.fmadds (frD : FReg) (frA : FReg) (frB : FReg) (frC : FReg) (rc : Bool) :
    PrimaryOpcode.Statement (.fmadds frD frA frB frC rc) := opcd_aForm ..
theorem PrimaryOpcode.fmsub (frD : FReg) (frA : FReg) (frB : FReg) (frC : FReg) (rc : Bool) :
    PrimaryOpcode.Statement (.fmsub frD frA frB frC rc) := opcd_aForm ..
theorem PrimaryOpcode.fmsubs (frD : FReg) (frA : FReg) (frB : FReg) (frC : FReg) (rc : Bool) :
    PrimaryOpcode.Statement (.fmsubs frD frA frB frC rc) := opcd_aForm ..
theorem PrimaryOpcode.fnmadd (frD : FReg) (frA : FReg) (frB : FReg) (frC : FReg) (rc : Bool) :
    PrimaryOpcode.Statement (.fnmadd frD frA frB frC rc) := opcd_aForm ..
theorem PrimaryOpcode.fnmadds (frD : FReg) (frA : FReg) (frB : FReg) (frC : FReg) (rc : Bool) :
    PrimaryOpcode.Statement (.fnmadds frD frA frB frC rc) := opcd_aForm ..
theorem PrimaryOpcode.fnmsub (frD : FReg) (frA : FReg) (frB : FReg) (frC : FReg) (rc : Bool) :
    PrimaryOpcode.Statement (.fnmsub frD frA frB frC rc) := opcd_aForm ..
theorem PrimaryOpcode.fnmsubs (frD : FReg) (frA : FReg) (frB : FReg) (frC : FReg) (rc : Bool) :
    PrimaryOpcode.Statement (.fnmsubs frD frA frB frC rc) := opcd_aForm ..
theorem PrimaryOpcode.fabs (frD : FReg) (frB : FReg) (rc : Bool) :
    PrimaryOpcode.Statement (.fabs frD frB rc) := opcd_xForm ..
theorem PrimaryOpcode.fnabs (frD : FReg) (frB : FReg) (rc : Bool) :
    PrimaryOpcode.Statement (.fnabs frD frB rc) := opcd_xForm ..
theorem PrimaryOpcode.fneg (frD : FReg) (frB : FReg) (rc : Bool) :
    PrimaryOpcode.Statement (.fneg frD frB rc) := opcd_xForm ..
theorem PrimaryOpcode.fres (frD : FReg) (frB : FReg) (rc : Bool) :
    PrimaryOpcode.Statement (.fres frD frB rc) := opcd_aForm ..
theorem PrimaryOpcode.frsqrte (frD : FReg) (frB : FReg) (rc : Bool) :
    PrimaryOpcode.Statement (.frsqrte frD frB rc) := opcd_aForm ..
theorem PrimaryOpcode.fsel (frD : FReg) (frA : FReg) (frB : FReg) (frC : FReg) (rc : Bool) :
    PrimaryOpcode.Statement (.fsel frD frA frB frC rc) := opcd_aForm ..
theorem PrimaryOpcode.fsqrt (frD : FReg) (frB : FReg) (rc : Bool) :
    PrimaryOpcode.Statement (.fsqrt frD frB rc) := opcd_aForm ..
theorem PrimaryOpcode.fsqrts (frD : FReg) (frB : FReg) (rc : Bool) :
    PrimaryOpcode.Statement (.fsqrts frD frB rc) := opcd_aForm ..
theorem PrimaryOpcode.frsp (frD : FReg) (frB : FReg) (rc : Bool) :
    PrimaryOpcode.Statement (.frsp frD frB rc) := opcd_xForm ..
theorem PrimaryOpcode.fctiw (frD : FReg) (frB : FReg) (rc : Bool) :
    PrimaryOpcode.Statement (.fctiw frD frB rc) := opcd_xForm ..
theorem PrimaryOpcode.fctiwz (frD : FReg) (frB : FReg) (rc : Bool) :
    PrimaryOpcode.Statement (.fctiwz frD frB rc) := opcd_xForm ..
theorem PrimaryOpcode.fcmpo (crfD : CrField) (frA : FReg) (frB : FReg) :
    PrimaryOpcode.Statement (.fcmpo crfD frA frB) := opcd_xForm ..
theorem PrimaryOpcode.fcmpu (crfD : CrField) (frA : FReg) (frB : FReg) :
    PrimaryOpcode.Statement (.fcmpu crfD frA frB) := opcd_xForm ..
theorem PrimaryOpcode.fmr (frD : FReg) (frB : FReg) (rc : Bool) :
    PrimaryOpcode.Statement (.fmr frD frB rc) := opcd_xForm ..
theorem PrimaryOpcode.lfd (frD : FReg) (rA : Reg) (d : BitVec 16) :
    PrimaryOpcode.Statement (.lfd frD rA d) := opcd_dForm ..
theorem PrimaryOpcode.lfdu (frD : FReg) (rA : Reg) (d : BitVec 16) :
    PrimaryOpcode.Statement (.lfdu frD rA d) := opcd_dForm ..
theorem PrimaryOpcode.lfdx (frD : FReg) (rA : Reg) (rB : Reg) :
    PrimaryOpcode.Statement (.lfdx frD rA rB) := opcd_xForm ..
theorem PrimaryOpcode.lfdux (frD : FReg) (rA : Reg) (rB : Reg) :
    PrimaryOpcode.Statement (.lfdux frD rA rB) := opcd_xForm ..
theorem PrimaryOpcode.lfs (frD : FReg) (rA : Reg) (d : BitVec 16) :
    PrimaryOpcode.Statement (.lfs frD rA d) := opcd_dForm ..
theorem PrimaryOpcode.lfsu (frD : FReg) (rA : Reg) (d : BitVec 16) :
    PrimaryOpcode.Statement (.lfsu frD rA d) := opcd_dForm ..
theorem PrimaryOpcode.lfsx (frD : FReg) (rA : Reg) (rB : Reg) :
    PrimaryOpcode.Statement (.lfsx frD rA rB) := opcd_xForm ..
theorem PrimaryOpcode.lfsux (frD : FReg) (rA : Reg) (rB : Reg) :
    PrimaryOpcode.Statement (.lfsux frD rA rB) := opcd_xForm ..
theorem PrimaryOpcode.stfd (frS : FReg) (rA : Reg) (d : BitVec 16) :
    PrimaryOpcode.Statement (.stfd frS rA d) := opcd_dForm ..
theorem PrimaryOpcode.stfdu (frS : FReg) (rA : Reg) (d : BitVec 16) :
    PrimaryOpcode.Statement (.stfdu frS rA d) := opcd_dForm ..
theorem PrimaryOpcode.stfdx (frS : FReg) (rA : Reg) (rB : Reg) :
    PrimaryOpcode.Statement (.stfdx frS rA rB) := opcd_xForm ..
theorem PrimaryOpcode.stfdux (frS : FReg) (rA : Reg) (rB : Reg) :
    PrimaryOpcode.Statement (.stfdux frS rA rB) := opcd_xForm ..
theorem PrimaryOpcode.stfs (frS : FReg) (rA : Reg) (d : BitVec 16) :
    PrimaryOpcode.Statement (.stfs frS rA d) := opcd_dForm ..
theorem PrimaryOpcode.stfsu (frS : FReg) (rA : Reg) (d : BitVec 16) :
    PrimaryOpcode.Statement (.stfsu frS rA d) := opcd_dForm ..
theorem PrimaryOpcode.stfsx (frS : FReg) (rA : Reg) (rB : Reg) :
    PrimaryOpcode.Statement (.stfsx frS rA rB) := opcd_xForm ..
theorem PrimaryOpcode.stfsux (frS : FReg) (rA : Reg) (rB : Reg) :
    PrimaryOpcode.Statement (.stfsux frS rA rB) := opcd_xForm ..
theorem PrimaryOpcode.stfiwx (frS : FReg) (rA : Reg) (rB : Reg) :
    PrimaryOpcode.Statement (.stfiwx frS rA rB) := opcd_xForm ..
theorem PrimaryOpcode.dcbf (rA : Reg) (rB : Reg) :
    PrimaryOpcode.Statement (.dcbf rA rB) := opcd_xForm ..
theorem PrimaryOpcode.dcbi (rA : Reg) (rB : Reg) :
    PrimaryOpcode.Statement (.dcbi rA rB) := opcd_xForm ..
theorem PrimaryOpcode.dcbst (rA : Reg) (rB : Reg) :
    PrimaryOpcode.Statement (.dcbst rA rB) := opcd_xForm ..
theorem PrimaryOpcode.dcbt (rA : Reg) (rB : Reg) :
    PrimaryOpcode.Statement (.dcbt rA rB) := opcd_xForm ..
theorem PrimaryOpcode.dcbtst (rA : Reg) (rB : Reg) :
    PrimaryOpcode.Statement (.dcbtst rA rB) := opcd_xForm ..
theorem PrimaryOpcode.dcbz (rA : Reg) (rB : Reg) :
    PrimaryOpcode.Statement (.dcbz rA rB) := opcd_xForm ..
theorem PrimaryOpcode.icbi (rA : Reg) (rB : Reg) :
    PrimaryOpcode.Statement (.icbi rA rB) := opcd_xForm ..
theorem PrimaryOpcode.mtspr (rS : Reg) (spr : BitVec 10) :
    PrimaryOpcode.Statement (.mtspr rS spr) := opcd_xfxForm ..
theorem PrimaryOpcode.mfspr (rD : Reg) (spr : BitVec 10) :
    PrimaryOpcode.Statement (.mfspr rD spr) := opcd_xfxForm ..
theorem PrimaryOpcode.mtcrf (rS : Reg) (crm : BitVec 8) :
    PrimaryOpcode.Statement (.mtcrf rS crm) := opcd_xfxForm ..
theorem PrimaryOpcode.mftb (rD : Reg) (tbr : BitVec 10) :
    PrimaryOpcode.Statement (.mftb rD tbr) := opcd_xfxForm ..
theorem PrimaryOpcode.mfcr (rD : Reg) :
    PrimaryOpcode.Statement (.mfcr rD) := opcd_xForm ..
theorem PrimaryOpcode.mtmsr (rS : Reg) :
    PrimaryOpcode.Statement (.mtmsr rS) := opcd_xForm ..
theorem PrimaryOpcode.mfmsr (rD : Reg) :
    PrimaryOpcode.Statement (.mfmsr rD) := opcd_xForm ..
theorem PrimaryOpcode.mcrfs (crfD : CrField) (crfS : CrField) :
    PrimaryOpcode.Statement (.mcrfs crfD crfS) := opcd_xForm ..
theorem PrimaryOpcode.mffs (frD : FReg) (rc : Bool) :
    PrimaryOpcode.Statement (.mffs frD rc) := opcd_xForm ..
theorem PrimaryOpcode.mtfsb0 (crbD : CrBit) (rc : Bool) :
    PrimaryOpcode.Statement (.mtfsb0 crbD rc) := opcd_xForm ..
theorem PrimaryOpcode.mtfsb1 (crbD : CrBit) (rc : Bool) :
    PrimaryOpcode.Statement (.mtfsb1 crbD rc) := opcd_xForm ..
theorem PrimaryOpcode.mtfsf (fm : BitVec 8) (frB : FReg) (rc : Bool) :
    PrimaryOpcode.Statement (.mtfsf fm frB rc) := opcd_xflForm ..
theorem PrimaryOpcode.mtfsfi (crfD : CrField) (imm : BitVec 4) (rc : Bool) :
    PrimaryOpcode.Statement (.mtfsfi crfD imm rc) := opcd_xForm ..
theorem PrimaryOpcode.crand (crbD : CrBit) (crbA : CrBit) (crbB : CrBit) :
    PrimaryOpcode.Statement (.crand crbD crbA crbB) := opcd_xForm ..
theorem PrimaryOpcode.crandc (crbD : CrBit) (crbA : CrBit) (crbB : CrBit) :
    PrimaryOpcode.Statement (.crandc crbD crbA crbB) := opcd_xForm ..
theorem PrimaryOpcode.creqv (crbD : CrBit) (crbA : CrBit) (crbB : CrBit) :
    PrimaryOpcode.Statement (.creqv crbD crbA crbB) := opcd_xForm ..
theorem PrimaryOpcode.crnand (crbD : CrBit) (crbA : CrBit) (crbB : CrBit) :
    PrimaryOpcode.Statement (.crnand crbD crbA crbB) := opcd_xForm ..
theorem PrimaryOpcode.crnor (crbD : CrBit) (crbA : CrBit) (crbB : CrBit) :
    PrimaryOpcode.Statement (.crnor crbD crbA crbB) := opcd_xForm ..
theorem PrimaryOpcode.cror (crbD : CrBit) (crbA : CrBit) (crbB : CrBit) :
    PrimaryOpcode.Statement (.cror crbD crbA crbB) := opcd_xForm ..
theorem PrimaryOpcode.crorc (crbD : CrBit) (crbA : CrBit) (crbB : CrBit) :
    PrimaryOpcode.Statement (.crorc crbD crbA crbB) := opcd_xForm ..
theorem PrimaryOpcode.crxor (crbD : CrBit) (crbA : CrBit) (crbB : CrBit) :
    PrimaryOpcode.Statement (.crxor crbD crbA crbB) := opcd_xForm ..
theorem PrimaryOpcode.mcrf (crfD : CrField) (crfS : CrField) :
    PrimaryOpcode.Statement (.mcrf crfD crfS) := opcd_xForm ..
theorem PrimaryOpcode.sync :
    PrimaryOpcode.Statement .sync := opcd_xForm ..
theorem PrimaryOpcode.isync :
    PrimaryOpcode.Statement .isync := opcd_xForm ..
theorem PrimaryOpcode.eieio :
    PrimaryOpcode.Statement .eieio := opcd_xForm ..
theorem PrimaryOpcode.tlbie (rB : Reg) :
    PrimaryOpcode.Statement (.tlbie rB) := opcd_xForm ..
theorem PrimaryOpcode.tlbia :
    PrimaryOpcode.Statement .tlbia := opcd_xForm ..
theorem PrimaryOpcode.tlbsync :
    PrimaryOpcode.Statement .tlbsync := opcd_xForm ..
theorem PrimaryOpcode.mtsr (rS : Reg) (sr : BitVec 4) :
    PrimaryOpcode.Statement (.mtsr rS sr) := opcd_xForm ..
theorem PrimaryOpcode.mfsr (rD : Reg) (sr : BitVec 4) :
    PrimaryOpcode.Statement (.mfsr rD sr) := opcd_xForm ..
theorem PrimaryOpcode.mtsrin (rS : Reg) (rB : Reg) :
    PrimaryOpcode.Statement (.mtsrin rS rB) := opcd_xForm ..
theorem PrimaryOpcode.mfsrin (rD : Reg) (rB : Reg) :
    PrimaryOpcode.Statement (.mfsrin rD rB) := opcd_xForm ..
theorem PrimaryOpcode.sc : PrimaryOpcode.Statement .sc := rfl
theorem PrimaryOpcode.rfi :
    PrimaryOpcode.Statement .rfi := opcd_xForm ..
theorem PrimaryOpcode.tw (cond : BitVec 5) (rA : Reg) (rB : Reg) :
    PrimaryOpcode.Statement (.tw cond rA rB) := opcd_xForm ..
theorem PrimaryOpcode.twi (cond : BitVec 5) (rA : Reg) (simm : BitVec 16) :
    PrimaryOpcode.Statement (.twi cond rA simm) := opcd_dForm ..
theorem PrimaryOpcode.psq_l (frD : FReg) (rA : Reg) (single : Bool) (gqr : BitVec 3) (d12 : BitVec 12) :
    PrimaryOpcode.Statement (.psq_l frD rA single gqr d12) := opcd_dqForm ..
theorem PrimaryOpcode.psq_lu (frD : FReg) (rA : Reg) (single : Bool) (gqr : BitVec 3) (d12 : BitVec 12) :
    PrimaryOpcode.Statement (.psq_lu frD rA single gqr d12) := opcd_dqForm ..
theorem PrimaryOpcode.psq_lx (frD : FReg) (rA : Reg) (rB : Reg) (single : Bool) (gqr : BitVec 3) :
    PrimaryOpcode.Statement (.psq_lx frD rA rB single gqr) := opcd_xqForm ..
theorem PrimaryOpcode.psq_lux (frD : FReg) (rA : Reg) (rB : Reg) (single : Bool) (gqr : BitVec 3) :
    PrimaryOpcode.Statement (.psq_lux frD rA rB single gqr) := opcd_xqForm ..
theorem PrimaryOpcode.psq_st (frS : FReg) (rA : Reg) (single : Bool) (gqr : BitVec 3) (d12 : BitVec 12) :
    PrimaryOpcode.Statement (.psq_st frS rA single gqr d12) := opcd_dqForm ..
theorem PrimaryOpcode.psq_stu (frS : FReg) (rA : Reg) (single : Bool) (gqr : BitVec 3) (d12 : BitVec 12) :
    PrimaryOpcode.Statement (.psq_stu frS rA single gqr d12) := opcd_dqForm ..
theorem PrimaryOpcode.psq_stx (frS : FReg) (rA : Reg) (rB : Reg) (single : Bool) (gqr : BitVec 3) :
    PrimaryOpcode.Statement (.psq_stx frS rA rB single gqr) := opcd_xqForm ..
theorem PrimaryOpcode.psq_stux (frS : FReg) (rA : Reg) (rB : Reg) (single : Bool) (gqr : BitVec 3) :
    PrimaryOpcode.Statement (.psq_stux frS rA rB single gqr) := opcd_xqForm ..
theorem PrimaryOpcode.ps_add (frD : FReg) (frA : FReg) (frB : FReg) (rc : Bool) :
    PrimaryOpcode.Statement (.ps_add frD frA frB rc) := opcd_aForm ..
theorem PrimaryOpcode.ps_sub (frD : FReg) (frA : FReg) (frB : FReg) (rc : Bool) :
    PrimaryOpcode.Statement (.ps_sub frD frA frB rc) := opcd_aForm ..
theorem PrimaryOpcode.ps_mul (frD : FReg) (frA : FReg) (frC : FReg) (rc : Bool) :
    PrimaryOpcode.Statement (.ps_mul frD frA frC rc) := opcd_aForm ..
theorem PrimaryOpcode.ps_div (frD : FReg) (frA : FReg) (frB : FReg) (rc : Bool) :
    PrimaryOpcode.Statement (.ps_div frD frA frB rc) := opcd_aForm ..
theorem PrimaryOpcode.ps_abs (frD : FReg) (frB : FReg) (rc : Bool) :
    PrimaryOpcode.Statement (.ps_abs frD frB rc) := opcd_xForm ..
theorem PrimaryOpcode.ps_neg (frD : FReg) (frB : FReg) (rc : Bool) :
    PrimaryOpcode.Statement (.ps_neg frD frB rc) := opcd_xForm ..
theorem PrimaryOpcode.ps_nabs (frD : FReg) (frB : FReg) (rc : Bool) :
    PrimaryOpcode.Statement (.ps_nabs frD frB rc) := opcd_xForm ..
theorem PrimaryOpcode.ps_madd (frD : FReg) (frA : FReg) (frB : FReg) (frC : FReg) (rc : Bool) :
    PrimaryOpcode.Statement (.ps_madd frD frA frB frC rc) := opcd_aForm ..
theorem PrimaryOpcode.ps_madds0 (frD : FReg) (frA : FReg) (frB : FReg) (frC : FReg) (rc : Bool) :
    PrimaryOpcode.Statement (.ps_madds0 frD frA frB frC rc) := opcd_aForm ..
theorem PrimaryOpcode.ps_madds1 (frD : FReg) (frA : FReg) (frB : FReg) (frC : FReg) (rc : Bool) :
    PrimaryOpcode.Statement (.ps_madds1 frD frA frB frC rc) := opcd_aForm ..
theorem PrimaryOpcode.ps_msub (frD : FReg) (frA : FReg) (frB : FReg) (frC : FReg) (rc : Bool) :
    PrimaryOpcode.Statement (.ps_msub frD frA frB frC rc) := opcd_aForm ..
theorem PrimaryOpcode.ps_nmadd (frD : FReg) (frA : FReg) (frB : FReg) (frC : FReg) (rc : Bool) :
    PrimaryOpcode.Statement (.ps_nmadd frD frA frB frC rc) := opcd_aForm ..
theorem PrimaryOpcode.ps_nmsub (frD : FReg) (frA : FReg) (frB : FReg) (frC : FReg) (rc : Bool) :
    PrimaryOpcode.Statement (.ps_nmsub frD frA frB frC rc) := opcd_aForm ..
theorem PrimaryOpcode.ps_mr (frD : FReg) (frB : FReg) (rc : Bool) :
    PrimaryOpcode.Statement (.ps_mr frD frB rc) := opcd_xForm ..
theorem PrimaryOpcode.ps_res (frD : FReg) (frB : FReg) (rc : Bool) :
    PrimaryOpcode.Statement (.ps_res frD frB rc) := opcd_aForm ..
theorem PrimaryOpcode.ps_rsqrte (frD : FReg) (frB : FReg) (rc : Bool) :
    PrimaryOpcode.Statement (.ps_rsqrte frD frB rc) := opcd_aForm ..
theorem PrimaryOpcode.ps_sel (frD : FReg) (frA : FReg) (frB : FReg) (frC : FReg) (rc : Bool) :
    PrimaryOpcode.Statement (.ps_sel frD frA frB frC rc) := opcd_aForm ..
theorem PrimaryOpcode.ps_sum0 (frD : FReg) (frA : FReg) (frB : FReg) (frC : FReg) (rc : Bool) :
    PrimaryOpcode.Statement (.ps_sum0 frD frA frB frC rc) := opcd_aForm ..
theorem PrimaryOpcode.ps_sum1 (frD : FReg) (frA : FReg) (frB : FReg) (frC : FReg) (rc : Bool) :
    PrimaryOpcode.Statement (.ps_sum1 frD frA frB frC rc) := opcd_aForm ..
theorem PrimaryOpcode.ps_muls0 (frD : FReg) (frA : FReg) (frC : FReg) (rc : Bool) :
    PrimaryOpcode.Statement (.ps_muls0 frD frA frC rc) := opcd_aForm ..
theorem PrimaryOpcode.ps_muls1 (frD : FReg) (frA : FReg) (frC : FReg) (rc : Bool) :
    PrimaryOpcode.Statement (.ps_muls1 frD frA frC rc) := opcd_aForm ..
theorem PrimaryOpcode.ps_merge00 (frD : FReg) (frA : FReg) (frB : FReg) (rc : Bool) :
    PrimaryOpcode.Statement (.ps_merge00 frD frA frB rc) := opcd_xForm ..
theorem PrimaryOpcode.ps_merge01 (frD : FReg) (frA : FReg) (frB : FReg) (rc : Bool) :
    PrimaryOpcode.Statement (.ps_merge01 frD frA frB rc) := opcd_xForm ..
theorem PrimaryOpcode.ps_merge10 (frD : FReg) (frA : FReg) (frB : FReg) (rc : Bool) :
    PrimaryOpcode.Statement (.ps_merge10 frD frA frB rc) := opcd_xForm ..
theorem PrimaryOpcode.ps_merge11 (frD : FReg) (frA : FReg) (frB : FReg) (rc : Bool) :
    PrimaryOpcode.Statement (.ps_merge11 frD frA frB rc) := opcd_xForm ..
theorem PrimaryOpcode.ps_cmpu0 (crfD : CrField) (frA : FReg) (frB : FReg) :
    PrimaryOpcode.Statement (.ps_cmpu0 crfD frA frB) := opcd_xForm ..
theorem PrimaryOpcode.ps_cmpo0 (crfD : CrField) (frA : FReg) (frB : FReg) :
    PrimaryOpcode.Statement (.ps_cmpo0 crfD frA frB) := opcd_xForm ..
theorem PrimaryOpcode.ps_cmpu1 (crfD : CrField) (frA : FReg) (frB : FReg) :
    PrimaryOpcode.Statement (.ps_cmpu1 crfD frA frB) := opcd_xForm ..
theorem PrimaryOpcode.ps_cmpo1 (crfD : CrField) (frA : FReg) (frB : FReg) :
    PrimaryOpcode.Statement (.ps_cmpo1 crfD frA frB) := opcd_xForm ..
theorem PrimaryOpcode.extsb (rS : Reg) (rA : Reg) (rc : Bool) :
    PrimaryOpcode.Statement (.extsb rS rA rc) := opcd_xForm ..
theorem PrimaryOpcode.extsh (rS : Reg) (rA : Reg) (rc : Bool) :
    PrimaryOpcode.Statement (.extsh rS rA rc) := opcd_xForm ..
theorem PrimaryOpcode.lwarx (rD : Reg) (rA : Reg) (rB : Reg) :
    PrimaryOpcode.Statement (.lwarx rD rA rB) := opcd_xForm ..
theorem PrimaryOpcode.stwcx_rc (rS : Reg) (rA : Reg) (rB : Reg) :
    PrimaryOpcode.Statement (.stwcx_rc rS rA rB) := opcd_xForm ..
theorem PrimaryOpcode.cntlzw (rS : Reg) (rA : Reg) (rc : Bool) :
    PrimaryOpcode.Statement (.cntlzw rS rA rc) := opcd_xForm ..
theorem PrimaryOpcode.eciwx (rD : Reg) (rA : Reg) (rB : Reg) :
    PrimaryOpcode.Statement (.eciwx rD rA rB) := opcd_xForm ..
theorem PrimaryOpcode.ecowx (rS : Reg) (rA : Reg) (rB : Reg) :
    PrimaryOpcode.Statement (.ecowx rS rA rB) := opcd_xForm ..
theorem PrimaryOpcode.mcrxr (crfD : CrField) :
    PrimaryOpcode.Statement (.mcrxr crfD) := opcd_xForm ..
theorem PrimaryOpcode.dcbz_l (rA : Reg) (rB : Reg) :
    PrimaryOpcode.Statement (.dcbz_l rA rB) := opcd_xForm ..

end Sys2Proof.Laws
end

