-- ==== Sys2Proof/Tests/Slice0.lean ====
section
/-! SUPPORT. The model's own tests: what WellFormed and the decoder refuse, the spec's example words, one-step vectors of
95_test_vectors.md (each named after its vector), and a witness for every statement that has hypotheses. -/

namespace Sys2Proof.Tests

open Sys2Proof Sys2Proof.Machine

/-! ### Helpers -/

/-- The start state of 95_test_vectors.md: supervisor, FP = 1, real mode, pc = 0x1000. -/
def start : State := { State.reset with pc := 0x1000, msr := 0x2000 }
/-- `start` with HID2[PSE] = HID2[LSQE] = 1. -/
def pairedOn : State := { start with hid2 := 0xA0000000 }
/-- General registers set. -/
def withX (s : State) (l : List (Reg × Word)) : State := l.foldl (fun s p => s.setX p.1 p.2) s
/-- Floating-point registers set, both lanes. -/
def withF (s : State) (l : List (FReg × Lane × Lane)) : State :=
  l.foldl (fun s p => (s.setF0 p.1 p.2.1).setF1 p.1 p.2.2) s
/-- Bytes placed in memory. -/
def withMem (s : State) (l : List (Word × List Byte)) : State :=
  { s with mem := l.foldl (fun m p => m.writeBytes p.1 p.2) s.mem }
/-- The vectors' "PS-start". -/
def pairedStart : State :=
  withF pairedOn [(2, 0x3FF0000000000000, 0x4000000000000000), (3, 0x4008000000000000, 0x4010000000000000),
    (4, 0x3FE0000000000000, 0xBFF0000000000000)]
/-- The state after one step that fetches the word. -/
def ran (w : Nat) (s : State) : Option State := nextOf (step (s.withFetchWord 32 w))
/-- The state after the word, where the start state translates its fetches. -/
def did (w : Word) (s : State) : Option State := nextOf (execWord w s)
/-- Why a step that fetches the word is refused. -/
def stopped (w : Nat) (s : State) : Option Refusal :=
  match step (s.withFetchWord 32 w) with
  | .refused r => some r
  | .next _ | .fault _ => none
/-- Each word decodes to its instruction and is accepted. -/
def decodesTo (l : List (Word × Instr)) : Bool := l.all fun p => decide (classify p.1 = .instr p.2)

/-! ### Invalid forms (R185) -/

theorem test_wellFormed_cmp_l : (Instr.cmp 0 true 3 4).wellFormed = false := by decide
theorem test_wellFormed_cmpi_l : (Instr.cmpi 0 true 3 4).wellFormed = false := by decide
theorem test_wellFormed_cmpl_l : (Instr.cmpl 0 true 3 4).wellFormed = false := by decide
theorem test_wellFormed_cmpli_l : (Instr.cmpli 0 true 3 4).wellFormed = false := by decide
theorem test_wellFormed_load_update_rA_zero :
    [Instr.lbzu 3 0 4, .lbzux 3 0 4, .lhzu 3 0 4, .lhzux 3 0 4, .lhau 3 0 4, .lhaux 3 0 4, .lwzu 3 0 4,
      .lwzux 3 0 4].all (fun i => !i.wellFormed) = true := by decide
theorem test_wellFormed_load_update_rA_is_rD :
    [Instr.lbzu 3 3 4, .lbzux 3 3 4, .lhzu 3 3 4, .lhzux 3 3 4, .lhau 3 3 4, .lhaux 3 3 4, .lwzu 3 3 4,
      .lwzux 3 3 4].all (fun i => !i.wellFormed) = true := by decide
theorem test_wellFormed_store_update_rA_zero :
    [Instr.stbu 3 0 4, .stbux 3 0 4, .sthu 3 0 4, .sthux 3 0 4, .stwu 3 0 4, .stwux 3 0 4].all
      (fun i => !i.wellFormed) = true := by decide
theorem test_wellFormed_fp_update_rA_zero :
    [Instr.lfsu 3 0 4, .lfsux 3 0 4, .lfdu 3 0 4, .lfdux 3 0 4, .stfsu 3 0 4, .stfsux 3 0 4, .stfdu 3 0 4,
      .stfdux 3 0 4].all (fun i => !i.wellFormed) = true := by decide
theorem test_wellFormed_quantized_update_rA_zero :
    [Instr.psq_lu 3 0 false 0 4, .psq_lux 3 0 4 false 0, .psq_stu 3 0 false 0 4, .psq_stux 3 0 4 false 0].all
      (fun i => !i.wellFormed) = true := by decide
theorem test_wellFormed_lmw_range : (Instr.lmw 3 3 0).wellFormed = false ∧ (Instr.lmw 3 2 0).wellFormed = true := by decide
theorem test_wellFormed_lswi_range :
    (Instr.lswi 30 0 12).wellFormed = false ∧ (Instr.lswi 30 1 12).wellFormed = true := by decide
theorem test_wellFormed_lswx_rD : (Instr.lswx 3 3 4).wellFormed = false ∧ (Instr.lswx 3 4 3).wellFormed = false := by decide
theorem test_wellFormed_branch_options :
    [Instr.bc 6 0 0 false false, .bc 7 0 0 false false, .bc 14 0 0 false false, .bc 21 0 0 false false,
      .bc 31 0 0 false false, .bclr 6 0 false, .bclr 24 0 false, .bcctr 14 0 false].all (fun i => !i.wellFormed) = true := by
  decide
theorem test_wellFormed_bcctr_decrement : (Instr.bcctr 16 0 false).wellFormed = false := by decide
theorem test_classify_refuses :
    classify 0x2C230000 = .invalidForm ∧ classify 0x7C0004AD = .reservedBits ∧ classify 0x78000000 = .illegal := by decide

/-! ### Decoding: one word of every instruction, written from its encoding (the examples of R200 to R749) -/

/-- The words of the examples in rules R201 to R222. -/
theorem test_decode_integer_arithmetic : decodesTo [
    (0x7C642E15, .add 3 4 5 true true), (0x7C642C15, .addc 3 4 5 true true), (0x7C642D15, .adde 3 4 5 true true),
    (0x3864FFFF, .addi 3 4 65535), (0x3064FFFF, .addic 3 4 65535), (0x3464FFFF, .addic_rc 3 4 65535),
    (0x3C608000, .addis 3 0 32768), (0x7C6405D5, .addme 3 4 true true), (0x7C640595, .addze 3 4 true true),
    (0x7C642C51, .subf 3 4 5 true true), (0x7C642C11, .subfc 3 4 5 true true), (0x7C642D11, .subfe 3 4 5 true true),
    (0x2064000A, .subfic 3 4 10), (0x7C6405D1, .subfme 3 4 true true), (0x7C640591, .subfze 3 4 true true),
    (0x7C6404D1, .neg 3 4 true true), (0x7C642897, .mulhw 3 4 5 true), (0x7C642817, .mulhwu 3 4 5 true),
    (0x7C642DD7, .mullw 3 4 5 true true), (0x1C64FFFD, .mulli 3 4 65533), (0x7C642FD7, .divw 3 4 5 true true),
    (0x7C642B96, .divwu 3 4 5 false false)] = true := by
  decide

/-- The words of the examples in rules R251 to R276. -/
theorem test_decode_logical_shift_rotate : decodesTo [
    (0x7C832839, .and 4 3 5 true), (0x7C832879, .andc 4 3 5 true), (0x708300FF, .andi_rc 4 3 255),
    (0x7483F000, .andis_rc 4 3 61440), (0x7C832B79, .or 4 3 5 true), (0x7C832B39, .orc 4 3 5 true),
    (0x60835678, .ori 4 3 22136), (0x64831234, .oris 4 3 4660), (0x7C832A79, .xor 4 3 5 true),
    (0x688300FF, .xori 4 3 255), (0x6C838000, .xoris 4 3 32768), (0x7C832BB9, .nand 4 3 5 true),
    (0x7C8328F9, .nor 4 3 5 true), (0x7C832A39, .eqv 4 3 5 true), (0x7C832831, .slw 4 3 5 true),
    (0x7C832C31, .srw 4 3 5 true), (0x7C832E31, .sraw 4 3 5 true), (0x7C831670, .srawi 4 3 2 false),
    (0x5083442E, .rlwimi 4 3 8 16 23 false), (0x5483273F, .rlwinm 4 3 4 28 31 true),
    (0x5C83283E, .rlwnm 4 3 5 0 31 false)] = true := by
  decide

/-- The words of the examples in rules R301 to R314. -/
theorem test_decode_compare_branch : decodesTo [
    (0x7F842800, .cmp 7 false 4 5), (0x2C04FFFF, .cmpi 0 false 4 65535), (0x7F842840, .cmpl 7 false 4 5),
    (0x2884FFFF, .cmpli 1 false 4 65535), (0x48000008, .b 2 false false), (0x41820010, .bc 12 2 4 false false),
    (0x4E800020, .bclr 20 0 false), (0x4E800420, .bcctr 20 0 false)] = true := by
  decide

/-- The words of the examples in rules R351 to R374. -/
theorem test_decode_load_store_1 : decodesTo [
    (0x88640010, .lbz 3 4 16), (0x8C640010, .lbzu 3 4 16), (0x7C6428AE, .lbzx 3 4 5), (0x7C6428EE, .lbzux 3 4 5),
    (0x98640010, .stb 3 4 16), (0x9C640010, .stbu 3 4 16), (0x7C6429AE, .stbx 3 4 5), (0x7C6429EE, .stbux 3 4 5),
    (0xA0640010, .lhz 3 4 16), (0xA4640010, .lhzu 3 4 16), (0x7C642A2E, .lhzx 3 4 5), (0x7C642A6E, .lhzux 3 4 5),
    (0xA8640010, .lha 3 4 16), (0xAC640010, .lhau 3 4 16), (0x7C642AAE, .lhax 3 4 5), (0x7C642AEE, .lhaux 3 4 5),
    (0xB0640010, .sth 3 4 16), (0xB4640010, .sthu 3 4 16), (0x7C642B2E, .sthx 3 4 5), (0x7C642B6E, .sthux 3 4 5),
    (0x7C642E2C, .lhbrx 3 4 5), (0x7C642F2C, .sthbrx 3 4 5), (0x80640010, .lwz 3 4 16), (0x84640010, .lwzu 3 4 16)] = true := by
  decide

/-- The words of the examples in rules R375 to R400. -/
theorem test_decode_load_store_2 : decodesTo [
    (0x7C64282E, .lwzx 3 4 5), (0x7C64286E, .lwzux 3 4 5), (0x90640010, .stw 3 4 16), (0x94640010, .stwu 3 4 16),
    (0x7C64292E, .stwx 3 4 5), (0x7C64296E, .stwux 3 4 5), (0x7C642C2C, .lwbrx 3 4 5), (0x7C642D2C, .stwbrx 3 4 5),
    (0xBBA10008, .lmw 29 1 8), (0xBFC1FFF8, .stmw 30 1 65528), (0x7CA434AA, .lswi 5 4 6), (0x7CA4342A, .lswx 5 4 6),
    (0x7CA42DAA, .stswi 5 4 5), (0x7CA4352A, .stswx 5 4 6)] = true := by
  decide

/-- The words of the examples in rules R471 to R494. -/
theorem test_decode_floating_point_1 : decodesTo [
    (0xFC22182A, .fadd 1 2 3 false), (0xEC22182A, .fadds 1 2 3 false), (0xFC221828, .fsub 1 2 3 false),
    (0xEC221828, .fsubs 1 2 3 false), (0xFC2200F2, .fmul 1 2 3 false), (0xEC2200F2, .fmuls 1 2 3 false),
    (0xFC221824, .fdiv 1 2 3 false), (0xEC221824, .fdivs 1 2 3 false), (0xFC2220FA, .fmadd 1 2 4 3 false),
    (0xEC2220FA, .fmadds 1 2 4 3 false), (0xFC2220F8, .fmsub 1 2 4 3 false), (0xEC2220F8, .fmsubs 1 2 4 3 false),
    (0xFC2220FE, .fnmadd 1 2 4 3 false), (0xEC2220FE, .fnmadds 1 2 4 3 false), (0xFC2220FC, .fnmsub 1 2 4 3 false),
    (0xEC2220FC, .fnmsubs 1 2 4 3 false), (0xFC201210, .fabs 1 2 false), (0xFC201110, .fnabs 1 2 false),
    (0xFC201050, .fneg 1 2 false), (0xEC201030, .fres 1 2 false), (0xFC201034, .frsqrte 1 2 false),
    (0xFC2220EE, .fsel 1 2 4 3 false), (0xFC20102C, .fsqrt 1 2 false), (0xEC20102C, .fsqrts 1 2 false)] = true := by
  decide

/-- The words of the examples in rules R495 to R527. -/
theorem test_decode_floating_point_2 : decodesTo [
    (0xFC201018, .frsp 1 2 false), (0xFC20101C, .fctiw 1 2 false), (0xFC20101E, .fctiwz 1 2 false),
    (0xFC821840, .fcmpo 1 2 3), (0xFC821800, .fcmpu 1 2 3), (0xFC201090, .fmr 1 2 false), (0xC8240008, .lfd 1 4 8),
    (0xCC240008, .lfdu 1 4 8), (0x7C242CAE, .lfdx 1 4 5), (0x7C242CEE, .lfdux 1 4 5), (0xC0240008, .lfs 1 4 8),
    (0xC4240008, .lfsu 1 4 8), (0x7C242C2E, .lfsx 1 4 5), (0x7C242C6E, .lfsux 1 4 5), (0xD8240008, .stfd 1 4 8),
    (0xDC240008, .stfdu 1 4 8), (0x7C242DAE, .stfdx 1 4 5), (0x7C242DEE, .stfdux 1 4 5), (0xD0240008, .stfs 1 4 8),
    (0xD4240008, .stfsu 1 4 8), (0x7C242D2E, .stfsx 1 4 5), (0x7C242D6E, .stfsux 1 4 5),
    (0x7C242FAE, .stfiwx 1 4 5)] = true := by
  decide

/-- The words of the examples in rules R551 to R594. -/
theorem test_decode_cache_spr_fpscr_cr_1 : decodesTo [
    (0x7C0320AC, .dcbf 3 4), (0x7C0323AC, .dcbi 3 4), (0x7C03206C, .dcbst 3 4), (0x7C03222C, .dcbt 3 4),
    (0x7C0321EC, .dcbtst 3 4), (0x7C0327EC, .dcbz 3 4), (0x7C0327AC, .icbi 3 4), (0x7C6903A6, .mtspr 3 9),
    (0x7C6802A6, .mfspr 3 8), (0x7C681120, .mtcrf 3 129), (0x7C6C42E6, .mftb 3 268), (0x7C600026, .mfcr 3),
    (0x7C600124, .mtmsr 3), (0x7C6000A6, .mfmsr 3), (0xFD040080, .mcrfs 2 1), (0xFC20048E, .mffs 1 false),
    (0xFCC0008C, .mtfsb0 6 false), (0xFF00004C, .mtfsb1 24 false), (0xFC02158E, .mtfsf 1 2 false),
    (0xFF80110C, .mtfsfi 7 1 false), (0x4C064A02, .crand 0 6 9), (0x4C064902, .crandc 0 6 9),
    (0x4C064A42, .creqv 0 6 9), (0x4C0649C2, .crnand 0 6 9)] = true := by
  decide

/-- The words of the examples in rules R595 to R599. -/
theorem test_decode_cache_spr_fpscr_cr_2 : decodesTo [
    (0x4C064842, .crnor 0 6 9), (0x4C064B82, .cror 0 6 9), (0x4C064B42, .crorc 0 6 9), (0x4C064982, .crxor 0 6 9),
    (0x4C1C0000, .mcrf 0 7)] = true := by
  decide

/-- The words of the examples in rules R621 to R643. -/
theorem test_decode_system : decodesTo [
    (0x7C0004AC, .sync), (0x4C00012C, .isync), (0x7C0006AC, .eieio), (0x7C002264, .tlbie 4), (0x7C0002E4, .tlbia),
    (0x7C00046C, .tlbsync), (0x7C6501A4, .mtsr 3 5), (0x7C6504A6, .mfsr 3 5), (0x7C6021E4, .mtsrin 3 4),
    (0x7C602526, .mfsrin 3 4), (0x44000002, .sc), (0x4C000064, .rfi), (0x7C832008, .tw 4 3 4),
    (0x0E030000, .twi 16 3 0)] = true := by
  decide

/-- The words of the examples in rules R670 to R695. -/
theorem test_decode_paired_single_1 : decodesTo [
    (0xE0232010, .psq_l 1 3 false 2 16), (0xE4232010, .psq_lu 1 3 false 2 16), (0x1023210C, .psq_lx 1 3 4 false 2),
    (0x1023214C, .psq_lux 1 3 4 false 2), (0xF0232010, .psq_st 1 3 false 2 16),
    (0xF4232010, .psq_stu 1 3 false 2 16), (0x1023210E, .psq_stx 1 3 4 false 2),
    (0x1023214E, .psq_stux 1 3 4 false 2), (0x1022182A, .ps_add 1 2 3 false), (0x10221828, .ps_sub 1 2 3 false),
    (0x102200F2, .ps_mul 1 2 3 false), (0x10221824, .ps_div 1 2 3 false), (0x10201210, .ps_abs 1 2 false),
    (0x10201050, .ps_neg 1 2 false), (0x10201110, .ps_nabs 1 2 false), (0x102220FA, .ps_madd 1 2 4 3 false),
    (0x102220DC, .ps_madds0 1 2 4 3 false), (0x102220DE, .ps_madds1 1 2 4 3 false),
    (0x102220F8, .ps_msub 1 2 4 3 false), (0x102220FE, .ps_nmadd 1 2 4 3 false),
    (0x102220FC, .ps_nmsub 1 2 4 3 false), (0x10201090, .ps_mr 1 2 false), (0x10201030, .ps_res 1 2 false),
    (0x10201034, .ps_rsqrte 1 2 false)] = true := by
  decide

/-- The words of the examples in rules R696 to R708. -/
theorem test_decode_paired_single_2 : decodesTo [
    (0x102220EE, .ps_sel 1 2 4 3 false), (0x102220D4, .ps_sum0 1 2 4 3 false), (0x102220D6, .ps_sum1 1 2 4 3 false),
    (0x102200D8, .ps_muls0 1 2 3 false), (0x102200DA, .ps_muls1 1 2 3 false), (0x10221C20, .ps_merge00 1 2 3 false),
    (0x10221C60, .ps_merge01 1 2 3 false), (0x10221CA0, .ps_merge10 1 2 3 false),
    (0x10221CE0, .ps_merge11 1 2 3 false), (0x10821800, .ps_cmpu0 1 2 3), (0x10821840, .ps_cmpo0 1 2 3),
    (0x10821880, .ps_cmpu1 1 2 3), (0x108218C0, .ps_cmpo1 1 2 3)] = true := by
  decide

/-- The words of the examples in rules R741 to R749. -/
theorem test_decode_supplement : decodesTo [
    (0x7C830774, .extsb 4 3 false), (0x7C830734, .extsh 4 3 false), (0x7C602028, .lwarx 3 0 4),
    (0x7C60212D, .stwcx_rc 3 0 4), (0x7C830034, .cntlzw 4 3 false), (0x7C60226C, .eciwx 3 0 4),
    (0x7C60236C, .ecowx 3 0 4), (0x7D000400, .mcrxr 2), (0x100327EC, .dcbz_l 3 4)] = true := by
  decide

/-! ### One-step vectors of 95_test_vectors.md, each named after its vector -/

theorem test_addi_V1 : (ran 0x3860FFFF (withX start [(0, 0x12345678)])).map (fun t => t.x 3) =
    some 0xFFFFFFFF := by decide
theorem test_addo_rc_V5 :
    (ran 0x7C642E15 (withX start [(4, 0x7FFFFFFF), (5, 1)])).map (fun t => (t.x 3, t.cr, t.xer)) =
      some (0x80000000, 0x90000000, 0xC0000000) := by decide
theorem test_adde_V8 :
    (ran 0x7C642914 (withX { start with xer := 0x20000000 } [(4, 0xFFFFFFFF)])).map (fun t => (t.x 3, t.xer)) =
      some (0, 0x20000000) := by decide
theorem test_addic_rc_V12 : (ran 0x3464FFFF (withX start [(4, 1)])).map (fun t => (t.x 3, t.cr, t.xer)) =
    some (0, 0x20000000, 0x20000000) := by decide
theorem test_subfc_V15 :
    (ran 0x7C642810 (withX { start with xer := 0x20000000 } [(4, 5), (5, 3)])).map (fun t => (t.x 3, t.xer)) =
      some (0xFFFFFFFE, 0) := by decide
theorem test_subfe_V16 : (ran 0x7C642910 start).map (fun t => (t.x 3, t.xer)) = some (0xFFFFFFFF, 0) := by decide
theorem test_subfic_V18 : (ran 0x2064000A (withX start [(4, 0xB)])).map (fun t => (t.x 3, t.xer)) =
    some (0xFFFFFFFF, 0) := by decide
theorem test_nego_rc_V19 : (ran 0x7C6404D1 (withX start [(4, 0x80000000)])).map (fun t => (t.x 3, t.cr, t.xer)) =
    some (0x80000000, 0x90000000, 0xC0000000) := by decide
theorem test_mullwo_rc_V21 :
    (ran 0x7C642DD7 (withX start [(4, 0x10000), (5, 0x10000)])).map (fun t => (t.x 3, t.cr, t.xer)) =
      some (0, 0x30000000, 0xC0000000) := by decide
theorem test_mulhw_V22 :
    (ran 0x7C642896 (withX start [(4, 0xFFFFFFFF), (5, 0xFFFFFFFF), (3, 0xAAAAAAAA)])).map (fun t => t.x 3) =
      some 0 := by decide
theorem test_mulhwu_V23 : (ran 0x7C642816 (withX start [(4, 0xFFFFFFFF), (5, 0xFFFFFFFF)])).map (fun t => t.x 3) =
    some 0xFFFFFFFE := by decide
theorem test_mulli_V24 : (ran 0x1C64FFFD (withX start [(4, 7)])).map (fun t => t.x 3) = some 0xFFFFFFEB := by decide
theorem test_divw_V25 : (ran 0x7C642BD6 (withX start [(4, 0xFFFFFFF9), (5, 2)])).map (fun t => t.x 3) =
    some 0xFFFFFFFD := by decide
theorem test_divwu_V26 : (ran 0x7C642B96 (withX start [(4, 0xFFFFFFF9), (5, 2)])).map (fun t => t.x 3) =
    some 0x7FFFFFFC := by decide
theorem test_andi_rc_V33 : (ran 0x708300FF (withX start [(4, 0x12345680)])).map (fun t => (t.x 3, t.cr)) =
    some (0x80, 0x40000000) := by decide
theorem test_andc_rc_V36 :
    (ran 0x7C832879 (withX start [(4, 0xFF00FF00), (5, 0xFF00FF00), (3, 1)])).map (fun t => (t.x 3, t.cr)) =
      some (0, 0x20000000) := by decide
theorem test_rlwinm_V38 : (ran 0x54830706 (withX start [(4, 0xFFFFFFFF)])).map (fun t => t.x 3) =
    some 0xF000000F := by decide
theorem test_rlwimi_V40 : (ran 0x5083801E (withX start [(3, 0xAAAAAAAA), (4, 0x1234)])).map (fun t => t.x 3) =
    some 0x1234AAAA := by decide
theorem test_rlwnm_V41 : (ran 0x5C83283E (withX start [(4, 0x12345678), (5, 0x24)])).map (fun t => t.x 3) =
    some 0x23456781 := by decide
theorem test_slw_V43 :
    (ran 0x7C832830 (withX start [(3, 0x55555555), (4, 0xFFFFFFFF), (5, 0x20)])).map (fun t => t.x 3) =
      some 0 := by decide
theorem test_sraw_V46 : (ran 0x7C832E30 (withX start [(4, 0x80000000), (5, 0x20)])).map (fun t => (t.x 3, t.xer)) =
    some (0xFFFFFFFF, 0x20000000) := by decide
theorem test_srawi_V49 :
    (ran 0x7C831670 (withX { start with xer := 0x20000000 } [(4, 0xFFFFFFF8)])).map (fun t => (t.x 3, t.xer)) =
      some (0xFFFFFFFE, 0) := by decide
theorem test_srawi_rc_V50 :
    (ran 0x7C830671 (withX { start with xer := 0x20000000 } [(4, 0x80000000)])).map (fun t => (t.x 3, t.cr, t.xer)) =
      some (0x80000000, 0x80000000, 0) := by decide
theorem test_cmpi_V51 : (ran 0x2F83FFFF (withX start [(3, 0xFFFFFFFF)])).map (fun t => t.cr) = some 2 := by decide
theorem test_cmpl_V54 :
    (ran 0x7C032040 (withX { start with xer := 0x80000000 } [(3, 0x80000000), (4, 1)])).map (fun t => t.cr) =
      some 0x50000000 := by decide
theorem test_bl_V57 : (ran 0x4BFFF001 start).map (fun t => (t.lr, t.pc)) = some (0x1004, 0) := by decide
theorem test_ba_V59 : (ran 0x4BFFF002 start).map (fun t => t.pc) = some 0xFFFFF000 := by decide
theorem test_bc_V62 : (ran 0x409EFFF8 start).map (fun t => t.pc) = some 0xFF8 := by decide
theorem test_bc_V65 : (ran 0x42400008 { start with ctr := 0x1 }).map (fun t => (t.ctr, t.pc)) =
    some (0, 0x1008) := by decide
theorem test_bclrl_V71 : (ran 0x4E800021 { start with lr := 0x2000 }).map (fun t => (t.lr, t.pc)) =
    some (0x1004, 0x2000) := by decide
theorem test_bcctrl_V74 :
    (ran 0x4D820421 { start with ctr := 0x3000, cr := 0x20000000 }).map (fun t => (t.lr, t.pc)) =
      some (0x1004, 0x3000) := by decide
theorem test_lbz_V76 :
(ran 0x88640001 (withX (withMem start [(0x2000, [0x80, 0x81, 0xA2, 0xB3, 0xC4, 0xD5, 0xE6, 0xF7])]) [(4, 0x2000),
    (3, 0xFFFFFFFF)])).map (fun t => t.x 3) =
      some 0x81 := by decide
theorem test_lhz_V77 :
(ran 0xA0640000 (withX (withMem start [(0x2000, [0x80, 0x81, 0xA2, 0xB3, 0xC4, 0xD5, 0xE6, 0xF7])]) [(4,
    0x2000)])).map (fun t => t.x 3) =
      some 0x8081 := by decide
theorem test_lha_V78 :
(ran 0xA8640000 (withX (withMem start [(0x2000, [0x80, 0x81, 0xA2, 0xB3, 0xC4, 0xD5, 0xE6, 0xF7])]) [(4,
    0x2000)])).map (fun t => t.x 3) =
      some 0xFFFF8081 := by decide
theorem test_lwz_V81 :
(ran 0x80640001 (withX (withMem start [(0x2000, [0x80, 0x81, 0xA2, 0xB3, 0xC4, 0xD5, 0xE6, 0xF7])]) [(4,
    0x2000)])).map (fun t => t.x 3) =
      some 0x81A2B3C4 := by decide
theorem test_lwzu_V82 :
(ran 0x84640004 (withX (withMem start [(0x2000, [0x80, 0x81, 0xA2, 0xB3, 0xC4, 0xD5, 0xE6, 0xF7])]) [(4,
    0x2000)])).map (fun t => (t.x 3, t.x 4)) =
      some (0xC4D5E6F7, 0x2004) := by decide
theorem test_lhbrx_V85 :
(ran 0x7C642E2C (withX (withMem start [(0x2000, [0x80, 0x81, 0xA2, 0xB3, 0xC4, 0xD5, 0xE6, 0xF7])]) [(4, 0x2000),
    (5, 2)])).map (fun t => t.x 3) =
      some 0xB3A2 := by decide
theorem test_lwbrx_V86 :
(ran 0x7C602C2C (withX (withMem start [(0x2000, [0x80, 0x81, 0xA2, 0xB3, 0xC4, 0xD5, 0xE6, 0xF7])]) [(5,
    0x2000)])).map (fun t => t.x 3) =
      some 0xB3A28180 := by decide
theorem test_sth_V88 :
    (ran 0xB0640002 (withX start [(3, 0x1234ABCD), (4, 0x2000)])).map (fun t => t.mem.readBytes 0x2002 2) =
      some [0xAB, 0xCD] := by decide
theorem test_stw_V90 :
    (ran 0x90640003 (withX start [(3, 0x89ABCDEF), (4, 0x2000)])).map (fun t => t.mem.readBytes 0x2003 4) =
      some [0x89, 0xAB, 0xCD, 0xEF] := by decide
theorem test_stwu_V91 :
    (ran 0x9421FFF0 (withX start [(1, 0x3000)])).map (fun t => (t.x 1, t.mem.readBytes 0x2FF0 4)) =
      some (0x2FF0, [0x00, 0x00, 0x30, 0x00]) := by decide
theorem test_stwbrx_V93 :
    (ran 0x7C642D2C (withX start [(3, 0x89ABCDEF), (4, 0x2000)])).map (fun t => t.mem.readBytes 0x2000 4) =
      some [0xEF, 0xCD, 0xAB, 0x89] := by decide
theorem test_lmw_V96 :
(ran 0xBBA10009 (withX { start with msr := 0xB002 } [(1, 0x3000)])).map (fun t => (t.dar, t.dsisr, t.srr0, t.srr1))
    =
      some (0x3009, 0x1FA1, 0x1000, 0xB002) := by decide
theorem test_stmw_V98 :
(ran 0xBFC40000 (withX start [(4, 0x2000), (30, 0xAAAAAAAA), (31, 0xBBBBBBBB)])).map (fun t => t.mem.readBytes
    0x2000 8) =
      some [0xAA, 0xAA, 0xAA, 0xAA, 0xBB, 0xBB, 0xBB, 0xBB] := by decide
theorem test_lswi_V99 :
(ran 0x7CA434AA (withX (withMem start [(0x2000, [0x41, 0x42, 0x43, 0x44, 0x45, 0x46])]) [(4, 0x2000), (6,
    0xFFFFFFFF)])).map (fun t => (t.x 5, t.x 6)) =
      some (0x41424344, 0x45460000) := by decide
theorem test_lswi_V100 :
(ran 0x7FE42CAA (withX (withMem start [(0x2000, [0x41, 0x42, 0x43, 0x44, 0x45, 0x46])]) [(4, 0x2000)])).map (fun t
    => (t.x 0, t.x 31)) =
      some (0x45000000, 0x41424344) := by decide
theorem test_stswi_V101 :
    (ran 0x7CA41DAA (withX start [(4, 0x2001), (5, 0x41424344)])).map (fun t => t.mem.readBytes 0x2001 3) =
      some [0x41, 0x42, 0x43] := by decide
theorem test_fadd_rc_V103 :
(ran 0xFC22182B (withF start [(2, 0x3FF0000000000000, 0), (3, 0x3C30000000000000, 0)])).map (fun t => (t.f0 1, t.cr,
    t.fpscr)) =
      some (0x3FF0000000000000, 0x8000000, 0x82024000) := by decide
theorem test_fadds_V105 :
(ran 0xEC22182A (withF start [(2, 0x3FF0000000000000, 0), (3, 0x3E78000000000000, 0)])).map (fun t => (t.f0 1,
    t.fpscr)) =
      some (0x3FF0000020000000, 0x82064000) := by decide
theorem test_fsub_V111 :
(ran 0xFC221828 (withF { start with fpscr := 0x80 } [(1, 0x3FF0000000000000, 0), (2, 0x7FF0000000000000, 0), (3,
    0x7FF0000000000000, 0)])).map (fun t => t.fpscr) =
      some 0xE0800080 := by decide
theorem test_fsub_V112 :
(ran 0xFC221828 (withF { start with fpscr := 0x80, msr := 0x2900 } [(1, 0x3FF0000000000000, 0), (2,
    0x7FF0000000000000, 0), (3, 0x7FF0000000000000, 0)])).map (fun t => (t.fpscr, t.srr0, t.srr1, t.msr)) =
      some (0xE0800080, 0x1000, 0x102900, 0) := by decide
theorem test_fadd_V114 :
(ran 0xFC22182A (withF start [(2, 0x3FF0000000000000, 0), (3, 0xFFF8000000001234, 0)])).map (fun t => (t.f0 1,
    t.fpscr)) =
      some (0xFFF8000000001234, 0x11000) := by decide
theorem test_fmul_V115 :
    (ran 0xFC2200F2 (withF start [(2, 0x7FF0000000000000, 0), (3, 0, 0)])).map (fun t => (t.f0 1, t.fpscr)) =
      some (0x7FF8000000000000, 0xA0111000) := by decide
theorem test_fdiv_V118 :
(ran 0xFC221824 (withF { start with fpscr := 0x10 } [(2, 0xBFF0000000000000, 0), (3, 0, 0), (1, 0x4000000000000000,
    0)])).map (fun t => t.fpscr) =
      some 0xC4000010 := by decide
theorem test_fdiv_V119 : (ran 0xFC221824 (withF start [(2, 0, 0), (3, 0, 0)])).map (fun t => (t.f0 1, t.fpscr)) =
    some (0x7FF8000000000000, 0xA0211000) := by decide
theorem test_fdivs_V120 :
(ran 0xEC221824 (withF start [(2, 0x3FF0000000000000, 0), (3, 0x4008000000000000, 0)])).map (fun t => (t.f0 1,
    t.fpscr)) =
      some (0x3FD5555560000000, 0x82064000) := by decide
theorem test_fmadds_V122 :
(ran 0xEC2220FA (withF start [(2, 0x3FF0010000000000, 0), (3, 0x3FF0010000000000, 0), (4, 0xBFF0020000000000,
    0)])).map (fun t => (t.f0 1, t.fpscr)) =
      some (0x3E70000000000000, 0x4000) := by decide
theorem test_frsp_V123 :
    (ran 0xFC201018 (withF start [(2, 0x3FF0000000400000, 0)])).map (fun t => (t.f0 1, t.fpscr)) =
      some (0x3FF0000000000000, 0x82024000) := by decide
theorem test_fsel_V125 :
(ran 0xFC2220EE (withF start [(2, 0x8000000000000000, 0), (3, 0x3FF0000000000000, 0), (4, 0x4000000000000000,
    0)])).map (fun t => t.f0 1) =
      some 0x3FF0000000000000 := by decide
theorem test_fcmpu_V133 :
    (ran 0xFC021800 (withF start [(2, 0, 0), (3, 0x8000000000000000, 0)])).map (fun t => (t.cr, t.fpscr)) =
      some (0x20000000, 0x2000) := by decide
theorem test_fcmpu_V135 :
(ran 0xFF821800 (withF start [(2, 0x3FF0000000000000, 0), (3, 0x7FF4000000000000, 0)])).map (fun t => (t.cr,
    t.fpscr)) =
      some (1, 0xA1001000) := by decide
theorem test_lfs_V138 :
(ran 0xC0240000 (withF (withX (withMem pairedOn [(0x2000, [0x3F, 0xC0, 0x00, 0x00])]) [(4, 0x2000)]) [(1, 0,
    0x4000000000000000)])).map (fun t => (t.f0 1, t.f1 1)) =
      some (0x3FF8000000000000, 0x3FF8000000000000) := by decide
theorem test_lfs_V139 :
(ran 0xC0240000 (withX (withMem start [(0x2000, [0x00, 0x00, 0x00, 0x01])]) [(4, 0x2000)])).map (fun t => t.f0 1) =
      some 0x36A0000000000000 := by decide
theorem test_lfd_V141 :
(ran 0xC8240004 (withX (withMem start [(0x2004, [0x40, 0x09, 0x21, 0xFB, 0x54, 0x44, 0x2D, 0x18])]) [(4,
    0x2000)])).map (fun t => t.f0 1) =
      some 0x400921FB54442D18 := by decide
theorem test_lfsu_V143 :
    (ran 0xC4240002 (withX start [(4, 0x2000)])).map (fun t => (t.dar, t.dsisr, t.srr0, t.srr1)) =
      some (0x2002, 0x6024, 0x1000, 0x2000) := by decide
theorem test_stfs_V145 :
(ran 0xD0240000 (withF (withX start [(4, 0x2000)]) [(1, 0x36A0000000000000, 0)])).map (fun t => t.mem.readBytes
    0x2000 4) =
      some [0x00, 0x00, 0x00, 0x01] := by decide
theorem test_stfs_V146 :
(ran 0xD0240000 (withF (withX start [(4, 0x2000)]) [(1, 0x3FF0000000400000, 0)])).map (fun t => t.mem.readBytes
    0x2000 4) =
      some [0x3F, 0x80, 0x00, 0x00] := by decide
theorem test_stfd_V148 :
(ran 0xD8240000 (withF (withX start [(4, 0x2000)]) [(1, 0x400921FB54442D18, 0)])).map (fun t => t.mem.readBytes
    0x2000 8) =
      some [0x40, 0x09, 0x21, 0xFB, 0x54, 0x44, 0x2D, 0x18] := by decide
theorem test_stfiwx_V149 :
(ran 0x7C242FAE (withF (withX start [(4, 0x2000), (5, 4)]) [(1, 0xFFF8000000000064, 0)])).map (fun t =>
    t.mem.readBytes 0x2004 4) =
      some [0x00, 0x00, 0x00, 0x64] := by decide
theorem test_mtspr_V152 : (ran 0x7C6103A6 (withX start [(3, 0xE000007F)])).map (fun t => t.xer) =
    some 0xE000007F := by decide
theorem test_mtspr_V154 : (ran 0x7C7043A6 (withX start [(3, 0x12345678)])).map (fun t => t.sprg.get 0) =
    some 0x12345678 := by decide
theorem test_mfspr_V156 : (ran 0x7C69C2A6 start).map (fun t => (t.srr0, t.srr1, t.msr, t.pc)) =
    some (0x1000, 0x82000, 0, 0x700) := by decide
theorem test_mfspr_V158 :
    (ran 0x7C70FAA6 { start with msr := 0x6000 }).map (fun t => (t.srr0, t.srr1, t.msr, t.pc)) =
      some (0x1000, 0x46000, 0, 0x700) := by decide
theorem test_mtcrf_V161 :
    (ran 0x7C681120 (withX { start with cr := 0x11111111 } [(3, 0xA5A5A5A5)])).map (fun t => t.cr) =
      some 0xA1111115 := by decide
theorem test_mcrf_V162 : (ran 0x4C1C0000 { start with cr := 0x10000008 }).map (fun t => t.cr) =
    some 0x80000008 := by decide
theorem test_crxor_V163 : (ran 0x4CC63182 { start with cr := 0xFFFFFFFF }).map (fun t => t.cr) =
    some 0xFDFFFFFF := by decide
theorem test_cror_V164 : (ran 0x4C011382 { start with cr := 0x20000000 }).map (fun t => t.cr) =
    some 0xA0000000 := by decide
theorem test_mtfsf_V168 : (ran 0xFDFE158E (withF start [(2, 0xFFF80000FFFFFFFF, 0)])).map (fun t => t.fpscr) =
    some 0xFFFFF7FF := by decide
theorem test_mtfsb1_V172 : (ran 0xFC60004C { start with fpscr := 0x40 }).map (fun t => t.fpscr) =
    some 0xD0000040 := by decide
theorem test_mtfsb0_V174 : (ran 0xFCC0008C { start with fpscr := 0xC2000008 }).map (fun t => t.fpscr) =
    some 0x80000008 := by decide
theorem test_mcrfs_V175 : (ran 0xFD040080 { start with fpscr := 0x82000000 }).map (fun t => (t.cr, t.fpscr)) =
    some (0x200000, 0x80000000) := by decide
theorem test_mcrfs_V176 : (ran 0xFC000080 { start with fpscr := 0xF0000140 }).map (fun t => (t.cr, t.fpscr)) =
    some (0xF0000000, 0x20000140) := by decide
theorem test_sc_V181 : (did 0x44000002 { start with msr := 0xB032 }).map (fun t => (t.srr0, t.srr1, t.msr, t.pc)) =
    some (0x1004, 0xB032, 0x1000, 0xC00) := by decide
theorem test_rfi_V184 :
    (ran 0x4C000064 { start with srr0 := 0x3004, srr1 := 0xFFFEFFFE, msr := 0 }).map (fun t => (t.msr, t.pc)) =
      some (0xFF76, 0x3004) := by decide
theorem test_rfi_V186 :
    (ran 0x4C000064 { start with srr0 := 0x3004, msr := 0x4000 }).map (fun t => (t.srr0, t.srr1, t.msr, t.pc)) =
      some (0x1000, 0x44000, 0, 0x700) := by decide
theorem test_mtmsr_V188 : (ran 0x7C600124 (withX start [(3, 0xFFFAB032)])).map (fun t => t.msr) =
    some 0xB032 := by decide
theorem test_mtmsr_V189 :
    (ran 0x7C600124 { start with msr := 0x4000 }).map (fun t => (t.srr0, t.srr1, t.msr, t.pc)) =
      some (0x1000, 0x44000, 0, 0x700) := by decide
theorem test_tw_V190 :
    (ran 0x7C832008 (withX start [(3, 7), (4, 7)])).map (fun t => (t.srr0, t.srr1, t.msr, t.pc)) =
      some (0x1000, 0x22000, 0, 0x700) := by decide
theorem test_twi_V193 :
    (ran 0x0E030000 (withX start [(3, 0xFFFFFFFF)])).map (fun t => (t.srr0, t.srr1, t.msr, t.pc)) =
      some (0x1000, 0x22000, 0, 0x700) := by decide
theorem test_twi_V194 : (ran 0x0C23FFFF (withX start [(3, 0xFFFFFFFE)])).map (fun t => t.pc) =
    some 0x1004 := by decide
theorem test_ps_add_V199 :
    (ran 0x1022182A { pairedOn with msr := 0 }).map (fun t => (t.srr0, t.srr1, t.msr, t.pc)) =
      some (0x1000, 0, 0, 0x800) := by decide
theorem test_ps_add_V201 : (ran 0x1022182A pairedStart).map (fun t => (t.f0 1, t.f1 1, t.fpscr)) =
    some (0x4010000000000000, 0x4018000000000000, 0x4000) := by decide
theorem test_ps_madd_V202 : (ran 0x102220FA pairedStart).map (fun t => (t.f0 1, t.f1 1, t.fpscr)) =
    some (0x400C000000000000, 0x401C000000000000, 0x4000) := by decide
theorem test_ps_muls0_V203 : (ran 0x102200D8 pairedStart).map (fun t => (t.f0 1, t.f1 1, t.fpscr)) =
    some (0x4008000000000000, 0x4018000000000000, 0x4000) := by decide
theorem test_ps_madds0_V205 : (ran 0x102220DC pairedStart).map (fun t => (t.f0 1, t.f1 1, t.fpscr)) =
    some (0x400C000000000000, 0x4014000000000000, 0x4000) := by decide
theorem test_ps_sum0_V206 : (ran 0x102220D4 pairedStart).map (fun t => (t.f0 1, t.f1 1, t.fpscr)) =
    some (0, 0x4010000000000000, 0x2000) := by decide
theorem test_ps_sum1_V207 : (ran 0x102220D6 pairedStart).map (fun t => (t.f0 1, t.f1 1, t.fpscr)) =
    some (0x4008000000000000, 0, 0x2000) := by decide
theorem test_ps_merge01_V209 : (ran 0x10221C60 pairedStart).map (fun t => (t.f0 1, t.f1 1)) =
    some (0x3FF0000000000000, 0x4010000000000000) := by decide
theorem test_ps_div_V211 :
(ran 0x10221824 (withF pairedOn [(2, 0x3FF0000000000000, 0x3FF0000000000000), (3, 0x4010000000000000, 0)])).map (fun
    t => (t.f0 1, t.f1 1, t.fpscr)) =
      some (0x3FD0000000000000, 0x7FF0000000000000, 0x84004000) := by decide
theorem test_fadds_V212 :
(ran 0xEC22182A (withF pairedOn [(2, 0x3FF0000000000000, 0), (3, 0x4000000000000000, 0), (1, 0,
    0x4022000000000000)])).map (fun t => (t.f0 1, t.f1 1, t.fpscr)) =
      some (0x4008000000000000, 0x4008000000000000, 0x4000) := by decide
theorem test_psq_l_V214 :
(ran 0xE0232010 (withX (withMem { pairedOn with gqr := start.gqr.set 2 0x07070707 } [(0x2010, [0xFF, 0x80, 0x01,
    0x00])]) [(3, 0x2000)])).map (fun t => (t.f0 1, t.f1 1)) =
      some (0xBFF0000000000000, 0x4000000000000000) := by decide
theorem test_psq_st_V220 :
(ran 0xF0232010 (withF (withX { pairedOn with gqr := start.gqr.set 2 0x07070707 } [(3, 0x2000)]) [(1,
    0xBFF0000000000000, 0x4072C00000000000)])).map (fun t => t.mem.readBytes 0x2010 4) =
      some [0xFF, 0x80, 0x7F, 0xFF] := by decide
theorem test_psq_st_V221 :
(ran 0xF0231000 (withF (withX (withMem { pairedOn with gqr := start.gqr.set 1 0x00000004 } [(0x2000, [0xFF, 0xFF])])
    [(3, 0x2000)]) [(1, 0xC008000000000000, 0x3FFC000000000000)])).map (fun t => t.mem.readBytes 0x2000 2) =
      some [0x00, 0x01] := by decide
theorem test_illegal_V226 :
    (did 0x00000000 { start with msr := 0x3032 }).map (fun t => (t.srr0, t.srr1, t.msr, t.pc)) =
      some (0x1000, 0x83032, 0x1000, 0x700) := by decide
theorem test_illegal_V231 : (ran 0x7C0007FE start).map (fun t => (t.srr0, t.srr1, t.msr, t.pc)) =
    some (0x1000, 0x82000, 0, 0x700) := by decide
theorem test_extsb_rc_V235 : (ran 0x7C830775 (withX start [(4, 0x12345680)])).map (fun t => (t.x 3, t.cr)) =
    some (0xFFFFFF80, 0x80000000) := by decide
theorem test_cntlzw_V238 : (ran 0x7C830034 (withX start [(4, 0x10000)])).map (fun t => t.x 3) =
    some 0xF := by decide
theorem test_mcrxr_V239 : (ran 0x7D800400 { start with xer := 0xE000007F }).map (fun t => (t.cr, t.xer)) =
    some (0xE0000, 0x7F) := by decide
theorem test_lwarx_V240 :
(ran 0x7C602028 (withX (withMem start [(0x2000, [0x00, 0x00, 0x00, 0x05])]) [(4, 0x2000)])).map (fun t => (t.x 3,
    t.reserve)) =
      some (5, true) := by decide
theorem test_stwcx_rc_V241 :
(ran 0x7C60212D (withX (withMem { start with reserve := true, reserveAddr := 0x2000 } [(0x2000, [0x00, 0x00, 0x00,
    0x05])]) [(3, 6), (4, 0x2000)])).map (fun t => (t.cr, t.reserve, t.mem.readBytes 0x2000 4)) =
      some (0x20000000, false, [0x00, 0x00, 0x00, 0x06]) := by decide
theorem test_stwcx_rc_V242 :
(ran 0x7C60212D (withX (withMem { start with xer := 0x80000000 } [(0x2000, [0x00, 0x00, 0x00, 0x05])]) [(3, 6), (4,
    0x2000)])).map (fun t => t.cr) =
      some 0x10000000 := by decide
theorem test_lwz_V246 :
(ran 0x80640000 (withX (withMem { start with msr := 0x10, sdr1 := 0x100000, sr := start.sr.set 0 0x123 } [(0x5454,
    [0x01, 0x02, 0x03, 0x04]), (0x104800, [0x80, 0x00, 0x91, 0x80, 0x00, 0x00, 0x50, 0x02])]) [(4, 0x3454)])).map
    (fun t => (t.x 3, t.mem.readBytes 0x104804 4)) =
      some (0x1020304, [0x00, 0x00, 0x51, 0x02]) := by decide
theorem test_stw_V247 :
(ran 0x90640000 (withX (withMem { start with msr := 0x10, sdr1 := 0x100000, sr := start.sr.set 0 0x123 } [(0x5454,
    [0x01, 0x02, 0x03, 0x04]), (0x104800, [0x80, 0x00, 0x91, 0x80, 0x00, 0x00, 0x50, 0x02])]) [(4, 0x3454), (3,
    0xAABBCCDD)])).map (fun t => (t.mem.readBytes 0x5454 4, t.mem.readBytes 0x104804 4)) =
      some ([0xAA, 0xBB, 0xCC, 0xDD], [0x00, 0x00, 0x51, 0x82]) := by decide
theorem test_cmpi_V55 : stopped 0x2C230000 start = some .invalidForm := by decide
theorem test_bcctr_V75 : stopped 0x4E000420 { start with ctr := 0x3000 } = some .invalidForm := by decide
theorem test_lwzu_V83 : stopped 0x84840004 (withX (withMem start [(0x2000, [0x80, 0x81, 0xA2, 0xB3, 0xC4, 0xD5,
    0xE6, 0xF7])]) [(4, 0x2000)]) = some .invalidForm := by decide
theorem test_stwu_V92 : stopped 0x94600004 start = some .invalidForm := by decide
theorem test_lmw_V97 : stopped 0xB8640000 (withX start [(4, 0x3000)]) = some .invalidForm := by decide
theorem test_psq_l_V219 : stopped 0xE0231000 (withX { pairedOn with gqr := start.gqr.set 1 0x00010000 } [(3,
    0x2000)]) = some .quantizedType := by decide
theorem test_reserved_V234 : stopped 0x7C0004AD start = some .reservedBits := by decide

/-! ### Points the reviews named -/

/-- R108: an aligned store to a device with I = G = 1 is performed once, and no memory changes. -/
theorem test_device_store_once :
    let s : State := withX { State.reset with
      msr := 0x00000050
      dbat := State.reset.dbat.set 0 ⟨0x80001FFF, 0x0000002A⟩
      params := { Params.initial with memMap := [⟨0, 0x1000, .device⟩] } } [(4, 0x80000FFC)]
    (did 0x90840000 s).map (fun t => (t.bus, t.mem)) = some ([⟨true, 0xFFC, [0x80, 0, 0x0F, 0xFC]⟩], []) := by decide
/-- R674, R770: the second access of `psq_st` raises DSI, and the first has stored nothing. -/
theorem test_psq_st_stores_nothing_on_dsi :
    let s : State := withX { pairedStart with
      msr := 0x00002010
      dbat := State.reset.dbat.set 0 ⟨0x80001FFF, 2⟩ } [(4, 0x8FFFFFFC)]
    (did (encode (.psq_st 2 4 false 0 0)) s).map (fun t => (t.pc, t.dar, t.mem)) = some (0x300, 0x90000000, []) := by decide
/-- D19, U6: `mftb` of an unknown number whose bit 4 is 1. -/
theorem test_mftb_privileged :
    (did (encode (.mftb 3 1023)) { start with msr := 0x4000 }).map (fun t => (t.pc, t.srr1)) = some (0x700, 0x00044000) ∧
    (did (encode (.mftb 3 1023)) start).map (·.srr1) = some 0x00082000 := by decide
/-- R60: HID4 holds all 32 bits; R562 names no refusal of the write. -/
theorem test_mtspr_hid4 :
    (did (encode (.mtspr 3 1011)) (withX { start with params := { Params.initial with part := .broadway } }
      [(3, 0x12345678)])).map (fun t => (t.hid4, t.pc)) = some (0x12345678, 0x1004) := by decide
/-- R140, R144: without the instruction cache `dcbst`, `sync` and `isync` make a store visible to the fetch. -/
theorem test_fresh_without_instruction_cache :
    let after (i : Instr) (s : Option State) : Option State := s.bind (did (encode i))
    let stored := did (encode (.stw 3 4 0)) (withX start [(3, 1), (4, 0x2000)])
    stored.map (·.stale.length) = some 1 ∧
    (after .isync (after .sync (after (.dcbst 0 4) stored))).map (·.stale) = some [] := by decide
/-- R862: one `isync` makes ICFI effective, and a cleared ICE: a store that reached memory is seen by the fetches after it. -/
theorem test_fresh_after_hid0 :
    let after (i : Instr) (s : Option State) : Option State := s.bind (did (encode i))
    let ready := after .sync (after (.dcbst 0 4) (did (encode (.stw 3 4 0))
      (withX { start with hid0 := 0x8000 } [(3, 1), (4, 0x2000), (5, 0x8800), (6, 0)])))
    (after .isync ready).map (·.stale.length) = some 1 ∧
    (after (.mtspr 5 1008) ready).map (·.stale.length) = some 1 ∧
    (after .isync (after (.mtspr 5 1008) ready)).map (·.stale) = some [] ∧
    (after .isync (after (.mtspr 6 1008) ready)).map (·.stale) = some [] := by decide
/-- R116: two matching entries of the secondary group that disagree are refused though a primary one matches. -/
theorem test_secondary_conflict :
    let entry (h page : Word) : List Byte := wordBytes (0x80009180 ||| h) ++ wordBytes (page ||| 2)
    stopped 0x80640000 (withX (withMem { start with msr := 0x10, sdr1 := 0x100000, sr := start.sr.set 0 0x123 }
      [(0x104800, entry 0 0x5000), (0x10B7C0, entry 0x40 0x5000), (0x10B7C8, entry 0x40 0x6000)]) [(4, 0x3454)]) =
      some .pteConflict := by decide
/-- R860 (f): a caching-inhibited store to one word and a cached store to another of the block; `dcbf` and `sync` may write
the cache's older copy over the first, so what the block holds is drawn. -/
theorem test_mixed_block :
    let s : State := withX { start with
      msr := 0x00000010
      hid0 := 0x00004000
      dbat := (start.dbat.set 0 ⟨0x80001FFF, 0x00000002⟩).set 1 ⟨0x90001FFF, 0x00000022⟩ } [(3, 1), (4, 0x90000100), (5, 0x80000104)]
    let after (i : Instr) (s : Option State) : Option State := s.bind (did (encode i))
    let stored := after (.stw 3 5 0) (did (encode (.stw 3 4 0)) s)
    stored.map (fun t => t.dirty.map fun e => (e.word, e.cached, e.mixed)) = some [(0x41, true, true), (0x40, true, true)] ∧
    (after .sync (after (.dcbf 0 5) stored)).map (fun t => (t.draws, t.dirty)) = some (2, []) := by decide

/-! ### Witnesses: states and operands that meet the hypotheses of the statements -/

/-- The reset state with FP = 1. -/
def fpOn : State := { State.reset with msr := 0x00002040 }
/-- The reset state in user mode, FP = 1. -/
def user : State := { State.reset with msr := 0x00006040 }
/-- The reset state with FP, PSE and LSQE on. -/
def quantizedOn : State := { fpOn with hid2 := 0xA0000000 }
/-- The reset state with parameters of one's own. -/
def withParams (p : Params) : State := { State.reset with params := p }
/-- The reset state with `li r3,5` at the reset vector. -/
def placed : State := State.reset.withFetchWord 32 0x38600005
/-- 1.0, 2.0, infinities, a quiet and a signalling NaN. -/
def one : Lane := 0x3FF0000000000000
def two : Lane := 0x4000000000000000
def inf : Lane := 0x7FF0000000000000
def negInf : Lane := 0xFFF0000000000000
def qnan : Lane := 0x7FF8000000000000
def snan : Lane := 0x7FF0000000000001

theorem witness_DecodeEncode : (Instr.lmw 31 30 0xFFFF).wellFormed = true ∧ (Instr.bcctr 20 31 true).wellFormed = true := by
  decide
theorem witness_IllegalOpcodes_words :
    State.reset.msrIle = false ∧ opcd 0x08000000 = 2 ∧ opcd 0x58000000 = 22 ∧
    (opcd 0x44000000 = 17 ∧ (0x44000000 : Word).getLsbD 1 = false) ∧
    (opcd 0x10000002 = 4 ∧ xo5 0x10000002 = 1 ∧ xo6 0x10000002 = 1 ∧ xo10 0x10000002 = 1) ∧
    (opcd 0x4C0007FE = 19 ∧ xo10 0x4C0007FE = 1023) ∧
    (opcd 0x7C0007FE = 31 ∧ xo10 0x7C0007FE = 1023 ∧ xo9 0x7C0007FE = 511) ∧
    (opcd 0xEC000000 = 59 ∧ xo5 0xEC000000 = 0) ∧ (opcd 0xFC000002 = 63 ∧ xo5 0xFC000002 = 1 ∧ xo10 0xFC000002 = 1) := by
  decide
theorem witness_IllegalOpcodes_supplement :
    isSupplement (.mcrxr 7) = true ∧ (withParams { Params.initial with supplement := false }).params.supplement = false := by
  decide
theorem witness_StepRunsDecoded_ready : placed.ready := ⟨⟨rfl, rfl, rfl, rfl⟩, rfl, rfl⟩
theorem witness_StepRunsDecoded_memory :
    placed.translate .fetch placed.pc = .mapped ⟨0xFFF00100, 1, none⟩ ∧
    (∀ j < 4, placed.params.kindAt (byteAt 0xFFF00100 j) = .ram) ∧
    (∀ e ∈ placed.stale, e.word ≠ 0xFFF00100 / 4) ∧
    classify (wordOfBytes (placed.mem.read (byteAt 0xFFF00100 0)) (placed.mem.read (byteAt 0xFFF00100 1))
      (placed.mem.read (byteAt 0xFFF00100 2)) (placed.mem.read (byteAt 0xFFF00100 3))) = .instr (.addi 3 0 5) :=
  ⟨rfl, by decide, by simp [show placed.stale = [] from rfl], by decide⟩
theorem witness_StepRunsDecoded_rom :
    ∀ j < 4, (withParams { Params.initial with memMap := [⟨0xFFF00000, 0x100000, .rom⟩] }).params.kindAt
      (byteAt 0xFFF00100 j) = .rom := by
  decide
theorem witness_StepRunsDecoded_fetch :
    placed.fetch = .ok 0x38600005 placed ∧ classify 0x38600005 = .instr (.addi 3 0 5) := ⟨rfl, by decide⟩
theorem witness_ExceptionEntry :
    State.reset.msr.getLsbD 16 = false ∧ ({ State.reset with msr := 0x00010040 } : State).msr.getLsbD 16 = true := by decide
theorem witness_SystemCall : State.reset.msrIle = false := by decide
theorem witness_ReturnFromInterrupt_returns :
    let s : State := { State.reset with srr1 := 0x0000B072 }
    s.msrPr = false ∧ s.srr1.getLsbD 0 = false ∧ fexOf s.fpscr = false := by decide
theorem witness_ReturnFromInterrupt_littleEndian :
    let s : State := { State.reset with srr1 := 1 }
    s.msrPr = false ∧ s.srr1.getLsbD 0 = true := by decide
theorem witness_ReturnFromInterrupt_enabled :
    let s : State := { State.reset with srr1 := 0x00000800, fpscr := 0x61000080 }
    s.msrPr = false ∧ s.msrIle = false ∧ s.srr1.getLsbD 0 = false ∧ fexOf s.fpscr = true ∧ s.srr1.getLsbD 11 = true := by
  decide
theorem witness_ReturnFromInterrupt_undoes :
    State.reset.pcAligned ∧ State.reset.msrLegal ∧ fexOf State.reset.fpscr = false := by
  unfold State.pcAligned State.msrLegal; decide
theorem witness_Traps :
    let s := withX State.reset [(3, 0x80000000), (4, 0x7FFFFFFF)]
    s.msrIle = false ∧ s.msrSe = false ∧ trapCond 16 (s.x 3) (s.x 4) = true ∧ trapCond 2 (s.x 3) (s.x 4) = false := by
  decide
theorem witness_PrivilegedInUserMode :
    isPrivileged .rfi = true ∧ isPrivileged (.mtspr 3 1023) = true ∧ isPrivileged .tlbia = true ∧ user.msrPr = true ∧
    user.msrIle = false ∧ ({ user with params := { Params.initial with hasTlbia := true } } : State).params.hasTlbia = true := by
  decide
theorem witness_FpUnavailable :
    State.reset.msrFp = false ∧ State.reset.msrIle = false ∧ (scalarArithmetic (.fadd 1 2 3 true)).isSome = true ∧
    isSquareRoot (.fadd 1 2 3 true) = false ∧ isSquareRoot (.fsqrt 1 2 true) = true ∧
    (withParams { Params.initial with hasFsqrt := true }).params.hasFsqrt = true ∧ isScalarOther (.mffs 1 false) = true ∧
    isPaired (.ps_add 1 2 3 false) = true ∧ isQuantized (.psq_l 1 2 true 7 0) = true ∧
    ({ State.reset with hid2 := 0xA0000000 } : State).pse = true ∧
    ({ State.reset with hid2 := 0xA0000000 } : State).lsqe = true := by decide
theorem witness_GatedInstructionsIllegal :
    State.reset.msrIle = false ∧ isPaired (.ps_mr 1 2 false) = true ∧ State.reset.pse = false ∧
    isQuantized (.psq_st 1 2 true 7 0) = true ∧ ({ State.reset with hid2 := 0x20000000 } : State).lsqe = false ∧
    State.reset.lce = false ∧ State.reset.params.hasFsqrt = false ∧ State.reset.params.hasTlbia = false := by decide
theorem witness_UnknownSprIllegal :
    State.reset.msrIle = false ∧ State.reset.msrPr = false ∧ user.msrPr = true ∧ (1023 : BitVec 10).getLsbD 4 = true ∧
    user.msrIle = false ∧ (1023 : BitVec 10) ≠ 268 ∧ (1023 : BitVec 10) ≠ 269 ∧ (777 : BitVec 10).getLsbD 4 = false ∧ State.reset.params.part = .gekko ∧ (1023 : BitVec 10).toNat = 1023 := by decide
theorem witness_EnabledFpException_taken :
    let s := withF { fpOn with msr := 0x00002940, fpscr := 0x00000080 } [(2, inf, 0), (3, inf, 0)]
    scalarArithmetic (.fsub 1 2 3 true) = some (1, true) ∧ s.msrFp = true ∧ s.msrFe = true ∧ s.msrIle = false ∧ niOf s.fpscr = false ∧
    (nextOf (exec (.fsub 1 2 3 true) s.untrapped)).map (fun u => u.fpscr.getLsbD 30) = some true := by decide
theorem witness_EnabledFpException_not_taken :
    let s := withF { fpOn with msr := 0x00002940, fpscr := 0x00000080 } [(2, one, 0), (3, two, 0)]
    s.msrSe = false ∧ (nextOf (exec (.fsub 1 2 3 true) s.untrapped)).map (fun u => u.fpscr.getLsbD 30) = some false := by
  decide
theorem witness_TraceException :
    ({ State.reset with msr := 0x00000440 } : State).msrSe = true ∧ ({ State.reset with msr := 0x00000240 } : State).msrBe = true ∧
    ({ State.reset with msr := 0x00000640 } : State).msrIle = false := by decide
theorem witness_AlignmentException :
    let s := withX fpOn [(4, 0xFFFFFFFF), (5, 2)]
    s.msrIle = false ∧ s.msrFp = true ∧ s.dce = false ∧ (s.x 4 + (0 : BitVec 16).signExtend 32).toNat % 4 = 3 ∧
    (s.x 4 + s.x 5).toNat % 4 = 1 ∧ ((0 : Word) + (0xFFFE : BitVec 16).signExtend 32).toNat % 4 = 2 := by decide
theorem witness_InstructionBreakpoint_matches :
    let s : State := { State.reset with iabr := 0xFFF00102 }
    s.atBoundary .running ∧ s.msrIle = false ∧ (s.acting true .iabr).getLsbD 1 = true ∧
    (s.acting true .iabr).extractLsb' 2 30 = s.pc.extractLsb' 2 30 ∧ (s.acting true .iabr).getLsbD 0 = s.msrIr :=
  ⟨⟨rfl, rfl, rfl, rfl⟩, by decide⟩
/-- Broadway is at a boundary too while HID4 holds no bit but SBE. -/
theorem witness_atBoundary_broadway :
    ({ State.reset with params := { Params.initial with part := .broadway }, hid4 := 0x02000000 } : State).atBoundary .running :=
  ⟨rfl, rfl, rfl, rfl⟩
theorem witness_InstructionBreakpoint_interrupt :
    State.reset.interrupt = none ∧ ({ State.reset with iabr := 0xFFF00102 } : State).interrupt = none := ⟨rfl, rfl⟩
theorem witness_InstructionBreakpoint_other :
    (State.reset.acting true .iabr).getLsbD 1 = false ∧
    (({ State.reset with iabr := 0xFFF00103 } : State).acting true .iabr).getLsbD 0 = true := by decide
/-- Instruction and data addresses translated by one block whose lower half is given; x4 holds the last word of its first
page, pc the first. -/
def blockState (lower : Word) : State :=
  withX { State.reset with
    msr := 0x00000070
    pc := 0x80000000
    ibat := State.reset.ibat.set 0 ⟨0x80001FFF, lower⟩
    dbat := State.reset.dbat.set 0 ⟨0x80001FFF, lower⟩ } [(4, 0x80000FFC)]
/-- Translation on, segment register 15 and an entry for the last page of memory given. -/
def pageState (seg w1 : Word) : State :=
  withMem { State.reset with msr := 0x00000070, pc := 0xFFFFFFFC, sr := State.reset.sr.set 15 seg }
    [(0xFFC0, wordBytes 0x8000003F ++ wordBytes w1)]
/-- The same without an entry. -/
def emptyTable (seg : Word) : State :=
  { State.reset with msr := 0x00000070, pc := 0xFFFFFFFC, sr := State.reset.sr.set 15 seg }
theorem witness_InstructionBreakpoint_block :
    let s := blockState 0x00000008
    s.msrIr = true ∧ (s.bats .fetch).filter (fun b => b.covers (s.userFor true) s.pc) = [⟨0x80001FFF, 8⟩] ∧
    (⟨0x80001FFF, 8⟩ : Bat).wellFormed = true ∧ (⟨0x80001FFF, 8⟩ : Bat).lower.getLsbD 3 = true ∧
    ((blockState 0).bats .fetch).filter (fun b => b.covers ((blockState 0).userFor true) (blockState 0).pc) =
      [⟨0x80001FFF, 0⟩] ∧ (⟨0x80001FFF, 0⟩ : Bat).wellFormed = true := by decide
theorem witness_InstructionBreakpoint_segment :
    let s := emptyTable 0x10000000
    s.msrIr = true ∧ (s.bats .fetch).filter (fun b => b.covers (s.userFor true) s.pc) = [] ∧
    (s.acting true (.sr 15)).getLsbD 31 = false ∧ (s.acting true (.sr 15)).getLsbD 28 = true := by decide
theorem witness_pages_empty : (emptyTable 0).tableReady 0 0 0xFFFFFFFC ∧ (emptyTable 0).noEntry 0 0 0xFFFFFFFC := by
  unfold State.tableReady State.tableSettled State.allOf State.noEntry State.hasEntry; decide
theorem witness_pages_one (w1 : Word) (h : w1 = 0x00001002 ∨ w1 = 0x00001000 ∨ w1 = 0x00001008) :
    let s := pageState 0x40000000 w1
    s.tableReady 0 0x40000000 0xFFFFFFFC ∧ s.onlyEntry 0 0x40000000 0xFFFFFFFC 0xFFC0 ∧ s.wordAt 0xFFC4 = w1 := by
  unfold State.tableReady State.tableSettled State.allOf State.onlyEntry State.hasEntry
  rcases h with rfl | rfl | rfl <;>
    exact ⟨by decide, ⟨false, 0, by decide, by decide, by decide, by decide⟩, by decide⟩
theorem witness_pages_acting :
    let s := pageState 0x40000000 0x00001000
    s.msrIr = true ∧ s.msrDr = true ∧ s.msrIle = false ∧ s.acting true (.sr 15) = 0x40000000 ∧
    s.acting false (.sr 15) = 0x40000000 ∧ s.acting true .sdr1 = 0 ∧ s.acting false .sdr1 = 0 ∧ s.userFor true = false ∧
    (s.bats .fetch).filter (fun b => b.covers (s.userFor true) s.pc) = [] ∧
    (s.bats .load).filter (fun b => b.covers s.msrPr 0xFFFFFFFC) = [] := by decide
theorem witness_DataStorage_page :
    let s := pageState 0x40000000 0x00001002
    s.msrSe = false ∧ s.unwatched ∧ (0xFFFFFFFC : Word).toNat % 4096 = 4092 ∧ s.allOf .ram 0x00001FFC 4 ∧
    s.unmixed 0x00001FFC 4 0 := by unfold State.unwatched State.allOf State.unmixed; decide
theorem witness_DataStorage_block :
    let s := blockState 2
    s.msrIle = false ∧ s.msrDr = true ∧ s.msrSe = false ∧ s.unwatched ∧
    (s.bats .load).filter (fun p => p.covers s.msrPr (s.x 4)) = [⟨0x80001FFF, 2⟩] ∧
    (⟨0x80001FFF, 2⟩ : Bat).wellFormed = true ∧ (s.x 4).toNat % 4096 = 4092 ∧ s.allOf .ram 0x00000FFC 4 ∧
    s.unmixed 0x00000FFC 4 0 := by unfold State.unwatched State.allOf State.unmixed; decide
theorem witness_DataStorage_device :
    let s : State := { blockState 0x0000002A with params := { Params.initial with memMap := [⟨0, 0x1000, .device⟩] } }
    (s.bats .load).filter (fun p => p.covers s.msrPr (s.x 4)) = [⟨0x80001FFF, 0x2A⟩] ∧
    (⟨0x80001FFF, 0x2A⟩ : Bat).wellFormed = true ∧ (0x2A : Word).getLsbD 5 = true ∧ (0x2A : Word).getLsbD 3 = true ∧
    (s.x 4).toNat % 4 = 0 ∧ s.allOf .device 0x00000FFC 4 ∧ s.unwatched := by
  unfold State.unwatched State.allOf; decide
theorem witness_DataStorage_no_access :
    ((blockState 0).bats .load).filter (fun p => p.covers (blockState 0).msrPr ((blockState 0).x 4)) = [⟨0x80001FFF, 0⟩] := by
  decide
theorem witness_DataStorage_read_only :
    ((blockState 3).bats .load).filter (fun p => p.covers (blockState 3).msrPr ((blockState 3).x 4)) = [⟨0x80001FFF, 3⟩] := by
  decide
theorem witness_DataStorage_breakpoint :
    let s : State := { State.reset with dabr := 0xFFFFFFF9 }
    s.msrDr = false ∧ (s.acting false .dabr).extractLsb' 3 29 = (0xFFFFFFFF : Word).extractLsb' 3 29 ∧
    (s.acting false .dabr).getLsbD 2 = false ∧ (s.acting false .dabr).getLsbD 0 = true := by decide
theorem witness_MachineCheck_absent :
    let s := withParams { Params.initial with memMap := [⟨0xFFFFFFFF, 1, .absent⟩] }
    s.msrDr = false ∧ s.unwatched ∧ s.params.kindAt ((0 : Word) + (0xFFFF : BitVec 16).signExtend 32).toNat = .absent ∧
    s.msrMe = false ∧ ({ s with msr := 0x00001040 } : State).msrMe = true ∧ s.msrIle = false := by
  unfold State.unwatched; decide
theorem witness_MachineCheck_word :
    let s := withParams { Params.initial with memMap := [⟨0xFFFFFFFF, 1, .absent⟩] }
    let ea : Word := 0 + (0xFFFC : BitVec 16).signExtend 32
    ea.toNat % 4096 = 4092 ∧ s.params.kindAt (byteAt ea 0) = .ram ∧ s.params.kindAt (byteAt ea 3) = .absent := by decide
theorem witness_MachineCheck_fetch :
    let s := withParams { Params.initial with memMap := [⟨0xFFF00103, 1, .absent⟩] }
    s.ready ∧ s.msrIr = false ∧ s.params.kindAt (byteAt s.pc 3) = .absent ∧ s.msrMe = false ∧ s.msrIle = false ∧
    ({ s with msr := 0x00001040 } : State).ready ∧ ({ s with msr := 0x00001040 } : State).msrMe = true :=
  ⟨⟨⟨rfl, rfl, rfl, rfl⟩, rfl, rfl⟩, rfl, by decide, rfl, rfl, ⟨⟨rfl, rfl, rfl, rfl⟩, rfl, rfl⟩, rfl⟩
theorem witness_MachineCheck_halted :
    ({ State.reset with mode := .checkstop } : State).mode = .checkstop ∧ State.reset.lines.hardReset = false := by decide
theorem witness_InterruptPriority :
    let s : State := { State.reset with msr := 0x00009040, lines := ⟨false, true, some .level2, true⟩, decPending := true }
    s.atBoundary .running ∧ s.msrIle = false ∧ s.lines.machineCheckIn = some .level2 ∧
    s.lines.softReset = true ∧ s.lines.extIrq = true ∧ s.msrMe = true ∧ s.msrEe = true ∧ s.decPending = true ∧
    State.reset.msrMe = false ∧ State.reset.msrEe = false ∧ State.reset.lines.machineCheckIn = none ∧
    State.reset.lines.softReset = false ∧ State.reset.lines.extIrq = false ∧ State.reset.decPending = false :=
  ⟨⟨rfl, rfl, rfl, rfl⟩, by decide⟩
theorem witness_HardReset :
    ({ State.reset with lines := ⟨true, false, none, true⟩ } : State).lines.hardReset = true ∧ State.reset.dirty = [] := by
  decide
/-- Register values at the edges of the word, CA = 1 and SO = 1. -/
def edges : State := withX { State.reset with xer := 0xA0000000 } [(3, 0x80000000), (4, 0xFFFFFFFF), (5, 0x7FFFFFFF), (6, 1)]
theorem witness_AddSubtract :
    edges.msrSe = false ∧ outside32 ((edges.x 5).toInt + (edges.x 6).toInt) = true ∧ outside32 (-(edges.x 3).toInt) = true := by
  decide
theorem witness_CarryingArithmetic : edges.msrSe = false ∧ edges.ca = true ∧ State.reset.ca = false := by decide
theorem witness_ImmediateArithmetic : edges.msrSe = false ∧ edges.so = true := by decide
theorem witness_Multiply : edges.msrSe = false ∧ outside32 ((edges.x 3).toInt * (edges.x 4).toInt) = true := by decide
theorem witness_Divide :
    edges.msrSe = false ∧ edges.x 0 = 0 ∧ (edges.x 3 = 0x80000000 ∧ edges.x 4 = 0xFFFFFFFF) ∧ edges.x 6 ≠ 0 ∧
    ¬(edges.x 3 = 0x80000000 ∧ edges.x 6 = 0xFFFFFFFF) := by decide
theorem witness_Logical : edges.msrSe = false ∧ edges.x 3 &&& edges.x 5 = 0 := by decide
theorem witness_Shifts : edges.msrSe = false ∧ (edges.x 4).toNat % 64 = 63 ∧ (edges.x 3).toNat % 64 = 0 := by decide
theorem witness_Rotates : edges.msrSe = false ∧ underMask 31 0 31 = true ∧ underMask 31 0 15 = false := by decide
theorem witness_Compares : edges.msrSe = false ∧ (edges.x 3).toInt < (edges.x 5).toInt ∧ (edges.x 5).toNat < (edges.x 3).toNat := by
  decide
theorem witness_Branches :
    let s : State := { State.reset with ctr := 1 }
    s.msrSe = false ∧ s.msrBe = false ∧ (20 : BitVec 5).getLsbD 2 = true ∧ (20 : BitVec 5).getLsbD 4 = true ∧
    s.ctr - 1 = 0 ∧ State.reset.ctr - 1 ≠ 0 ∧ s.cr.getLsbD 31 = (4 : BitVec 5).getLsbD 3 := by decide
theorem witness_IntegerLoads :
    edges.msrSe = false ∧ (4 : Reg) ≠ 0 ∧ (4 : Reg) ≠ 3 ∧ edges.plainLoad (edges.x 4 + (0xFFFF : BitVec 16).signExtend 32) 4 ∧
    edges.plainLoad (edges.x 4 + edges.x 6) 4 := by unfold State.plainLoad State.plainData State.unwatched State.allOf State.unmixed; decide
theorem witness_IntegerStores :
    edges.msrSe = false ∧ (4 : Reg) ≠ 0 ∧ edges.plainData (edges.x 4 + (0xFFFF : BitVec 16).signExtend 32) 4 ∧
    edges.plainData (edges.x 4 + edges.x 6) 4 := by unfold State.plainData State.unwatched State.allOf; decide
theorem witness_MultipleWords :
    State.reset.msrSe = false ∧ State.reset.plainData 0xFFFFFFFC (4 * (32 - (31 : Reg).toNat)) ∧
    State.reset.plainLoad 0xFFFFFFFC (4 * (32 - (1 : Reg).toNat)) ∧ (0xFFFFFFFC : Word).toNat % 4 = 0 ∧
    (0 : Reg).toNat < (1 : Reg).toNat := by unfold State.plainLoad State.plainData State.unwatched State.allOf State.unmixed; decide
theorem witness_Strings :
    let s : State := { State.reset with xer := 124 }
    s.msrSe = false ∧ s.plainLoad 0xFFFFFFFE 32 ∧ (32 + 3) / 4 ≤ ((8 : Reg) - 31).toNat ∧ (s.xer.extractLsb' 0 7).toNat = 124 ∧
    s.plainLoad 0xFFFFFFFE 124 ∧ (124 + 3) / 4 ≤ ((30 : Reg) - 31).toNat ∧
    (State.reset.xer.extractLsb' 0 7).toNat = 0 ∧ State.reset.plainData 0 0 := by unfold State.plainLoad State.plainData State.unwatched State.allOf State.unmixed; decide
theorem witness_Strings_longest_store :
    (({ State.reset with xer := 127 } : State).xer.extractLsb' 0 7).toNat = 127 ∧ State.reset.plainData 0xFFFFFFFF 127 := by
  unfold State.plainData State.unwatched State.allOf; decide
theorem witness_Reservation :
    let s : State := { State.reset with reserve := true, reserveAddr := 0xFFFFFFE0 }
    s.msrSe = false ∧ s.plainLoad 0xFFFFFFFC 4 ∧ (0xFFFFFFFC : Word).toNat % 4 = 0 ∧ s.reserve = true ∧
    s.reserveAddr = (0xFFFFFFFC : Word) &&& 0xFFFFFFE0 ∧ s.reserveAddr ≠ (0xFFFFFFDC : Word) &&& 0xFFFFFFE0 ∧
    State.reset.reserve = false := by unfold State.plainLoad State.plainData State.unwatched State.allOf State.unmixed; decide
theorem witness_ExternalControl :
    (State.reset.acting false .ear).getLsbD 31 = false ∧ State.reset.msrIle = false ∧
    (({ State.reset with ear := 0x80000000 } : State).acting false .ear).getLsbD 31 = true ∧ State.reset.msrDr = false ∧
    (0xFFFFFFFF : Word).toNat % 4 ≠ 0 ∧ (0xFFFFFFFC : Word).toNat % 4 = 0 ∧
    State.reset.unwatched ∧ ({ State.reset with hid2 := 0x30000000 } : State).pse = true ∧
    ({ State.reset with hid2 := 0x30000000 } : State).lce = true := by unfold State.unwatched; decide
theorem witness_ScalarArithmetic :
    let s := withF fpOn [(2, one, 0), (3, two, 0)]
    scalarArithmetic (.fadds 1 2 3 true) = some (1, true) ∧ s.msrFp = true ∧ s.msrFe = false ∧ s.msrSe = false ∧
    niOf s.fpscr = false ∧ veOf s.fpscr = false ∧ zeOf s.fpscr = false ∧ singleRepresentable (s.f0 2) = true ∧
    isSquareRoot (.fadds 1 2 3 true) = false ∧ writesLane0Only (.fadds 1 2 3 true) = false ∧
    writesLane0Only (.fadd 1 2 3 true) = true ∧ quantizedOn.pse = true ∧
    (nextOf (exec (.fadds 1 2 3 true) { s with hid2 := 0xA0000000 })).map (fun t => singleRepresentable (t.f0 1)) =
      some true := by decide
/-- R427 (2), R429: an enabled invalid operation and an enabled zero divide keep the target and FPRF, and clear FR and FI. -/
theorem witness_ScalarArithmetic_suppressed :
    let s := withF { fpOn with fpscr := 0x0007F090 } [(1, two, two), (2, snan, one), (3, 0, one), (4, one, one)]
    let after (i : Instr) := (nextOf (exec i s)).map fun t => (t.f0 1, t.fpscr)
    suppressedBy s.fpscr (fpAdd double s.fpscr snan 0).raised = true ∧ suppressedBy s.fpscr zxBit = true ∧
    suppressedBy 0 zxBit = false ∧
    after (.fadd 1 2 3 false) = some (two, 0xE101F090) ∧ after (.fdiv 1 4 3 false) = some (two, 0xC401F090) := by decide
theorem witness_ScalarArithmetic_square_root :
    scalarArithmetic (.fsqrts 1 2 true) = some (1, true) ∧
    ({ fpOn with params := { Params.initial with hasFsqrt := true } } : State).params.hasFsqrt = true := by decide
theorem witness_FpMoves : fpOn.msrFp = true ∧ fpOn.msrSe = false ∧ isNan qnan = true ∧ isNan inf = false := by decide
theorem witness_FpCompares :
    fpOn.msrFp = true ∧ fpOn.msrFe = false ∧ fpOn.msrSe = false ∧ quantizedOn.pse = true ∧ quantizedOn.msrFp = true ∧
    isSnan snan = true ∧ isSnan qnan = false ∧ singleRepresentable one = true ∧
    singleRepresentable 0x3FF0000000000001 = false := by decide
theorem witness_FpLoads :
    fpOn.msrFp = true ∧ fpOn.msrSe = false ∧ (4 : Reg) ≠ 0 ∧ (0xFFFFFFFC : Word).toNat % 4 = 0 ∧ fpOn.plainLoad 0xFFFFFFFC 8 ∧
    quantizedOn.pse = true ∧ (0x7F7FFFFF : Word).extractLsb' 23 8 ≠ 255 ∧ (0x00000001 : Word).extractLsb' 23 8 ≠ 255 := by
  unfold State.plainLoad State.plainData State.unwatched State.allOf State.unmixed; decide
theorem witness_FpStores :
    fpOn.msrFp = true ∧ fpOn.msrSe = false ∧ (4 : Reg) ≠ 0 ∧ (0xFFFFFFFC : Word).toNat % 4 = 0 ∧ fpOn.plainData 0xFFFFFFFC 8 ∧
    singleFromDouble one = some 0x3F800000 := by unfold State.plainData State.unwatched State.allOf; decide
theorem witness_InvalidOperations_nan :
    isNan snan = true ∧ isSnan snan = true ∧ veOf 0 = false ∧ isNan one = false ∧ isNan qnan = true := by decide
theorem witness_InvalidOperations_operands :
    unpack inf = .inf false ∧ unpack negInf = .inf true ∧ unpack 0 = .zero false ∧ unpack 0x8000000000000000 = .zero true ∧
    unpack one = .finite false 4503599627370496 (-52) ∧
    unpack 0xBFF0000000000000 = .finite true 4503599627370496 (-52) ∧ veOf 0x80 = true ∧ zeOf 0 = false ∧ isFinite 0 = true ∧
    isFinite one = true ∧ classNormal true = classOf double 0xBFF0000000000000 := by decide
theorem witness_CorrectRounding :
    isFinite one = true ∧ isFinite two = true ∧ singleRepresentable one = true ∧ singleRepresentable two = true ∧
    ueOf 0 = false ∧ ueOf 0x20 = true ∧ oeOf 0 = false ∧ oeOf 0x40 = true ∧
    rnOf 0 = 0 ∧ rnOf 1 = 1 ∧ rnOf 2 = 2 ∧ rnOf 3 = 3 := by decide
/-- One plus two lies within both formats. -/
theorem witness_CorrectRounding_within :
    let z := laneValue one + laneValue two
    z ≠ 0 ∧ |z| ≤ (2 - 2 ^ (1 - (single.bits : Int))) * 2 ^ single.emax ∧ ¬|z| < 2 ^ single.emin ∧
    |z| ≤ (2 - 2 ^ (1 - (double.bits : Int))) * 2 ^ double.emax ∧ laneValue two ≠ 0 ∧ 0 < laneValue one := by
  have h1 : laneValue one = 1 := by
    have h : unpack one = .finite false 4503599627370496 (-52) := by decide
    simp only [laneValue, h]; norm_num
  have h2 : laneValue two = 2 := by
    have h : unpack two = .finite false 4503599627370496 (-51) := by decide
    simp only [laneValue, h]; norm_num
  have h3 : (2 : ℚ) ^ 2 ≤ 2 ^ 1023 := pow_le_pow_right₀ (by norm_num) (by norm_num)
  rw [h1, h2]
  norm_num [single, double]
  generalize (2 : ℚ) ^ 1023 = k at h3 ⊢
  linarith
/-- `2 ^ 127` times two overflows the single format, and `2 ^ -126` times one half underflows it. -/
theorem witness_CorrectRounding_beyond :
    isFinite 0x47E0000000000000 = true ∧ singleRepresentable 0x47E0000000000000 = true ∧
    2 ^ (single.emax + 1) ≤ |laneValue 0x47E0000000000000 * laneValue two| ∧
    isFinite 0x3810000000000000 = true ∧ singleRepresentable 0x3810000000000000 = true ∧
    |laneValue 0x3810000000000000 * laneValue 0x3FE0000000000000| < 2 ^ single.emin := by
  have h1 : laneValue 0x47E0000000000000 = 2 ^ 127 := by
    have h : unpack 0x47E0000000000000 = .finite false 4503599627370496 75 := by decide
    simp only [laneValue, h]; norm_num
  have h2 : laneValue two = 2 := by
    have h : unpack two = .finite false 4503599627370496 (-51) := by decide
    simp only [laneValue, h]; norm_num
  have h3 : laneValue 0x3810000000000000 = 2 ^ (-126 : Int) := by
    have h : unpack 0x3810000000000000 = .finite false 4503599627370496 (-178) := by decide
    simp only [laneValue, h]; norm_num
  have h4 : laneValue 0x3FE0000000000000 = 2 ^ (-1 : Int) := by
    have h : unpack 0x3FE0000000000000 = .finite false 4503599627370496 (-53) := by decide
    simp only [laneValue, h]; norm_num
  refine ⟨by decide, by decide, ?_, by decide, by decide, ?_⟩
  · rw [h1, h2]; norm_num [single]
  · rw [h3, h4]; norm_num [single]
/-- Between the largest single and `2 ^ 128`: the half-way value, which overflows under RN = 0, and the double before it,
which does not; and exact zeros. -/
theorem witness_CorrectRounding_between :
    let largest : ℚ := (2 - 2 ^ (1 - (single.bits : Int))) * 2 ^ single.emax
    let half : ℚ := 2 ^ (single.emax + 1) - 2 ^ (single.emax - single.bits)
    laneValue 0x47EFFFFFF0000000 = half ∧ largest < half ∧ half < 2 ^ (single.emax + 1) ∧
    largest < laneValue 0x47EFFFFFEFFFFFFF ∧ laneValue 0x47EFFFFFEFFFFFFF < half ∧
    laneValue 0 = 0 ∧ laneValue 0x8000000000000000 = 0 ∧ laneValue one - laneValue one = 0 ∧ laneValue 0 * laneValue one = 0 := by
  have h1 : unpack 0x47EFFFFFF0000000 = .finite false 9007198986305536 75 := by decide
  have h2 : unpack 0x47EFFFFFEFFFFFFF = .finite false 9007198986305535 75 := by decide
  have h3 : unpack 0 = .zero false := by decide
  have h4 : unpack 0x8000000000000000 = .zero true := by decide
  simp only [laneValue, h1, h2, h3, h4]
  norm_num [single]
theorem witness_FpConversions :
    fpOn.msrFp = true ∧ fpOn.msrFe = false ∧ fpOn.msrSe = false ∧ niOf fpOn.fpscr = false ∧ veOf fpOn.fpscr = false ∧
    niOf 4 = true ∧ isFinite one = true ∧ unpack inf = .inf false ∧ unpack negInf = .inf true ∧ isNan snan = true ∧ isNan qnan = true := by
  decide
theorem witness_FpConversions_limits :
    RoundsTo 1 (laneValue 0x41E0000000000000) (2 ^ 31) ∧ RoundsTo 2 (laneValue 0xC1E0000000200000) (-2 ^ 31 - 1) ∧
    RoundsTo 3 (laneValue 0xC1E0000000000000) (-2 ^ 31) ∧ RoundsTo 0 (laneValue one) 1 := by
  have h1 : laneValue 0x41E0000000000000 = 2 ^ 31 := by
    have h : unpack 0x41E0000000000000 = .finite false 4503599627370496 (-21) := by decide
    simp only [laneValue, h]; norm_num
  have h2 : laneValue 0xC1E0000000200000 = -2 ^ 31 - 1 := by
    have h : unpack 0xC1E0000000200000 = .finite true 4503599629467648 (-21) := by decide
    simp only [laneValue, h]; norm_num
  have h3 : laneValue 0xC1E0000000000000 = -2 ^ 31 := by
    have h : unpack 0xC1E0000000000000 = .finite true 4503599627370496 (-21) := by decide
    simp only [laneValue, h]; norm_num
  have h4 : laneValue one = 1 := by
    have h : unpack one = .finite false 4503599627370496 (-52) := by decide
    simp only [laneValue, h]; norm_num
  rw [h1, h2, h3, h4]; norm_num [RoundsTo, truncated]
theorem witness_PairedArithmetic :
    pairedArithmetic (.ps_sum1 1 2 3 4 true) = some (1, true) ∧ pairedStart.pse = true ∧ pairedStart.msrFp = true ∧
    pairedStart.msrFe = false ∧ pairedStart.msrSe = false ∧ niOf pairedStart.fpscr = false ∧ veOf pairedStart.fpscr = false ∧
    zeOf pairedStart.fpscr = false ∧ singleRepresentable (pairedStart.f0 2) = true ∧
    singleRepresentable (pairedStart.f0 3) = true ∧ singleRepresentable (pairedStart.f0 4) = true := by decide
/-- R663: an invalid operation of lane 1 that VE enables leaves both lanes. -/
theorem witness_PairedArithmetic_suppressed :
    let s := withF { pairedOn with fpscr := 0x80 } [(1, two, one), (2, one, inf), (3, two, negInf)]
    suppressedBy s.fpscr ((fpAdd single s.fpscr one two).raised ||| (fpAdd single s.fpscr inf negInf).raised) = true ∧
    (nextOf (exec (.ps_add 1 2 3 false) s)).map (fun t => (t.f0 1, t.f1 1, t.fpscr)) = some (two, one, 0xE0804080) ∧
    (estimateSpecial true negInf).any (fun e => suppressedBy s.fpscr e.2) = true ∧
    (estimateSpecial true inf).any (fun e => suppressedBy s.fpscr e.2) = false := by decide
theorem witness_PairedArithmetic_estimates :
    estimateSpecial false 0 = some (inf, 0x04000000) ∧ estimateSpecial false negInf = some (0x8000000000000000, 0) ∧
    estimateSpecial true negInf = some (qnan, 0x00000200) ∧ estimateSpecial true snan = some (0x7FF8000000000001, 0x01000000) ∧
    estimateSpecial false one = none := by decide
theorem witness_PairedMoves :
    pairedStart.pse = true ∧ pairedStart.msrFp = true ∧ pairedStart.msrSe = false ∧
    singleRepresentable (pairedStart.f0 2) = true ∧ singleRepresentable (pairedStart.f0 3) = true ∧
    singleRepresentable (pairedStart.f0 4) = true := by decide
/-- Quantized accesses on, with every type's code in GQR1 to GQR4 and GQR0, for loads and stores. -/
def quantizedTypes : State :=
  { quantizedOn with gqr := ((((State.reset.gqr.set 1 0x20040004).set 2 0x1F051F05).set 3 0x00063F06).set 4 0x3F070007) }
theorem witness_QuantizedLoads :
    let s := quantizedTypes
    s.pse = true ∧ s.lsqe = true ∧ s.msrFp = true ∧ s.msrSe = false ∧
    quantType ((s.gqr.get 0).extractLsb' 16 3) = some .float ∧ quantType ((s.gqr.get 1).extractLsb' 16 3) = some .u8 ∧
    quantType ((s.gqr.get 2).extractLsb' 16 3) = some .u16 ∧ quantType ((s.gqr.get 3).extractLsb' 16 3) = some .s8 ∧
    quantType ((s.gqr.get 4).extractLsb' 16 3) = some .s16 ∧ (4 : Reg) ≠ 0 ∧ (0xFFFFFFFC : Word).toNat % 4 = 0 ∧
    s.plainLoad 0xFFFFFFFC 8 := by unfold State.plainLoad State.plainData State.unwatched State.allOf State.unmixed; decide
theorem witness_QuantizedStores :
    let s := quantizedTypes
    quantType ((s.gqr.get 0).extractLsb' 0 3) = some .float ∧ quantType ((s.gqr.get 1).extractLsb' 0 3) = some .u8 ∧
    quantType ((s.gqr.get 2).extractLsb' 0 3) = some .u16 ∧ quantType ((s.gqr.get 3).extractLsb' 0 3) = some .s8 ∧
    quantType ((s.gqr.get 4).extractLsb' 0 3) = some .s16 ∧ s.plainData 0xFFFFFFFE 2 ∧ (0xFFFFFFFE : Word).toNat % 2 = 0 ∧
    s.params.quantRound = .towardZero ∧ singleFromDouble one = some 0x3F800000 ∧ isFinite one = true ∧
    unpack negInf = .inf true := by unfold State.plainData State.unwatched State.allOf; decide
theorem witness_CacheBlocks :
    let s : State := { State.reset with hid0 := 0x00004000, dirty := [⟨0x3FFFFFFF, [1, 2], some 1, true, 0, false⟩] }
    s.msrDr = false ∧ s.msrSe = false ∧ s.dce = true ∧ s.plainData 0xFFFFFFE0 32 ∧ s.msrPr = false ∧ s.decided ∧
    s.hid0.getLsbD 15 = false ∧
    (∀ e ∈ s.dirty, e.word ∉ (List.range 8).map fun k => (0xFFFFFFC0 : Word).toNat / 4 + k) ∧ State.reset.dirty = [] := by
  unfold State.plainData State.unwatched State.allOf State.decided; decide
theorem witness_SpecialRegisterWrites :
    edges.msrSe = false ∧ edges.msrPr = false ∧ (edges.x 3).getLsbD 10 = false ∧ (edges.x 3).getLsbD 11 = false ∧
    (edges.x 4).getLsbD 11 = true ∧ (edges.x 3).getLsbD 30 = false ∧ (edges.x 4).getLsbD 26 = true ∧
    (withParams { Params.initial with part := .broadway }).params.part = .broadway ∧
    (∀ e ∈ edges.dirty, e.cached = true → e.word % 2 ^ 30 ≠ 5) ∧ edges.late = [] ∧ (∀ e ∈ edges.dirty, e.mixed = false) ∧
    (edges.x 5).getLsbD 10 = true ∧ ((0x00004000 : Word).getLsbD 10 = false ∧ (0x00004000 : Word).getLsbD 14 = true) := by
  decide
theorem witness_SpecialRegisterReads : edges.msrSe = false ∧ edges.msrPr = false ∧ edges.xerReservedWritten = false := by decide
theorem witness_ConditionRegister : edges.msrSe = false ∧ edges.xerReservedWritten = false := by decide
theorem witness_MsrAndPowerSaving_mtmsr :
    let s := withX { State.reset with fpscr := 0x61000080 } [(3, 1), (4, 0x00010000), (5, 0x00000900), (6, 0x00040000)]
    s.msrPr = false ∧ s.msrSe = false ∧ (s.x 3 &&& 0x0005FF77).getLsbD 0 = true ∧ (s.x 4 &&& 0x0005FF77).getLsbD 16 = true ∧
    s.fpscr.getLsbD 30 = true ∧ (s.x 5 &&& 0x0005FF77).getLsbD 11 = true ∧ (s.x 6 &&& 0x0005FF77).getLsbD 18 = true ∧
    (s.x 6 &&& 0x0005FF77).getLsbD 11 = false ∧ (s.x 6 &&& 0x0005FF77).getLsbD 8 = false := by decide
theorem witness_MsrAndPowerSaving_waits :
    let s : State := { State.reset with mode := .powerSave }
    s.atBoundary .powerSave ∧ s.lines.machineCheckIn = none ∧ s.lines.softReset = false ∧ s.msrEe = false :=
  ⟨⟨rfl, rfl, rfl, rfl⟩, by decide⟩
/-- A pending decrementer does not wake a sleeping processor. -/
theorem witness_MsrAndPowerSaving_sleeps :
    let s : State := { State.reset with mode := .powerSave, msr := 0x00008040, hid0 := 0x00200000, decPending := true }
    s.atBoundary .powerSave ∧ s.lines.machineCheckIn = none ∧ s.lines.softReset = false ∧ s.msrEe = true ∧
    s.lines.extIrq = false ∧ s.decPending = true ∧ s.hid0.getLsbD 21 = true :=
  ⟨⟨rfl, rfl, rfl, rfl⟩, by decide⟩
theorem witness_FpscrMoves : fpOn.msrFp = true ∧ fpOn.msrFe = false ∧ fpOn.msrSe = false ∧ (31 : CrBit) ≠ 20 := by decide
theorem witness_SynchronizationAndSegments :
    edges.msrSe = false ∧ edges.msrPr = false ∧ edges.decided ∧ (edges.x 4).toNat / 2 ^ 28 = 15 ∧ (edges.x 0).toNat / 2 ^ 28 = 0 ∧
    (withParams { Params.initial with hasTlbia := true }).params.hasTlbia = true ∧
    (withParams { Params.initial with hasTlbia := true }).msrPr = false := by unfold State.decided; decide
theorem witness_MemoryStaysCanonical : placed.memoryCanonical ∧ (nextOf (step placed)).isSome = true := by
  unfold State.memoryCanonical; decide
theorem witness_RegistersStayLegal :
    placed.pcAligned ∧ placed.msrLegal ∧ placed.refusedUnitsOff ∧ (nextOf (step placed)).isSome = true := by
  unfold State.pcAligned State.msrLegal State.refusedUnitsOff; decide
theorem witness_FpscrSummaryBits :
    placed.fpscrComputed ∧ (nextOf (step placed)).isSome = true ∧
    (nextOf (exec (.mtfsb1 3 true) fpOn)).isSome = true := by
  unfold State.fpscrComputed; decide
theorem witness_UserModeKeepsSupervisorState :
    user.msrPr = true ∧
    (nextOf (exec (.addi 3 0 5) user)).map (fun t => (t.msrPr, decide (t.mode = .checkstop))) = some (true, false) := by decide

end Sys2Proof.Tests
end

section
/-! PROOFS. The family 00_scope.md: additions and subtractions, the rotates, and what a step runs. -/

namespace Sys2Proof.Machine

/-! ### The fields of CR -/

/-- The bits of a word of `k` ones. -/
theorem getLsbD_lowOnes (k j : Nat) : (BitVec.ofNat 32 (2 ^ k - 1)).getLsbD j = decide (j < 32 ∧ j < k) := by
  simp [BitVec.getLsbD_ofNat, Nat.testBit_two_pow_sub_one]

/-- Bit `j` of a word with a field replaced: the field's bit, or the word's. -/
theorem getLsbD_replaceField (w : Word) (n : CrField) (v : BitVec 4) {j : Nat} (hj : j < 32) :
    (replaceField w n v).getLsbD j =
      if 28 - 4 * n.toNat ≤ j ∧ j < 32 - 4 * n.toNat then v.getLsbD (j - (28 - 4 * n.toNat)) else w.getLsbD j := by
  have hn := n.isLt
  have hmask : (0xF#32 : Word) = BitVec.ofNat 32 (2 ^ 4 - 1) := rfl
  have hv : 4 ≤ j - (28 - 4 * n.toNat) → v.getLsbD (j - (28 - 4 * n.toNat)) = false := BitVec.getLsbD_of_ge _ _
  simp only [replaceField, hmask, BitVec.getLsbD_or, BitVec.getLsbD_and, BitVec.getLsbD_not, BitVec.getLsbD_shiftLeft,
    getLsbD_lowOnes, BitVec.getLsbD_setWidth, hj]
  grind

/-- A field reads as replaced. -/
@[simp] theorem State.crf_setCrf_same (s : State) (n : CrField) (v : BitVec 4) : (s.setCrf n v).crf n = v := by
  have hn := n.isLt
  refine BitVec.eq_of_getLsbD_eq fun i hi => ?_
  rw [State.crf, State.setCrf_cr, BitVec.getLsbD_extractLsb', getLsbD_replaceField _ _ _ (by omega), if_pos (by omega)]
  simp [hi]

/-- Replacing one field leaves the others. -/
@[simp] theorem State.crf_setCrf_other (s : State) {m n : CrField} (v : BitVec 4) (h : m ≠ n) :
    (s.setCrf n v).crf m = s.crf m := by
  have hm := m.isLt
  have hn := n.isLt
  have hne : m.toNat ≠ n.toNat := fun e => h (BitVec.eq_of_toNat_eq e)
  refine BitVec.eq_of_getLsbD_eq fun i hi => ?_
  rw [State.crf, State.crf, State.setCrf_cr, BitVec.getLsbD_extractLsb', BitVec.getLsbD_extractLsb',
    getLsbD_replaceField _ _ _ (by omega), if_neg (by omega)]

/-! ### XER -/

/-- A flag in the upper three bits does not touch the other bits. -/
theorem setBit_and_low (v : Word) {i : Nat} (b : Bool) (h : 29 ≤ i) :
    setBit v i b &&& 0x1FFFFFFF = v &&& 0x1FFFFFFF := by
  have hmask : (0x1FFFFFFF : Word) = BitVec.ofNat 32 (2 ^ 29 - 1) := rfl
  refine BitVec.eq_of_getLsbD_eq fun j hj => ?_
  rw [hmask, BitVec.getLsbD_and, BitVec.getLsbD_and, getLsbD_lowOnes, setBit_getLsbD _ _ _ _ hj]
  grind

@[simp] theorem State.ca_setCa (s : State) (c : Bool) : (s.setCa c).ca = c :=
  setBit_getLsbD s.xer 29 29 c (by decide)
@[simp] theorem State.ov_setCa (s : State) (c : Bool) : (s.setCa c).ov = s.ov :=
  setBit_getLsbD s.xer 29 30 c (by decide)
@[simp] theorem State.so_setCa (s : State) (c : Bool) : (s.setCa c).so = s.so :=
  setBit_getLsbD s.xer 29 31 c (by decide)

/-- Bit `j` of XER after `SetOV` (R15). -/
theorem State.setOv_xer_getLsbD (s : State) (ov : Bool) {j : Nat} (hj : j < 32) :
    (s.setOv ov).xer.getLsbD j = if j = 31 then s.so || ov else if j = 30 then ov else s.xer.getLsbD j := by
  rw [State.setOv_xer, setBit_getLsbD _ _ _ _ hj, setBit_getLsbD _ _ _ _ hj]

@[simp] theorem State.ca_setOv (s : State) (ov : Bool) : (s.setOv ov).ca = s.ca := s.setOv_xer_getLsbD ov (by decide)
@[simp] theorem State.ov_setOv (s : State) (ov : Bool) : (s.setOv ov).ov = ov := s.setOv_xer_getLsbD ov (by decide)
@[simp] theorem State.so_setOv (s : State) (ov : Bool) : (s.setOv ov).so = (s.so || ov) :=
  s.setOv_xer_getLsbD ov (by decide)

/-- `SetOV` writes no other bit of XER than SO and OV (R15). -/
theorem State.setOv_xer_low (s : State) (ov : Bool) : (s.setOv ov).xer &&& 0x1FFFFFFF = s.xer &&& 0x1FFFFFFF := by
  rw [State.setOv_xer, setBit_and_low _ _ (by decide), setBit_and_low _ _ (by decide)]

/-! ### What an instruction with a result in a general register leaves -/

/-- Recording changes nothing but CR. -/
theorem State.recordIf_frame (s : State) (rc : Bool) (r : Word) :
    s.recordIf rc r = { s with cr := (s.recordIf rc r).cr } := by
  cases rc <;> rfl

/-- Recording writes CR0 where Rc is 1 (R15). -/
theorem State.crf_recordIf_zero (s : State) (rc : Bool) (r : Word) :
    (s.recordIf rc r).crf 0 =
      if rc then crBits (decide (r.toInt < 0)) (decide (0 < r.toInt)) (decide (r = 0)) s.so else s.crf 0 := by
  cases rc with
  | false => rfl
  | true => exact State.crf_setCrf_same ..

/-- Recording writes no field but CR0. -/
theorem State.crf_recordIf_other (s : State) (rc : Bool) (r : Word) {m : CrField} (h : m ≠ 0) :
    (s.recordIf rc r).crf m = s.crf m := by
  cases rc with
  | false => rfl
  | true => exact State.crf_setCrf_other _ _ h

/-- Writing a register and recording it changes that register and CR0. -/
theorem State.logic_ends (s : State) (rA : Reg) (r : Word) (rc : Bool) :
    LogicEnds s { s.logic rA r rc with pc := s.pc + 4 } rA r rc := by
  have hframe : s.logic rA r rc = { s.setX rA r with cr := (s.logic rA r rc).cr } := (s.setX rA r).recordIf_frame rc r
  rw [hframe]
  refine ⟨⟨s.x_setX_same rA r, fun q hq => s.x_setX_other r hq, rfl, rfl, ?_, rfl, ?_, ?_, rfl⟩, rfl⟩
  · exact (Bool.or_false _).symm
  · exact (s.setX rA r).crf_recordIf_zero rc r
  · exact fun m hm => (s.setX rA r).crf_recordIf_other rc r hm

/-- An instruction that keeps OV and SO, run after `SetOV`, ends as one with OE = 1 does. -/
theorem ArithEnds.of_setOv {s t : State} {rD : Reg} {r : Word} {rc ca ov : Bool}
    (h : ArithEnds (s.setOv ov) t rD r false false rc ca) : ArithEnds s t rD r true ov rc ca := by
  obtain ⟨hr, hother, hca, hov, hso, hlow, hcr0, hcr, hframe⟩ := h
  refine ⟨hr, hother, hca, hov.trans (s.ov_setOv ov), ?_, hlow.trans (s.setOv_xer_low ov), hcr0, hcr, hframe⟩
  simpa using hso

/-- What is left after CA was written first differs from the state before that write in CA only as it says. -/
theorem ArithEnds.of_setCa {s t : State} {rD : Reg} {r : Word} {oe ov rc c ca : Bool}
    (h : ArithEnds (s.setCa c) t rD r oe ov rc ca) : ArithEnds s t rD r oe ov rc ca := by
  obtain ⟨hr, hother, hca, hov, hso, hlow, hcr0, hcr, hframe⟩ := h
  refine ⟨hr, hother, hca, ?_, ?_, hlow.trans (setBit_and_low _ _ le_rfl), hcr0, hcr, hframe⟩
  · simpa using hov
  · simpa using hso

/-- `arith` writes the result, with OE then OV and SO, and with Rc then CR0 (R200). -/
theorem State.arith_ends (s : State) (rD : Reg) (r : Word) (ov oe rc : Bool) :
    ArithEnds s { s.arith rD r ov oe rc with pc := s.pc + 4 } rD r oe ov rc s.ca := by
  cases oe with
  | false => exact (s.logic_ends rD r rc).1
  | true =>
    have h := (s.setOv ov).logic_ends rD r rc
    rw [LogicEnds, s.ca_setOv] at h
    exact h.1.of_setOv

/-! ### Ending an instruction that leaves a result -/

/-- With tracing off an instruction that records its result completes (R200). -/
theorem retire_arith {s : State} (h : s.msrSe = false) (rD : Reg) (r : Word) (ov oe rc : Bool) :
    ∃ t, retire (s.arith rD r ov oe rc) = .next t ∧ ArithEnds s t rD r oe ov rc s.ca := by
  have hpc : (s.arith rD r ov oe rc).pc = s.pc := by cases oe <;> cases rc <;> rfl
  have hse : (s.arith rD r ov oe rc).msrSe = s.msrSe := by cases oe <;> cases rc <;> rfl
  refine ⟨_, retire_untraced (hse.trans h), ?_⟩
  rw [hpc]
  exact s.arith_ends rD r ov oe rc

/-- With tracing off a logical instruction completes (R250). -/
theorem retire_logic {s : State} (h : s.msrSe = false) (rA : Reg) (r : Word) (rc : Bool) :
    ∃ t, retire (s.logic rA r rc) = .next t ∧ LogicEnds s t rA r rc := by
  have hpc : (s.logic rA r rc).pc = s.pc := by cases rc <;> rfl
  have hse : (s.logic rA r rc).msrSe = s.msrSe := by cases rc <;> rfl
  refine ⟨_, retire_untraced (hse.trans h), ?_⟩
  rw [hpc]
  exact s.logic_ends rA r rc

/-! ### Sums with a carry -/

/-- The sum with the carry in as a word. -/
theorem sum32_eq (a b : Word) (c : Bool) : sum32 a b c = a + b + BitVec.ofNat 32 (if c then 1 else 0) := by
  cases c <;> rfl

/-- The complement plus the carry in: a difference less the borrow (R10). -/
theorem sum32_not (a b : Word) (c : Bool) : sum32 (~~~a) b c = b - a - 1 + BitVec.ofNat 32 (if c then 1 else 0) := by
  have hnot : ~~~a = -a - 1 := BitVec.not_eq_neg_add a
  rw [sum32_eq, hnot]
  ring

/-- The overflow of a sum is that of the exact signed value (R10). -/
theorem ovf32_eq (a b : Word) (c : Bool) :
    ovf32 a b c = outside32 (a.toInt + b.toInt + (if c then 1 else 0 : Nat)) := by
  cases c <;> rfl

/-- The complement of a signed word. -/
theorem toInt_not (a : Word) : (~~~a).toInt = -a.toInt - 1 := by
  have ha := a.isLt
  simp only [BitVec.toInt_eq_toNat_cond, BitVec.toNat_not]
  split <;> split <;> omega

/-- The overflow of a difference less the borrow is that of the exact signed value. -/
theorem ovf32_not (a b : Word) (c : Bool) :
    ovf32 (~~~a) b c = outside32 (b.toInt - a.toInt - 1 + (if c then 1 else 0 : Nat)) := by
  rw [ovf32_eq, toInt_not]
  congr 1
  ring

/-- The carry out of a sum says that the exact value needs a 33rd bit (R10). -/
theorem carry32_eq (a b : Word) (c : Bool) :
    carry32 a b c = decide (2 ^ 32 ≤ a.toNat + b.toNat + if c then 1 else 0) := by
  cases c <;> rfl

/-- The carry out of a difference says that there is no borrow (R10). -/
theorem carry32_not (a b : Word) (c : Bool) :
    carry32 (~~~a) b c = decide (a.toNat < b.toNat + if c then 1 else 0) := by
  have ha := a.isLt
  rw [carry32_eq, BitVec.toNat_not, decide_eq_decide]
  omega

/-- `neg` overflows for the least signed word only (R216). -/
theorem beq_leastWord (a : Word) : (a == 0x80000000) = outside32 (-a.toInt) := by
  have ha := a.isLt
  have hleast : (0x80000000 : Word).toNat = 2 ^ 31 := rfl
  rw [outside32, beq_eq_decide, decide_eq_decide, BitVec.toInt_eq_toNat_cond, ← BitVec.toNat_inj, hleast]
  split <;> omega

/-! ### Additions and subtractions -/

/-- An addition that does not write CA completes with the sum and overflow that it computes. -/
theorem retire_added {s : State} (h : s.msrSe = false) (rD : Reg) {a b r : Word} {c ov : Bool} (oe rc : Bool)
    (hr : sum32 a b c = r) (hov : ovf32 a b c = ov) :
    ∃ t, retire (s.added rD a b c oe rc) = .next t ∧ ArithEnds s t rD r oe ov rc s.ca := by
  subst hr hov
  exact retire_arith h ..

/-- An addition that writes CA completes with the sum, overflow and carry that it computes. -/
theorem retire_addedCarrying {s : State} (h : s.msrSe = false) (rD : Reg) {a b r : Word} {c ov ca : Bool} (oe rc : Bool)
    (hr : sum32 a b c = r) (hov : ovf32 a b c = ov) (hca : carry32 a b c = ca) :
    ∃ t, retire (s.addedCarrying rD a b c oe rc) = .next t ∧ ArithEnds s t rD r oe ov rc ca := by
  obtain ⟨t, ht, hends⟩ := retire_added (s := s.setCa (carry32 a b c)) h rD oe rc hr hov
  rw [s.ca_setCa, hca] at hends
  exact ⟨t, ht, hends.of_setCa⟩

/-- A carrying addition completes with the sum `r`, the exact signed value `v` that overflow is judged by, and the
condition `p` for a carry, each in whatever form it is asked for. -/
theorem retire_sumCarrying {s : State} (h : s.msrSe = false) (rD : Reg) (a b : Word) (c oe rc : Bool) {r : Word}
    {v : Int} {p : Prop} [Decidable p] (hr : a + b + BitVec.ofNat 32 (if c then 1 else 0) = r)
    (hv : a.toInt + b.toInt + (if c then 1 else 0 : Nat) = v)
    (hp : 2 ^ 32 ≤ a.toNat + b.toNat + (if c then 1 else 0) ↔ p) :
    ∃ t, retire (s.addedCarrying rD a b c oe rc) = .next t ∧ ArithEnds s t rD r oe (outside32 v) rc (decide p) := by
  subst hr hv
  exact retire_addedCarrying h rD oe rc (sum32_eq a b c) (ovf32_eq a b c)
    ((carry32_eq a b c).trans (decide_eq_decide.2 hp))

/-- A carrying subtraction completes with the difference `r`, the exact signed value `v` that overflow is judged by, and
the condition `p` for no borrow, each in whatever form it is asked for. -/
theorem retire_differenceCarrying {s : State} (h : s.msrSe = false) (rD : Reg) (a b : Word) (c oe rc : Bool) {r : Word}
    {v : Int} {p : Prop} [Decidable p] (hr : b - a - 1 + BitVec.ofNat 32 (if c then 1 else 0) = r)
    (hv : b.toInt - a.toInt - 1 + (if c then 1 else 0 : Nat) = v)
    (hp : a.toNat < b.toNat + (if c then 1 else 0) ↔ p) :
    ∃ t, retire (s.addedCarrying rD (~~~a) b c oe rc) = .next t ∧
      ArithEnds s t rD r oe (outside32 v) rc (decide p) := by
  subst hr hv
  exact retire_addedCarrying h rD oe rc (sum32_not a b c) (ovf32_not a b c)
    ((carry32_not a b c).trans (decide_eq_decide.2 hp))

/-! ### Rotates and masks (R10) -/

/-- Bit `i` of a word rotated left. -/
theorem getLsbD_rotl32 (v : Word) (n : BitVec 5) {i : Nat} (hi : i < 32) :
    (rotl32 v n).getLsbD i = rotatedBit v n.toNat i := by
  have hn := n.isLt
  rw [rotl32, rotatedBit, BitVec.getLsbD_or, BitVec.getLsbD_shiftLeft, BitVec.getLsbD_ushiftRight]
  by_cases h : i < n.toNat
  · simp [h, show (i + 32 - n.toNat) % 32 = 32 - n.toNat + i by omega]
  · have hout : v.getLsbD (32 - n.toNat + i) = false := BitVec.getLsbD_of_ge _ _ (by omega)
    simp [h, hi, hout, show (i + 32 - n.toNat) % 32 = i - n.toNat by omega]

/-- Bit `i` of a word with ones from `hi` down to `lo`. -/
theorem getLsbD_onesBetween {hi lo i : Nat} (hhi : hi < 32) (h : i < 32) :
    (onesBetween hi lo).getLsbD i = decide (lo ≤ i ∧ i ≤ hi) := by
  have hones : (0xFFFFFFFF#32) = BitVec.ofNat 32 (2 ^ 32 - 1) := rfl
  rw [onesBetween, BitVec.getLsbD_and, BitVec.getLsbD_ushiftRight, BitVec.getLsbD_shiftLeft, hones, getLsbD_lowOnes,
    getLsbD_lowOnes]
  grind

/-- The mask has a one at every bit under it, wrapping round where mb > me. -/
theorem getLsbD_maskMbMe (mb me : BitVec 5) {i : Nat} (h : i < 32) :
    (maskMbMe mb me).getLsbD i = underMask mb me i := by
  have hmb := mb.isLt
  have hme := me.isLt
  simp only [maskMbMe, underMask]
  by_cases hle : mb.toNat ≤ me.toNat
  · rw [if_pos (by omega), if_pos hle, getLsbD_onesBetween (by omega) h, decide_eq_decide]
    omega
  · rw [if_neg (by omega), if_neg hle, BitVec.getLsbD_or, getLsbD_onesBetween (by omega) h,
      getLsbD_onesBetween (by omega) h, ← Bool.decide_or, decide_eq_decide]
    omega

/-- Bit `i` of a rotated word under the mask: 0 outside it. -/
theorem getLsbD_rotl32_and_mask (v : Word) (n mb me : BitVec 5) {i : Nat} (h : i < 32) :
    (rotl32 v n &&& maskMbMe mb me).getLsbD i = (underMask mb me i && rotatedBit v n.toNat i) := by
  rw [BitVec.getLsbD_and, getLsbD_rotl32 v n h, getLsbD_maskMbMe mb me h, Bool.and_comm]

/-- Bit `i` of a rotated word inserted under the mask: the old bit outside it. -/
theorem getLsbD_rotl32_insert (v old : Word) (n mb me : BitVec 5) {i : Nat} (h : i < 32) :
    ((rotl32 v n &&& maskMbMe mb me) ||| (old &&& ~~~maskMbMe mb me)).getLsbD i =
      if underMask mb me i then rotatedBit v n.toNat i else old.getLsbD i := by
  rw [BitVec.getLsbD_or, getLsbD_rotl32_and_mask v n mb me h, BitVec.getLsbD_and, BitVec.getLsbD_not,
    getLsbD_maskMbMe mb me h]
  cases underMask mb me i <;> simp [h]

/-! ### Fetching and one step -/

/-- With nothing else at the boundary a step runs the word that is fetched, and time passes (R128, R150). -/
theorem step_of_ready {s : State} (h : s.ready) : step s = afterTick (s.fetch.finish execWord) := by
  obtain ⟨⟨hreset, hmode, hle, hhid4⟩, hint, hiabr⟩ := h
  simp [step, State.cycle, State.boundary, State.instruction, hreset, hmode, hle, hhid4, hint, hiabr]

/-- An accepted word runs its instruction; one of the supplement needs `SupplementEnabled` (R166, R740). -/
theorem execWord_of_classify {w : Word} {i : Instr} {s : State} (h : classify w = .instr i)
    (hsupp : isSupplement i = true → s.params.supplement = true) : execWord w s = exec i s := by
  have hon : (isSupplement i && !s.params.supplement) = false := by
    cases hi : isSupplement i with
    | false => rfl
    | true => rw [hsupp hi]; rfl
  rw [execWord, h]
  exact if_neg (by simp [hon])

/-- A fetch that succeeds marks the page's entry and draws, and changes nothing else. -/
theorem State.fetch_frame {s t : State} {w : Word} (h : s.fetch = .ok w t) :
    t = { s with mem := t.mem, draws := t.draws } := by
  rcases s.fetch_cases with ⟨w', t', hok, ht⟩ | ⟨c, hstop⟩ | hstop | ⟨r, hstop⟩
  · cases hok.symm.trans h
    exact ht
  all_goals cases hstop.symm.trans h

/-- Four bytes as a word, the first the most significant. -/
theorem beValue_four (b0 b1 b2 b3 : Byte) : (beValue [b0, b1, b2, b3]).setWidth 32 = wordOfBytes b0 b1 b2 b3 := by
  refine BitVec.eq_of_getLsbD_eq fun i hi => ?_
  simp only [beValue, List.foldl, wordOfBytes, BitVec.getLsbD_setWidth, BitVec.getLsbD_or, BitVec.getLsbD_shiftLeft,
    BitVec.getLsbD_append]
  grind

/-- A fetch through a mapping with no entry to mark, from RAM or ROM, of a word with no older version cached, reads the
four bytes in memory and leaves the state (R128). -/
theorem State.fetch_plain {s : State} {m : Mapped} (hm : s.translate .fetch s.pc = .mapped m) (hpte : m.pte = none)
    (hkind : ∀ j < 4, s.params.kindAt (byteAt m.pa j) = .ram ∨ s.params.kindAt (byteAt m.pa j) = .rom)
    (hstale : ∀ e ∈ s.stale, e.word ≠ m.pa.toNat / 4) :
    s.fetch = .ok (wordOfBytes (s.mem.read (byteAt m.pa 0)) (s.mem.read (byteAt m.pa 1)) (s.mem.read (byteAt m.pa 2))
      (s.mem.read (byteAt m.pa 3))) s := by
  have hkinds : ∀ k ∈ s.kindsOf m.pa 4, k = .ram ∨ k = .rom := by
    intro k hk
    obtain ⟨j, hj, rfl⟩ := List.mem_map.1 hk
    exact hkind j (List.mem_range.1 hj)
  have habsent : RegionKind.absent ∉ s.kindsOf m.pa 4 := fun h => by simpa using hkinds _ h
  have hdevice : RegionKind.device ∉ s.kindsOf m.pa 4 := fun h => by simpa using hkinds _ h
  have hfresh : s.stale.find? (fun e => e.word = m.pa.toNat / 4) = none := by simpa using hstale
  rw [← beValue_four]
  simp only [State.fetch, hm, if_neg habsent, if_neg hdevice, hpte, State.touch_none, State.fetchPhys, hfresh]
  rfl

end Sys2Proof.Machine

/-! ### The obligations of 00_scope.md -/

namespace Sys2Proof.Scope

open Sys2Proof.Machine

/-- Settles O21: `add` is a sum, `subf` a complement plus the carry in 1, `neg` a complement plus 1. -/
theorem addSubtract : Obligations.AddSubtract := by
  intro rD rA rB oe rc s hs a b
  simp only [exec_add, execAdd, exec_subf, execSubf, exec_neg, execNeg]
  refine ⟨retire_added hs rD oe rc ?_ ?_, retire_added hs rD oe rc ?_ ?_, ?_⟩
  · exact (sum32_eq a b false).trans (BitVec.add_zero _)
  · exact (ovf32_eq a b false).trans (congrArg outside32 (add_zero _))
  · exact (sum32_not a b true).trans (sub_add_cancel _ _)
  · exact (ovf32_not a b true).trans (congrArg outside32 (sub_add_cancel _ _))
  · have hneg : -a = ~~~a + 1 := BitVec.neg_eq_not_add a
    rw [hneg, ← beq_leastWord]
    exact retire_arith hs ..

/-- Settles O22: every form is a sum of rA's word or its complement, a second word and a carry in; the second word is
rB's, 0, or -1. -/
theorem carryingArithmetic : Obligations.CarryingArithmetic := by
  intro rD rA rB oe rc s hs a b c w
  simp only [exec_addc, execAddc, exec_adde, execAdde, exec_addme, execAddme, exec_addze, execAddze, exec_subfc,
    execSubfc, exec_subfe, execSubfe, exec_subfme, execSubfme, exec_subfze, execSubfze]
  have hm : (0xFFFFFFFF : Word) = -1 := rfl
  have hmInt : (0xFFFFFFFF : Word).toInt = -1 := rfl
  have hmNat : (0xFFFFFFFF : Word).toNat = 2 ^ 32 - 1 := rfl
  refine ⟨?addc, ?adde, ?addme, ?addze, ?subfc, ?subfe, ?subfme, ?subfze⟩
  case addc => exact retire_sumCarrying hs rD a b false oe rc (BitVec.add_zero _) (add_zero _) .rfl
  case adde => exact retire_sumCarrying hs rD a b s.ca oe rc rfl rfl .rfl
  case addme =>
    refine retire_sumCarrying hs rD a 0xFFFFFFFF s.ca oe rc ?_ ?_ ?_
    · change a + 0xFFFFFFFF + w = a + w - 1
      rw [hm]; ring
    · change a.toInt + _ + c = a.toInt + c - 1
      omega
    · change _ ≤ a.toNat + _ + c ↔ 1 ≤ a.toNat + c
      omega
  case addze =>
    refine retire_sumCarrying hs rD a 0 s.ca oe rc ?_ ?_ .rfl
    · exact congrArg (· + w) (BitVec.add_zero a)
    · exact congrArg (· + (c : Int)) (add_zero a.toInt)
  case subfc =>
    exact retire_differenceCarrying hs rD a b true oe rc (sub_add_cancel _ _) (sub_add_cancel _ _) Nat.lt_succ_iff
  case subfe => exact retire_differenceCarrying hs rD a b s.ca oe rc rfl rfl .rfl
  case subfme =>
    refine retire_differenceCarrying hs rD a 0xFFFFFFFF s.ca oe rc ?_ ?_ ?_
    · change 0xFFFFFFFF - a - 1 + w = w - a - 2
      rw [hm]; ring
    · change _ - a.toInt - 1 + c = c - a.toInt - 2
      omega
    · change a.toNat < _ + c ↔ a.toNat + 1 < 2 ^ 32 + c
      omega
  case subfze =>
    refine retire_differenceCarrying hs rD a 0 s.ca oe rc ?_ ?_ ?_
    · change 0 - a - 1 + w = w - a - 1
      ring
    · change 0 - a.toInt - 1 + c = c - a.toInt - 1
      ring
    · change a.toNat < 0 + c ↔ a.toNat < c
      rw [zero_add]

/-- Settles O28: each rotate writes what the bits of the rotated word and of the mask give. -/
theorem rotates : Obligations.Rotates := by
  intro rS rA rB sh mb me rc s hs v
  simp only [exec_rlwinm, execRlwinm, exec_rlwnm, execRlwnm, exec_rlwimi, execRlwimi]
  have hcount : ((s.x rB).extractLsb' 0 5).toNat = (s.x rB).toNat % 32 := by simp
  refine ⟨?rlwinm, ?rlwnm, ?rlwimi⟩
  case rlwinm =>
    obtain ⟨t, ht, hends⟩ := retire_logic hs rA (rotl32 v sh &&& maskMbMe mb me) rc
    exact ⟨t, _, ht, hends, fun i hi => getLsbD_rotl32_and_mask v sh mb me hi⟩
  case rlwnm =>
    obtain ⟨t, ht, hends⟩ := retire_logic hs rA (rotl32 v ((s.x rB).extractLsb' 0 5) &&& maskMbMe mb me) rc
    exact ⟨t, _, ht, hends, fun i hi => hcount ▸ getLsbD_rotl32_and_mask v _ mb me hi⟩
  case rlwimi =>
    obtain ⟨t, ht, hends⟩ :=
      retire_logic hs rA ((rotl32 v sh &&& maskMbMe mb me) ||| (s.x rA &&& ~~~maskMbMe mb me)) rc
    exact ⟨t, _, ht, hends, fun i hi => getLsbD_rotl32_insert v (s.x rA) sh mb me hi⟩

/-- Settles O4: a ready step runs the word it fetches; in memory with nothing to mark and nothing stale that word is the
four bytes there. -/
theorem stepRunsDecoded : Obligations.StepRunsDecoded := by
  have hfetched : ∀ (s t : State) (w : Word) (i : Instr), s.ready → s.fetch = .ok w t → classify w = .instr i →
      (isSupplement i = true → t.params.supplement = true) → step s = afterTick (exec i t) := by
    intro s t w i hready hfetch hi hsupp
    rw [step_of_ready hready, hfetch, Res.finish_ok, execWord_of_classify hi hsupp]
  refine ⟨?memory, ?fetch, ?tick⟩
  case memory =>
    intro s m i hready hm hpte hkind hstale hi hsupp
    exact hfetched s s _ i hready (State.fetch_plain hm hpte hkind hstale) hi hsupp
  case fetch =>
    intro s t w i hready hfetch hi hsupp
    exact ⟨hfetched s t w i hready hfetch hi hsupp, State.fetch_frame hfetch⟩
  case tick => exact fun u => ⟨Config.tbTicks u.time, rfl⟩

end Sys2Proof.Scope
end

section
/-! PROOFS. The family 10_state.md: what every instruction and every step keeps of pc, MSR, FPSCR and the units that the
spec refuses. -/

namespace Sys2Proof.Machine

/-! ### The summary bits of FPSCR (R49) -/

/-- A masked word is 0 where every bit under the mask is 0. -/
theorem and_eq_zero_iff_getLsbD (v m : Word) :
    v &&& m = 0 ↔ ∀ i < 32, m.getLsbD i = true → v.getLsbD i = false := by
  rw [BitVec.eq_of_getLsbD_eq_iff]
  simp only [BitVec.getLsbD_and]
  refine forall₂_congr fun i hi => ?_
  cases v.getLsbD i <;> cases m.getLsbD i <;> simp

/-- VX is the OR of the nine invalid-operation bits. -/
theorem and_vxBits_ne_zero (v : Word) : decide (v &&& vxBits ≠ 0) = (v.getLsbD 24 || v.getLsbD 23 || v.getLsbD 22 ||
    v.getLsbD 21 || v.getLsbD 20 || v.getLsbD 19 || v.getLsbD 10 || v.getLsbD 9 || v.getLsbD 8) := by
  rw [Bool.eq_iff_iff]
  simp only [decide_eq_true_eq, ne_eq, and_eq_zero_iff_getLsbD, Nat.forall_lt_succ_right', Bool.or_eq_true]
  simp [vxBits]
  grind

/-- Recomputing leaves every bit but FEX, VX and the reserved bit 11. -/
theorem summarize_getLsbD_other (v : Word) {j : Nat} (hj : j < 32) (h30 : j ≠ 30) (h29 : j ≠ 29) (h11 : j ≠ 11) :
    (summarize v).getLsbD j = v.getLsbD j := by
  simp only [summarize, setBit_getLsbD _ _ _ _ hj, if_neg h30, if_neg h29, if_neg h11]

/-- The reserved bit 11 is clear (R48). -/
@[simp] theorem summarize_getLsbD_reserved (v : Word) : (summarize v).getLsbD 11 = false := by
  rw [summarize, setBit_getLsbD _ _ _ _ (by decide), if_pos rfl]

/-- A recomputed FPSCR holds what R49 computes. -/
theorem State.fpscrComputed_of_summarize {t : State} {v : Word} (h : t.fpscr = summarize v) : t.fpscrComputed := by
  have hvx : (summarize v).getLsbD 29 = decide (v &&& vxBits ≠ 0) := by
    simp only [summarize, setBit_getLsbD, Nat.reduceLT, Nat.reduceEqDiff, if_true, if_false]
  have hfex : (summarize v).getLsbD 30 = ((decide (v &&& vxBits ≠ 0) && v.getLsbD 7) ||
      (v.getLsbD 28 && v.getLsbD 6) || (v.getLsbD 27 && v.getLsbD 5) || (v.getLsbD 26 && v.getLsbD 4) ||
      (v.getLsbD 25 && v.getLsbD 3)) := by
    simp only [summarize, setBit_getLsbD, Nat.reduceLT, Nat.reduceEqDiff, if_true, if_false]
  rw [State.fpscrComputed, h, hfex, hvx, and_vxBits_ne_zero]
  simp only [summarize_getLsbD_other, Nat.reduceLT, ne_eq, Nat.reduceEqDiff, not_false_eq_true, and_self]

/-- Whether FPSCR's summary bits are as computed depends on FPSCR alone. -/
theorem State.fpscrComputed_congr {s t : State} (h : t.fpscr = s.fpscr) : t.fpscrComputed ↔ s.fpscrComputed := by
  rw [State.fpscrComputed, State.fpscrComputed, h]

/-! ### What every step keeps -/

/-- From `s` to `t` a legal pc, MSR and HID2, MMCR0 and THRM3 stay legal, and FPSCR is left alone or recomputed (R32, R49,
R50, R63, R72, R73). -/
structure Lawful (s t : State) : Prop where
  aligned : s.pcAligned → t.pcAligned
  legal : s.msrLegal → t.msrLegal
  unitsOff : s.refusedUnitsOff → t.refusedUnitsOff
  fpscr : t.fpscr = s.fpscr ∨ t.fpscrComputed

/-- Wherever the outcome goes on, it goes on lawfully. -/
structure LawfulOut (s : State) (o : Out) : Prop where
  next_lawful : ∀ t, o = .next t → Lawful s t

/-- A part of an instruction leaves a lawful state, or ends the instruction lawfully. -/
def LawfulRes {α : Type} (s : State) : Res α → Prop
  | .ok _ u => Lawful s u
  | .stop o => LawfulOut s o

theorem Lawful.refl (s : State) : Lawful s s := ⟨id, id, id, .inl rfl⟩

theorem Lawful.trans {s t u : State} (h : Lawful s t) (h' : Lawful t u) : Lawful s u where
  aligned := h'.aligned ∘ h.aligned
  legal := h'.legal ∘ h.legal
  unitsOff := h'.unitsOff ∘ h.unitsOff
  fpscr := by
    rcases h'.fpscr with hu | hu
    · exact h.fpscr.imp hu.trans (State.fpscrComputed_congr hu).2
    · exact .inr hu

/-- The registers that a lawful change may write under conditions only. -/
def State.control (s : State) : Word × Word × Word × Word × Vector Word 3 :=
  (s.pc, s.msr, s.hid2, s.mmcr0, s.thrm)

/-- A change that leaves those registers is lawful where it leaves FPSCR or recomputes it. -/
theorem Lawful.of_control {s t : State} (h : t.control = s.control)
    (hf : t.fpscr = s.fpscr ∨ ∃ v, t.fpscr = summarize v) : Lawful s t := by
  simp only [State.control, Prod.mk.injEq] at h
  obtain ⟨hpc, hmsr, hhid2, hmmcr0, hthrm⟩ := h
  refine ⟨fun h => ?_, fun h => ?_, fun h => ?_, hf.imp_right fun ⟨v, hv⟩ => State.fpscrComputed_of_summarize hv⟩
  · rwa [State.pcAligned, hpc]
  · rwa [State.msrLegal, hmsr]
  · rwa [State.refusedUnitsOff, hhid2, hmmcr0, hthrm]

/-- A change that leaves them and FPSCR is lawful. -/
theorem Lawful.of_kept {s t : State} (h : t.control = s.control ∧ t.fpscr = s.fpscr) : Lawful s t :=
  .of_control h.1 (.inl h.2)

theorem Lawful.setX {s t : State} (h : Lawful s t) (r : Reg) (v : Word) : Lawful s (t.setX r v) :=
  h.trans (.of_kept ⟨rfl, rfl⟩)

theorem Lawful.ite {s t u : State} {c : Prop} [Decidable c] (ht : Lawful s t) (hu : Lawful s u) :
    Lawful s (if c then t else u) := by
  split
  · exact ht
  · exact hu

theorem pcAligned_iff (s : State) : s.pcAligned ↔ s.pc.toNat % 4 = 0 := by
  have h : s.pc.toNat &&& 3 = s.pc.toNat % 4 := Nat.and_two_pow_sub_one_eq_mod s.pc.toNat 2
  have h3 : (3 : Word).toNat = 3 := rfl
  have h0 : (0 : Word).toNat = 0 := rfl
  rw [State.pcAligned, ← BitVec.toNat_inj, BitVec.toNat_and, h3, h0, h]

/-! ### Outcomes -/

theorem LawfulOut.refused (s : State) (r : Refusal) : LawfulOut s (.refused r) := ⟨fun t h => by cases h⟩

theorem LawfulOut.next {s t : State} (h : Lawful s t) : LawfulOut s (.next t) := by
  refine ⟨?_⟩
  rintro _ ⟨⟩
  exact h

theorem LawfulOut.of_lawful {s u : State} {o : Out} (h : Lawful s u) (ho : LawfulOut u o) : LawfulOut s o :=
  ⟨fun t ht => h.trans (ho.next_lawful t ht)⟩

theorem LawfulOut.ite {s : State} {o o' : Out} {c : Prop} [Decidable c] (h : LawfulOut s o) (h' : LawfulOut s o') :
    LawfulOut s (if c then o else o') := by
  split
  · exact h
  · exact h'

/-- Exception entry is lawful: the handler's address is aligned and MSR loses bits (R773, R775). -/
theorem takeException_lawful (s : State) (e : Exception) (ra info : Word) : LawfulOut s (takeException e ra info s) := by
  refine ⟨fun t ht => ?_⟩
  obtain ⟨-, rfl⟩ := takeException_next.1 ht
  refine ⟨fun _ => vectorAddress_aligned _ _, fun h => ?_, id, .inl rfl⟩
  rw [State.msrLegal] at h ⊢
  rw [State.entered_msr, BitVec.and_assoc, BitVec.and_comm (keptOnEntry e), ← BitVec.and_assoc, h]
  exact BitVec.zero_and

theorem raiseProgram_lawful (s : State) (k : ProgramKind) : LawfulOut s (raiseProgram k s) :=
  takeException_lawful ..

theorem raiseDsi_lawful (s : State) (ea c : Word) : LawfulOut s (raiseDsi ea c s) :=
  .of_lawful (u := { s with dar := ea, dsisr := c }) (.of_kept ⟨rfl, rfl⟩) (takeException_lawful ..)

theorem machineCheck_lawful (s : State) (info : Word) : LawfulOut s (machineCheck info s) :=
  .ite (.of_lawful (u := s.drawn) (.of_kept ⟨rfl, rfl⟩) (takeException_lawful ..)) (.next (.of_kept ⟨rfl, rfl⟩))

theorem raiseAlignment_lawful (s : State) (i : Instr) (raField : Bool) (ea : Word) :
    LawfulOut s (raiseAlignment i raField ea s) :=
  .of_lawful (.of_kept (by cases raField <;> exact ⟨rfl, rfl⟩)) (takeException_lawful ..)

/-- Going on at an aligned address is lawful, traced or not. -/
theorem retireTo_lawful {s : State} {traced : Bool} {next : Word} (h : s.pcAligned → next.toNat % 4 = 0) :
    LawfulOut s (retireTo traced next s) :=
  .ite (takeException_lawful ..) (.next ⟨fun hs => (pcAligned_iff _).2 (h hs), id, id, .inl rfl⟩)

theorem retire_lawful {s u : State} (h : Lawful s u) : LawfulOut s (retire u) := by
  refine .of_lawful h (retireTo_lawful fun hu => ?_)
  have := (pcAligned_iff u).1 hu
  bv_omega

/-- An instruction that ends in a state with the same control registers and FPSCR is lawful. -/
theorem retire_kept_lawful {s u : State} (h : u.control = s.control ∧ u.fpscr = s.fpscr) : LawfulOut s (retire u) :=
  retire_lawful (.of_kept h)

theorem privileged_lawful {s : State} {run : Out} (h : LawfulOut s run) : LawfulOut s (privileged s run) :=
  .ite (raiseProgram_lawful ..) h

theorem withFp_lawful {s : State} {run : Out} (h : LawfulOut s run) : LawfulOut s (withFp s run) :=
  .ite h (takeException_lawful ..)

theorem withPaired_lawful {s : State} {run : Out} (h : LawfulOut s run) : LawfulOut s (withPaired s run) :=
  .ite (withFp_lawful h) (raiseProgram_lawful ..)

theorem withQuantized_lawful {s : State} {run : Out} (h : LawfulOut s run) : LawfulOut s (withQuantized s run) :=
  .ite (withFp_lawful h) (raiseProgram_lawful ..)

/-! ### Parts -/

theorem LawfulRes.finish {α : Type} {s : State} {r : Res α} {f : α → State → Out} (h : LawfulRes s r)
    (hf : ∀ a u, Lawful s u → LawfulOut s (f a u)) : LawfulOut s (r.finish f) := by
  cases r with
  | ok a u => exact hf a u h
  | stop o => exact h

theorem LawfulRes.bind {α β : Type} {s : State} {r : Res α} {f : α → State → Res β} (h : LawfulRes s r)
    (hf : ∀ a u, Lawful s u → LawfulRes s (f a u)) : LawfulRes s (r.bind f) := by
  cases r with
  | ok a u => exact hf a u h
  | stop o => exact h

theorem LawfulRes.of_lawful {α : Type} {s u : State} {r : Res α} (h : Lawful s u) (hr : LawfulRes u r) :
    LawfulRes s r := by
  cases r with
  | ok a t => exact h.trans hr
  | stop o => exact LawfulOut.of_lawful h hr

/-- A load that succeeds leaves the control registers and FPSCR. -/
theorem Lawful.of_loadFrame {s t : State} (h : t = { s with mem := t.mem, bus := t.bus }) : Lawful s t := by
  rw [h]
  exact .of_kept ⟨rfl, rfl⟩

/-- A store that succeeds leaves them too. -/
theorem Lawful.of_storeFrame {s t : State}
    (h : t = { s with mem := t.mem, stale := t.stale, dirty := t.dirty, tables := t.tables, bus := t.bus }) :
    Lawful s t := by
  rw [h]
  exact .of_kept ⟨rfl, rfl⟩

/-- How an access that does not succeed ends. -/
theorem accessStop_lawful {s : State} {o : Out}
    (h : (∃ ea c, o = raiseDsi ea c s) ∨ o = absentAddress s ∨ ∃ r, o = .refused r) : LawfulOut s o := by
  rcases h with ⟨ea, c, rfl⟩ | rfl | ⟨r, rfl⟩
  · exact raiseDsi_lawful ..
  · exact machineCheck_lawful ..
  · exact .refused ..

theorem touch_lawful (s : State) (k : Access) (p : Option Word) : Lawful s (s.touch k p) := by
  rw [State.touch_frame]
  exact .of_kept ⟨rfl, rfl⟩

theorem afterStore_lawful (s : State) (m : Mapped) (bs : List Byte) : Lawful s (s.afterStore m bs) :=
  .of_storeFrame (s.afterStore_frame m bs)

theorem storePhys_lawful (s : State) (m : Mapped) (bs : List Byte) : Lawful s (s.storePhys m bs) :=
  .of_kept ⟨rfl, rfl⟩

theorem dataMap_lawful (s : State) (k : Access) (ea : Word) : LawfulRes s (s.dataMap k ea) := by
  rcases s.dataMap_cases k ea with ⟨m, h⟩ | ⟨c, h⟩ | h | ⟨r, h⟩ <;> rw [h]
  · exact Lawful.refl s
  · exact raiseDsi_lawful ..
  · exact machineCheck_lawful ..
  · exact LawfulOut.refused ..

theorem dataCheck_lawful (s : State) (k : Access) (ea : Word) : LawfulRes s (s.dataCheck k ea) := by
  rcases s.dataCheck_cases k ea with ⟨m, h⟩ | ⟨c, h⟩ | h | ⟨r, h⟩ <;> rw [h]
  · exact Lawful.refl s
  · exact raiseDsi_lawful ..
  · exact machineCheck_lawful ..
  · exact LawfulOut.refused ..

theorem checkPart_lawful (s : State) (k : Access) (ea : Word) (n : Nat) (al : Bool) :
    LawfulRes s (s.checkPart k ea n al) := by
  rcases s.checkPart_cases k ea n al with ⟨m, h⟩ | ⟨c, h⟩ | h | ⟨r, h⟩ <;> rw [h]
  · exact touch_lawful ..
  · exact raiseDsi_lawful ..
  · exact machineCheck_lawful ..
  · exact LawfulOut.refused ..

theorem readParts_lawful (s : State) (al : Bool) (ps : List (Word × Nat)) : LawfulRes s (s.readParts al ps) := by
  cases h : s.readParts al ps with
  | ok bs t => exact Lawful.of_loadFrame (State.readParts_ok h).1
  | stop o =>
    obtain ⟨u, hu, -, ho⟩ := State.readParts_stop h
    exact LawfulOut.of_lawful (.of_loadFrame hu) (accessStop_lawful ho)

theorem memRead_lawful (s : State) (ea : Word) (n : Nat) : LawfulRes s (s.memRead ea n) :=
  (readParts_lawful ..).bind fun _ _ h => h

theorem memWrite_lawful (s : State) (ea : Word) (n : Nat) (v : BitVec 64) : LawfulRes s (s.memWrite ea n v) := by
  cases h : s.memWrite ea n v with
  | ok a t => exact Lawful.of_storeFrame (State.memWrite_ok h).1
  | stop o =>
    obtain ⟨u, hu, -, ho⟩ := State.memWrite_stop h
    exact LawfulOut.of_lawful (.of_storeFrame hu) (accessStop_lawful ho)

theorem loadPair_lawful (s : State) (ea0 ea1 : Word) (n : Nat) (al : Bool) :
    LawfulRes s (s.loadPair ea0 ea1 n al) := by
  cases h : s.loadPair ea0 ea1 n al with
  | ok v t => exact Lawful.of_loadFrame (State.loadPair_ok h).1
  | stop o =>
    unfold State.loadPair at h
    rcases s.mapPair_cases .load ea0 ea1 n al with ⟨m, e⟩ | ⟨a, c, e⟩ | e | ⟨r, e⟩ <;> rw [e] at h <;> cases h
    · exact raiseDsi_lawful ..
    · exact machineCheck_lawful ..
    · exact LawfulOut.refused ..

theorem storePair_lawful (s : State) (ea0 ea1 : Word) (n : Nat) (al : Bool) (v0 v1 : BitVec 64) :
    LawfulRes s (s.storePair ea0 ea1 n al v0 v1) := by
  cases h : s.storePair ea0 ea1 n al v0 v1 with
  | ok v t => exact Lawful.of_storeFrame (State.storePair_ok h).1
  | stop o => exact accessStop_lawful (State.storePair_stop h)

/-! ### Integer instructions -/

theorem arith_lawful (s : State) (rD : Reg) (r : Word) (ov oe rc : Bool) : Lawful s (s.arith rD r ov oe rc) :=
  .of_kept (by cases oe <;> cases rc <;> exact ⟨rfl, rfl⟩)

theorem logic_lawful (s : State) (rA : Reg) (r : Word) (rc : Bool) : Lawful s (s.logic rA r rc) :=
  .of_kept (by cases rc <;> exact ⟨rfl, rfl⟩)

theorem addedCarrying_lawful (s : State) (rD : Reg) (a b : Word) (c oe rc : Bool) :
    Lawful s (s.addedCarrying rD a b c oe rc) :=
  .trans (t := s.setCa (carry32 a b c)) (.of_kept ⟨rfl, rfl⟩) (arith_lawful ..)

theorem shiftedAlgebraic_lawful (s : State) (rS rA : Reg) (n : Nat) (rc : Bool) :
    Lawful s (s.shiftedAlgebraic rS rA n rc) :=
  .trans (t := s.setCa (shiftRightAlgebraic (s.x rS) n).2) (.of_kept ⟨rfl, rfl⟩) (logic_lawful ..)

theorem retire_drawn_arith_lawful (s : State) (rD : Reg) (r : Word) (ov oe rc : Bool) :
    LawfulOut s (retire (s.drawn.arith rD r ov oe rc)) :=
  retire_lawful (.trans (t := s.drawn) (.of_kept ⟨rfl, rfl⟩) (arith_lawful ..))

/-! ### Branches -/

theorem aligned_iff (w : Word) : w &&& 3 = 0 ↔ w.toNat % 4 = 0 := pcAligned_iff { State.reset with pc := w }

/-- A displacement in words, as a signed number of bytes, is a multiple of 4. -/
theorem signExtend_append_aligned {n : Nat} (v : BitVec n) : ((v ++ 0#2).signExtend 32).toNat % 4 = 0 := by
  rw [← aligned_iff, and_eq_zero_iff_getLsbD]
  intro i hi h3
  have hi2 : i < 2 := (of_decide_eq_true ((getLsbD_lowOnes 2 i).symm.trans h3)).2
  have hin : i < n + 2 := by omega
  rw [BitVec.getLsbD_signExtend, BitVec.getLsbD_append]
  simp [hi2, hin]

theorem wordTarget_aligned (v : Word) : (wordTarget v).toNat % 4 = 0 := by
  rw [← aligned_iff, wordTarget, BitVec.and_assoc]
  exact BitVec.and_zero

theorem branchTarget_aligned {s : State} (aa : Bool) {d : Word} (hd : d.toNat % 4 = 0) (h : s.pc.toNat % 4 = 0) :
    (s.branchTarget aa d).toNat % 4 = 0 := by
  unfold State.branchTarget
  split
  · exact hd
  · bv_omega

theorem next_aligned {pc : Word} (h : pc.toNat % 4 = 0) : (pc + 4).toNat % 4 = 0 := by bv_omega

theorem branchIf_lawful {s : State} {bo : BitVec 5} {bi : CrBit} {target : Word} {lk : Bool}
    (h : s.pc.toNat % 4 = 0 → target.toNat % 4 = 0) : LawfulOut s (s.branchIf bo bi target lk) := by
  refine .of_lawful (u := { s with ctr := s.ctrAfter bo, lr := s.lrAfter lk }) (.of_kept ⟨rfl, rfl⟩)
    (retireTo_lawful fun hpc => ?_)
  have hpc := (pcAligned_iff _).1 hpc
  split
  · exact h hpc
  · exact next_aligned hpc

/-! ### Loads and stores -/

theorem load_lawful (s : State) (ea : Word) (n : Nat) (f : BitVec 64 → Word) (rD : Reg) :
    LawfulOut s (s.load ea n f rD) :=
  (memRead_lawful ..).finish fun _ _ h => retire_lawful (h.setX ..)

theorem loadUpdate_lawful (s : State) (ea : Word) (n : Nat) (f : BitVec 64 → Word) (rD rA : Reg) :
    LawfulOut s (s.loadUpdate ea n f rD rA) :=
  (memRead_lawful ..).finish fun _ _ h => retire_lawful ((h.setX ..).setX ..)

theorem store_lawful (s : State) (ea : Word) (n : Nat) (v : Word) : LawfulOut s (s.store ea n v) :=
  (memWrite_lawful ..).finish fun _ _ h => retire_lawful h

theorem storeUpdate_lawful (s : State) (ea : Word) (n : Nat) (v : Word) (rA : Reg) :
    LawfulOut s (s.storeUpdate ea n v rA) :=
  (memWrite_lawful ..).finish fun _ _ h => retire_lawful (h.setX ..)

theorem wordAligned_lawful {s : State} {i : Instr} {raField : Bool} {ea : Word} {run : Out} (h : LawfulOut s run) :
    LawfulOut s (s.wordAligned i raField ea run) :=
  .ite h (raiseAlignment_lawful ..)

theorem loadWords_lawful (n : Nat) (r : Reg) (ea : Word) (s : State) : LawfulRes s (loadWords n r ea s) := by
  induction n generalizing r ea s with
  | zero => exact Lawful.refl s
  | succ n ih =>
    exact (memRead_lawful ..).bind fun _ _ h => .of_lawful (h.setX ..) (ih ..)

theorem storeWords_lawful (n : Nat) (r : Reg) (ea : Word) (s : State) : LawfulRes s (storeWords n r ea s) := by
  induction n generalizing r ea s with
  | zero => exact Lawful.refl s
  | succ n ih => exact (memWrite_lawful ..).bind fun _ _ h => .of_lawful h (ih ..)

theorem readEach_lawful (n : Nat) (ea : Word) (s : State) : LawfulRes s (readEach n ea s) := by
  induction n generalizing ea s with
  | zero => exact Lawful.refl s
  | succ n ih =>
    exact (memRead_lawful ..).bind fun _ _ h => (LawfulRes.of_lawful h (ih ..)).bind fun _ _ h' => h'

theorem writeEach_lawful (bs : List Byte) (ea : Word) (s : State) : LawfulRes s (writeEach bs ea s) := by
  induction bs generalizing ea s with
  | nil => exact Lawful.refl s
  | cons b bs ih => exact (memWrite_lawful ..).bind fun _ _ h => .of_lawful h (ih ..)

theorem loadString_lawful (count bytes : Nat) (r : Reg) (ea : Word) (s : State) :
    LawfulRes s (loadString count bytes r ea s) := by
  induction count generalizing bytes r ea s with
  | zero => exact Lawful.refl s
  | succ n ih =>
    exact (readEach_lawful ..).bind fun _ _ h => .of_lawful (h.setX ..) (ih ..)

theorem execLswx_lawful (rD rA rB : Reg) (s : State) : LawfulOut s (execLswx rD rA rB s) :=
  .ite (retire_kept_lawful ⟨rfl, rfl⟩)
    (.ite (.refused ..) ((loadString_lawful ..).finish fun _ _ h => retire_lawful h))

theorem execLwarx_lawful (rD rA rB : Reg) (s : State) : LawfulOut s (execLwarx rD rA rB s) :=
  wordAligned_lawful ((checkPart_lawful ..).finish fun _ _ h =>
    .ite (.refused ..) (retire_lawful (h.trans (.of_kept ⟨rfl, rfl⟩))))

theorem storeConditional_lawful (s : State) (rS : Reg) (ea : Word) : LawfulOut s (s.storeConditional rS ea) :=
  (checkPart_lawful ..).finish fun _ _ h =>
    retire_lawful ((h.trans (afterStore_lawful ..)).trans (.of_kept ⟨rfl, rfl⟩))

theorem execStwcx_lawful (rS rA rB : Reg) (s : State) : LawfulOut s (execStwcx rS rA rB s) :=
  wordAligned_lawful ((dataCheck_lawful ..).finish fun _ u h => .of_lawful h
    (.ite (retire_kept_lawful ⟨rfl, rfl⟩)
      (.ite (storeConditional_lawful ..)
        (.ite (.of_lawful (u := u.drawn) (.of_kept ⟨rfl, rfl⟩) (storeConditional_lawful ..))
          (retire_kept_lawful ⟨rfl, rfl⟩)))))

theorem externalControl_lawful (s : State) (i : Instr) (k : Access) (ea : Word) :
    LawfulOut s (s.externalControl i k ea) :=
  .ite (raiseDsi_lawful ..) (wordAligned_lawful ((dataCheck_lawful ..).finish fun _ _ _ => .refused ..))

/-! ### Caches -/

theorem blockOp_lawful {s : State} {k : Access} {ea : Word} {f : Mapped → State → State}
    (hf : ∀ m u, Lawful u (f m u)) : LawfulOut s ((s.dataMap k ea).finish fun m u => retire (f m u)) :=
  (dataMap_lawful ..).finish fun m u h => retire_lawful (h.trans (hf m u))

theorem execDcbz_lawful (rA rB : Reg) (s : State) : LawfulOut s (execDcbz rA rB s) := by
  refine .ite (raiseAlignment_lawful ..) ((dataMap_lawful ..).finish fun m u h => .of_lawful h ?_)
  refine .ite (raiseDsi_lawful ..) (.ite (.refused ..) (.ite (.refused ..) (retire_lawful ?_)))
  exact (touch_lawful u .store m.pte).trans (storePhys_lawful ..)

/-! ### Floating point -/

theorem recordCr1If_lawful (s : State) (rc : Bool) : Lawful s (s.recordCr1If rc) :=
  .of_kept (by cases rc <;> exact ⟨rfl, rfl⟩)

theorem finishFp_lawful {s u : State} (rc : Bool) (h : Lawful s u) : LawfulOut s (u.finishFp rc) :=
  .ite (.of_lawful (h.trans (recordCr1If_lawful u rc)) (raiseProgram_lawful ..))
    (retire_lawful (h.trans (recordCr1If_lawful u rc)))

theorem finishMove_lawful {s u : State} (rc : Bool) (h : Lawful s u) : LawfulOut s (u.finishMove rc) :=
  retire_lawful (h.trans (recordCr1If_lawful u rc))

/-- A move of FPSCR that recomputes it. -/
theorem finishFp_summarized_lawful (s : State) (v : Word) (rc : Bool) :
    LawfulOut s ({ s with fpscr := summarize v }.finishFp rc) :=
  finishFp_lawful rc (.of_control rfl (.inr ⟨v, rfl⟩))

theorem writeS_lawful (s : State) (frD : FReg) (r : Lane) (draw : BitVec 64) : Lawful s (s.writeS frD r draw) :=
  .ite (.of_kept ⟨rfl, rfl⟩) (.of_kept ⟨rfl, rfl⟩)

/-- FPSCR after arithmetic is recomputed. -/
theorem State.fpscrAfter_eq (s : State) (o : FpOut) (raised : Word) (classOpen : Bool) :
    ∃ v, s.fpscrAfter o raised classOpen = summarize v := ⟨_, rfl⟩

/-- FPSCR after an estimate is recomputed. -/
theorem State.fpscrAfterEstimate_eq (s : State) (o : FpOut) (raised : Word) (classOpen fixed : Bool) :
    ∃ v, s.fpscrAfterEstimate o raised classOpen fixed = summarize v := by
  unfold State.fpscrAfterEstimate
  dsimp only
  split
  · exact State.fpscrAfter_eq ..
  · exact ⟨_, rfl⟩

/-- Arithmetic draws, recomputes FPSCR, and may then write its target. -/
theorem drawn_fpscr_lawful (s : State) (n : Nat) {v : Word} (h : ∃ w, v = summarize w) :
    Lawful s { s.drawnBy n with fpscr := v } :=
  .of_control rfl (.inr h)

theorem arithD_lawful (s : State) (frD : FReg) (rc : Bool) (o : FpOut) : LawfulOut s (s.arithD frD rc o) := by
  have h1 := drawn_fpscr_lawful s 3
    (s.fpscrAfter_eq (s.inMode double arithmeticBits (s.freeAt 1) o) (s.inMode double arithmeticBits (s.freeAt 1) o).raised
      false)
  exact finishFp_lawful rc (.ite (h1.trans (.of_kept ⟨rfl, rfl⟩)) h1)

theorem arithS_lawful (s : State) (frD : FReg) (rc : Bool) (operands : List Lane) (o : FpOut) :
    LawfulOut s (s.arithS frD rc operands o) :=
  finishFp_lawful rc (.ite ((drawn_fpscr_lawful s 3 ⟨_, rfl⟩).trans (writeS_lawful ..)) (drawn_fpscr_lawful s 3 ⟨_, rfl⟩))

theorem execFres_lawful (frD frB : FReg) (rc : Bool) (s : State) : LawfulOut s (execFres frD frB rc s) :=
  withFp_lawful (finishFp_lawful rc
    (.ite ((drawn_fpscr_lawful s 3 (s.fpscrAfterEstimate_eq ..)).trans (writeS_lawful ..))
      (drawn_fpscr_lawful s 3 (s.fpscrAfterEstimate_eq ..))))

theorem execFrsqrte_lawful (frD frB : FReg) (rc : Bool) (s : State) : LawfulOut s (execFrsqrte frD frB rc s) :=
  withFp_lawful (finishFp_lawful rc
    (.ite ((drawn_fpscr_lawful s 3 (s.fpscrAfterEstimate_eq ..)).trans (.of_kept ⟨rfl, rfl⟩))
      (drawn_fpscr_lawful s 3 (s.fpscrAfterEstimate_eq ..))))

theorem convert_lawful (s : State) (frD frB : FReg) (rc : Bool) (rn : BitVec 2) :
    LawfulOut s (s.convert frD frB rc rn) :=
  finishFp_lawful rc (.ite ((drawn_fpscr_lawful s 3 ⟨_, rfl⟩).trans (.of_kept ⟨rfl, rfl⟩))
    (drawn_fpscr_lawful s 3 ⟨_, rfl⟩))

theorem compareLanes_lawful (s : State) (crfD : CrField) (a b : Lane) (raised : Word) :
    LawfulOut s (s.compareLanes crfD a b raised) :=
  finishFp_lawful false (.of_control rfl (.inr ⟨_, rfl⟩))

/-- Paired arithmetic is lawful where what it makes of FPSCR is recomputed. -/
theorem arithPair_lawful (s : State) (frD : FReg) (rc : Bool) (op0 op1 : LaneOp) (mainIs1 : Bool)
    {after : FpOut → Word → Bool → Word} (h : ∀ o r c, ∃ v, after o r c = summarize v) :
    LawfulOut s (s.arithPair frD rc op0 op1 mainIs1 after) :=
  finishFp_lawful rc (.ite ((drawn_fpscr_lawful s 3 (h ..)).trans (.of_kept ⟨rfl, rfl⟩)) (drawn_fpscr_lawful s 3 (h ..)))

theorem arithLanes_lawful (s : State) (frD : FReg) (rc : Bool) (op0 op1 : LaneOp) :
    LawfulOut s (s.arithLanes frD rc op0 op1) :=
  withPaired_lawful (arithPair_lawful _ _ _ _ _ _ s.fpscrAfter_eq)

theorem estimatePair_lawful (s : State) (frD frB : FReg) (rc : Bool) (e0 e1 : Estimate) :
    LawfulOut s (s.estimatePair frD frB rc e0 e1) :=
  withPaired_lawful (arithPair_lawful _ _ _ _ _ _ fun _ _ _ => s.fpscrAfterEstimate_eq ..)

theorem movePair_lawful (s : State) (frD : FReg) (rc : Bool) (r0 r1 : Lane) (from0 from1 : List Lane) :
    LawfulOut s (s.movePair frD rc r0 r1 from0 from1) :=
  withPaired_lawful (finishMove_lawful rc (.of_kept ⟨rfl, rfl⟩))

/-! ### Floating-point and quantized loads and stores -/

theorem updateIf_lawful (s : State) (update : Bool) (rA : Reg) (ea : Word) : Lawful s (s.updateIf update rA ea) :=
  .ite (.of_kept ⟨rfl, rfl⟩) (.refl s)

theorem setLoadedSingle_lawful (s : State) (frD : FReg) (w : Word) : Lawful s (s.setLoadedSingle frD w) :=
  .ite (.of_kept ⟨rfl, rfl⟩) (.of_kept ⟨rfl, rfl⟩)

theorem readDouble_lawful (s : State) (ea : Word) : LawfulRes s (s.readDouble ea) := by
  unfold State.readDouble
  split
  · exact memRead_lawful ..
  · exact (readParts_lawful ..).bind fun _ _ h => h

theorem writeDouble_lawful (s : State) (ea : Word) (v : Lane) : LawfulRes s (s.writeDouble ea v) := by
  unfold State.writeDouble
  split
  · exact memWrite_lawful ..
  · exact storePair_lawful ..

theorem loadFd_lawful (s : State) (i : Instr) (update : Bool) (frD : FReg) (rA : Reg) (ea : Word) :
    LawfulOut s (s.loadFd i update frD rA ea) :=
  withFp_lawful (wordAligned_lawful ((readDouble_lawful ..).finish fun v u h =>
    retire_lawful ((h.trans (t := u) (u := u.setF0 frD v) (.of_kept ⟨rfl, rfl⟩)).trans (updateIf_lawful ..))))

theorem loadFs_lawful (s : State) (i : Instr) (update : Bool) (frD : FReg) (rA : Reg) (ea : Word) :
    LawfulOut s (s.loadFs i update frD rA ea) :=
  withFp_lawful (wordAligned_lawful ((memRead_lawful ..).finish fun _ _ h =>
    retire_lawful ((h.trans (setLoadedSingle_lawful ..)).trans (updateIf_lawful ..))))

theorem storeFd_lawful (s : State) (i : Instr) (update : Bool) (frS : FReg) (rA : Reg) (ea : Word) :
    LawfulOut s (s.storeFd i update frS rA ea) :=
  withFp_lawful (wordAligned_lawful ((writeDouble_lawful ..).finish fun _ _ h =>
    retire_lawful (h.trans (updateIf_lawful ..))))

theorem afterImage_lawful (s : State) (v : Lane) : Lawful s (s.afterImage v) :=
  .ite (.refl s) (.of_kept ⟨rfl, rfl⟩)

theorem storeFs_lawful (s : State) (i : Instr) (update : Bool) (frS : FReg) (rA : Reg) (ea : Word) :
    LawfulOut s (s.storeFs i update frS rA ea) :=
  withFp_lawful (wordAligned_lawful ((LawfulRes.of_lawful (afterImage_lawful ..) (memWrite_lawful ..)).finish
    fun _ _ h => retire_lawful (h.trans (updateIf_lawful ..))))

theorem readQuantized_lawful (s : State) (t : QuantType) (scale : BitVec 6) (single : Bool) (ea : Word) :
    LawfulRes s (s.readQuantized t scale single ea) := by
  unfold State.readQuantized
  split
  · exact (memRead_lawful ..).bind fun _ _ h => h
  · exact (loadPair_lawful ..).bind fun _ _ h => h

theorem writeQuantized_lawful (s : State) (t : QuantType) (scale : BitVec 6) (single : Bool) (ea : Word)
    (v0 v1 : Lane) : LawfulRes s (s.writeQuantized t scale single ea v0 v1) := by
  have h : Lawful s (s.drawnBy 2) := .of_kept ⟨rfl, rfl⟩
  unfold State.writeQuantized
  dsimp only
  split
  · exact .of_lawful h (memWrite_lawful ..)
  · exact .of_lawful h (storePair_lawful ..)

theorem loadQuantized_lawful (s : State) (update single : Bool) (i : BitVec 3) (frD : FReg) (rA : Reg) (ea : Word) :
    LawfulOut s (s.loadQuantized update single i frD rA ea) := by
  refine withQuantized_lawful ?_
  split
  · exact .refused ..
  · refine .ite (.refused ..) ((readQuantized_lawful ..).finish fun v u h => retire_lawful ?_)
    exact (h.trans (u := (u.setF0 frD v.1).setF1 frD v.2) (.of_kept ⟨rfl, rfl⟩)).trans (updateIf_lawful ..)

theorem storeQuantized_lawful (s : State) (update single : Bool) (i : BitVec 3) (frS : FReg) (rA : Reg) (ea : Word) :
    LawfulOut s (s.storeQuantized update single i frS rA ea) := by
  refine withQuantized_lawful ?_
  split
  · exact .refused ..
  · exact .ite (.refused ..) ((writeQuantized_lawful ..).finish fun _ _ h =>
      retire_lawful (h.trans (updateIf_lawful ..)))

/-! ### Special-purpose registers, MSR and rfi -/

theorem writeHid0_lawful (s : State) (v : Word) : Lawful s (s.writeHid0 v) := by
  have h : Lawful s (if v.getLsbD 11 then ((s.superseding .ice).superseding .dce).fetchFlushed
      else (s.superseding .ice).superseding .dce) := .ite (.of_kept ⟨rfl, rfl⟩) (.of_kept ⟨rfl, rfl⟩)
  exact h.trans (.of_kept ⟨rfl, rfl⟩)

/-- A write of a special-purpose register is lawful: what would enable a refused unit is refused (R63, R72, R73). -/
theorem writeSpr_lawful (s : State) (r : Spr) (v : Word) : LawfulRes s (s.writeSpr r v) := by
  cases r with
  | xer | lr | ctr | dsisr | dar | dec | sdr1 | srr0 | srr1 | sprg | ear | tbl | tbu | ibatU | ibatL | dbatU | dbatL
  | gqr | mmcr1 | pmc | sia | iabr | hid4 | dabr | l2cr | ictc => exact Lawful.of_kept ⟨rfl, rfl⟩
  | pvr | ummcr0 | ummcr1 | upmc | usia | hid1 => exact raiseProgram_lawful ..
  | wpar | dmau | dmal => exact LawfulOut.refused ..
  | hid0 => exact writeHid0_lawful s v
  | hid2 =>
    simp only [State.writeSpr]
    split
    · exact LawfulOut.refused ..
    · rename_i h
      simp only [Bool.or_eq_true, not_or, Bool.not_eq_true] at h
      obtain ⟨h30, h28⟩ := h
      refine ⟨id, id, fun ⟨hs30, hs28, hm, ht⟩ => ⟨?_, ?_, hm, ht⟩, .inl rfl⟩
      · simp only [BitVec.getLsbD_or, BitVec.getLsbD_and, h30, hs30, Bool.false_and, Bool.or_false]
      · simp only [BitVec.getLsbD_or, BitVec.getLsbD_and, h28, hs28, Bool.false_and, Bool.or_false]
  | mmcr0 =>
    simp only [State.writeSpr]
    split
    · exact LawfulOut.refused ..
    · rename_i h
      exact ⟨id, id, fun ⟨h30, h28, _, ht⟩ => ⟨h30, h28, Bool.eq_false_of_not_eq_true h, ht⟩, .inl rfl⟩
  | thrm i =>
    simp only [State.writeSpr]
    split
    · exact LawfulOut.refused ..
    · rename_i h
      refine ⟨id, id, fun ⟨h30, h28, hm, ht⟩ => ⟨h30, h28, hm, ?_⟩, .inl rfl⟩
      by_cases hi : i = 2
      · subst hi
        simpa [Vector.get_eq_getElem] using h
      · have hne : i.val ≠ 2 := fun e => hi (Fin.ext e)
        simpa [Vector.get_eq_getElem, hne] using ht

theorem withSpr_lawful {s : State} {n : BitVec 10} {run : Spr → Out} (h : ∀ r, LawfulOut s (run r)) :
    LawfulOut s (s.withSpr n run) := by
  unfold State.withSpr
  split
  · exact raiseProgram_lawful ..
  · split
    · exact h _
    · exact raiseProgram_lawful ..

theorem execMfspr_lawful (rD : Reg) (n : BitVec 10) (s : State) : LawfulOut s (execMfspr rD n s) := by
  refine withSpr_lawful fun r => ?_
  split
  · exact retire_kept_lawful ⟨rfl, rfl⟩
  · exact raiseProgram_lawful ..

theorem execMftb_lawful (rD : Reg) (n : BitVec 10) (s : State) : LawfulOut s (execMftb rD n s) :=
  .ite (retire_kept_lawful ⟨rfl, rfl⟩) (.ite (retire_kept_lawful ⟨rfl, rfl⟩)
    (.ite (raiseProgram_lawful ..) (raiseProgram_lawful ..)))

/-- A word without bits outside the mask and without LE and ILE is a legal MSR. -/
theorem mtmsr_legal {v : Word} (h0 : (v &&& mtmsrMask).getLsbD 0 = false) (h16 : (v &&& mtmsrMask).getLsbD 16 = false) :
    v &&& mtmsrMask &&& ~~~0x0004FF76 = 0 := by
  have hmask : (mtmsrMask &&& ~~~0x0004FF76 : Word) = 0x00010001 := by decide
  rw [BitVec.getLsbD_and] at h0 h16
  rw [BitVec.and_assoc, hmask, and_eq_zero_iff_getLsbD]
  intro i hi hb
  have : i = 0 ∨ i = 16 := by revert i; decide
  rcases this with rfl | rfl
  · simpa [mtmsrMask] using h0
  · simpa [mtmsrMask] using h16

theorem execMtmsr_lawful (rS : Reg) (s : State) : LawfulOut s (execMtmsr rS s) := by
  refine privileged_lawful ?_
  dsimp only
  split
  · exact .refused ..
  · rename_i h
    simp only [Bool.or_eq_true, not_or, Bool.not_eq_true] at h
    obtain ⟨h0, h16⟩ := h
    have hwrite : Lawful s { s.superseding .msr with msr := s.x rS &&& mtmsrMask } :=
      ⟨id, fun _ => mtmsr_legal h0 h16, id, .inl rfl⟩
    refine .ite (.of_lawful hwrite (takeException_lawful ..)) (.ite (.of_lawful hwrite (takeException_lawful ..)) ?_)
    exact .next ⟨fun ha => (aligned_iff _).2 (next_aligned ((aligned_iff _).1 ha)), hwrite.legal, id, .inl rfl⟩

/-- The return from an exception is lawful where it does not set LE (R795). -/
theorem returned_lawful {s : State} (h : s.returned.msrLe = false) : Lawful s s.returned := by
  refine ⟨fun _ => (aligned_iff _).2 (wordTarget_aligned s.srr0), fun hs => ?_, id, .inl rfl⟩
  have hile : s.msr &&& 0x00010000 &&& ~~~0x0004FF76 = 0 := by
    have hs' : s.msr &&& ~~~0x0004FF76 = 0 := hs
    rw [BitVec.and_assoc, BitVec.and_comm 0x00010000, ← BitVec.and_assoc, hs']
    exact BitVec.zero_and
  have hrest : s.srr1 &&& rfiMask &&& ~~~0x0004FF76 = 0 := by
    have hmask : (rfiMask &&& ~~~0x0004FF76 : Word) = 1 := by decide
    have h0 : s.srr1.getLsbD 0 = false := by
      simpa [State.msrLe, State.msrAfterRfi, rfiMask] using h
    rw [BitVec.and_assoc, hmask, and_eq_zero_iff_getLsbD]
    intro i hi hb
    have : i = 0 := by revert i; decide
    rw [this, h0]
  rw [State.msrLegal, State.returned_msr, State.msrAfterRfi, BitVec.and_or_distrib_right, hile, hrest]
  rfl

theorem execRfi_lawful (s : State) : LawfulOut s (execRfi s) := by
  refine privileged_lawful ?_
  split
  · exact .refused ..
  · rename_i h
    have hret := returned_lawful (Bool.eq_false_of_not_eq_true h)
    exact .ite (.of_lawful hret (raiseProgram_lawful ..)) (.next hret)

/-! ### Every instruction -/

/-- Whatever instruction runs, it goes on lawfully. -/
theorem exec_lawful (i : Instr) (s : State) : LawfulOut s (exec i s) := by
  cases i with
  | add | subf | neg | mulhw | mulhwu | mullw => exact retire_lawful (arith_lawful ..)
  | addc | adde | addic | addic_rc | addme | addze | subfc | subfe | subfic | subfme | subfze =>
    exact retire_lawful (addedCarrying_lawful ..)
  | divw | divwu => exact .ite (retire_drawn_arith_lawful ..) (retire_lawful (arith_lawful ..))
  | and | andc | andi_rc | andis_rc | or | orc | ori | oris | xor | xori | xoris | nand | nor | eqv | slw | srw | rlwimi
  | rlwinm | rlwnm | extsb | extsh | cntlzw => exact retire_lawful (logic_lawful ..)
  | sraw | srawi => exact retire_lawful (shiftedAlgebraic_lawful ..)
  | addi | addis | mulli | cmp | cmpi | cmpl | cmpli | crand | crandc | creqv | crnand | crnor | cror | crorc | crxor
  | mcrf | mtcrf | mfcr | dcbt | dcbtst | sync | isync | eieio =>
    exact retire_kept_lawful ⟨rfl, rfl⟩
  | mcrxr =>
    refine retire_lawful (.of_kept ?_)
    unfold State.afterXerRead
    split <;> exact ⟨rfl, rfl⟩
  | b li aa lk =>
    exact .of_lawful (u := { s with lr := s.lrAfter lk }) (.of_kept ⟨rfl, rfl⟩)
      (retireTo_lawful fun h => branchTarget_aligned aa (signExtend_append_aligned li) ((pcAligned_iff _).1 h))
  | bc bo bi bd aa lk => exact branchIf_lawful fun h => branchTarget_aligned aa (signExtend_append_aligned bd) h
  | bclr bo bi lk => exact branchIf_lawful fun _ => wordTarget_aligned s.lr
  | bcctr bo bi lk =>
    refine .of_lawful (u := { s with lr := s.lrAfter lk }) (.of_kept ⟨rfl, rfl⟩) (retireTo_lawful fun h => ?_)
    split
    · exact wordTarget_aligned s.ctr
    · exact next_aligned ((pcAligned_iff _).1 h)
  | lbz | lbzx | lhz | lhzx | lha | lhax | lhbrx | lwz | lwzx | lwbrx => exact load_lawful ..
  | lbzu | lbzux | lhzu | lhzux | lhau | lhaux | lwzu | lwzux => exact loadUpdate_lawful ..
  | stb | stbx | sth | sthx | sthbrx | stw | stwx | stwbrx => exact store_lawful ..
  | stbu | stbux | sthu | sthux | stwu | stwux => exact storeUpdate_lawful ..
  | lmw => exact wordAligned_lawful ((loadWords_lawful ..).finish fun _ _ h => retire_lawful h)
  | stmw => exact wordAligned_lawful ((storeWords_lawful ..).finish fun _ _ h => retire_lawful h)
  | lswi => exact (loadString_lawful ..).finish fun _ _ h => retire_lawful h
  | lswx => exact execLswx_lawful ..
  | stswi | stswx => exact (writeEach_lawful ..).finish fun _ _ h => retire_lawful h
  | lwarx => exact execLwarx_lawful ..
  | stwcx_rc => exact execStwcx_lawful ..
  | eciwx | ecowx => exact externalControl_lawful ..
  | dcbf | dcbst | icbi => exact blockOp_lawful fun _ _ => .of_kept ⟨rfl, rfl⟩
  | dcbi => exact privileged_lawful (blockOp_lawful fun _ _ => .of_kept ⟨rfl, rfl⟩)
  | dcbz => exact execDcbz_lawful ..
  | dcbz_l => exact .ite (raiseProgram_lawful ..) (.refused ..)
  | fadd | fsub | fmul | fdiv | fmadd | fmsub | fnmadd | fnmsub => exact withFp_lawful (arithD_lawful ..)
  | fadds | fsubs | fmuls | fdivs | fmadds | fmsubs | fnmadds | fnmsubs | frsp => exact withFp_lawful (arithS_lawful ..)
  | fsqrt => exact .ite (raiseProgram_lawful ..) (withFp_lawful (arithD_lawful ..))
  | fsqrts => exact .ite (raiseProgram_lawful ..) (withFp_lawful (arithS_lawful ..))
  | fres => exact execFres_lawful ..
  | frsqrte => exact execFrsqrte_lawful ..
  | fctiw | fctiwz => exact withFp_lawful (convert_lawful ..)
  | fcmpo | fcmpu => exact withFp_lawful (compareLanes_lawful ..)
  | fabs | fnabs | fneg | fmr | fsel | mffs => exact withFp_lawful (finishMove_lawful _ (.of_kept ⟨rfl, rfl⟩))
  | lfd | lfdu | lfdx | lfdux => exact loadFd_lawful ..
  | lfs | lfsu | lfsx | lfsux => exact loadFs_lawful ..
  | stfd | stfdu | stfdx | stfdux => exact storeFd_lawful ..
  | stfs | stfsu | stfsx | stfsux => exact storeFs_lawful ..
  | stfiwx => exact withFp_lawful (wordAligned_lawful ((memWrite_lawful ..).finish fun _ _ h => retire_lawful h))
  | mtspr => exact withSpr_lawful fun r => (writeSpr_lawful ..).finish fun _ _ h => retire_lawful h
  | mfspr => exact execMfspr_lawful ..
  | mftb => exact execMftb_lawful ..
  | mtmsr => exact execMtmsr_lawful ..
  | mcrfs => exact withFp_lawful (retire_lawful (.of_control rfl (.inr ⟨_, rfl⟩)))
  | mtfsb0 | mtfsf | mtfsfi => exact withFp_lawful (finishFp_summarized_lawful ..)
  | mtfsb1 crbD rc =>
    refine withFp_lawful (.ite (.refused ..) (finishFp_lawful rc (.of_control rfl (.inr ?_))))
    change ∃ v, fpscrAfterSet s.fpscr crbD = summarize v
    unfold fpscrAfterSet
    dsimp only
    split <;> exact ⟨_, rfl⟩
  | tlbia => exact .ite (raiseProgram_lawful ..) (privileged_lawful (retire_kept_lawful ⟨rfl, rfl⟩))
  | tlbie | tlbsync | mtsr | mfsr | mtsrin | mfsrin | mfmsr => exact privileged_lawful (retire_kept_lawful ⟨rfl, rfl⟩)
  | sc => exact takeException_lawful ..
  | rfi => exact execRfi_lawful s
  | tw | twi => exact .ite (raiseProgram_lawful ..) (retire_lawful (.refl s))
  | psq_l | psq_lu | psq_lx | psq_lux => exact loadQuantized_lawful ..
  | psq_st | psq_stu | psq_stx | psq_stux => exact storeQuantized_lawful ..
  | ps_add | ps_sub | ps_mul | ps_div | ps_madd | ps_madds0 | ps_madds1 | ps_msub | ps_nmadd | ps_nmsub | ps_muls0
  | ps_muls1 => exact arithLanes_lawful ..
  | ps_sum0 | ps_sum1 => exact withPaired_lawful (arithPair_lawful _ _ _ _ _ _ s.fpscrAfter_eq)
  | ps_res | ps_rsqrte => exact estimatePair_lawful ..
  | ps_abs | ps_neg | ps_nabs | ps_mr | ps_sel | ps_merge00 | ps_merge01 | ps_merge10 | ps_merge11 =>
    exact movePair_lawful ..
  | ps_cmpu0 | ps_cmpo0 =>
    exact withPaired_lawful (.of_lawful (u := s.drawnBy 2) (.of_kept ⟨rfl, rfl⟩) (compareLanes_lawful ..))
  | ps_cmpu1 | ps_cmpo1 => exact withPaired_lawful (compareLanes_lawful ..)

/-! ### Every step -/

theorem execWord_lawful (w : Word) (s : State) : LawfulOut s (execWord w s) := by
  unfold execWord
  split
  · exact raiseProgram_lawful ..
  · exact .refused ..
  · exact .refused ..
  · exact .ite (.refused ..) (exec_lawful ..)

theorem fetch_lawful (s : State) : LawfulRes s s.fetch := by
  rcases s.fetch_cases with ⟨w, t, h, ht⟩ | ⟨c, h⟩ | h | ⟨r, h⟩ <;> rw [h]
  · change Lawful s t
    rw [ht]
    exact .of_kept ⟨rfl, rfl⟩
  · exact takeException_lawful ..
  · exact machineCheck_lawful ..
  · exact LawfulOut.refused ..

theorem instruction_lawful (s : State) : LawfulOut s s.instruction :=
  .ite (takeException_lawful ..) ((fetch_lawful s).finish fun _ _ h => .of_lawful h (execWord_lawful ..))

/-- An interrupt is an exception from a state in which its line or the wait has ended. -/
theorem interrupt_lawful {s : State} {o : Out} (h : s.interrupt = some o) : LawfulOut s o := by
  have hto : ∀ u e ra info, u.control = s.control ∧ u.fpscr = s.fpscr → LawfulOut s (takeException e ra info u) :=
    fun u e ra info hu => .of_lawful (.of_kept hu) (takeException_lawful ..)
  have hcheck : ∀ u info, u.control = s.control ∧ u.fpscr = s.fpscr → LawfulOut s (machineCheck info u) :=
    fun u info hu => .of_lawful (.of_kept hu) (machineCheck_lawful ..)
  unfold State.interrupt at h
  dsimp only at h
  split at h
  · cases h; exact hcheck _ _ ⟨rfl, rfl⟩
  split at h
  · cases h; exact hto _ _ _ _ ⟨rfl, rfl⟩
  split at h
  · cases h; exact hto _ _ _ _ ⟨rfl, rfl⟩
  split at h
  · cases h; exact hto _ _ _ _ ⟨rfl, rfl⟩
  · cases h

theorem boundary_lawful (s : State) : LawfulOut s s.boundary := by
  refine .ite (.refused ..) (.ite (.refused ..) ?_)
  split
  · exact interrupt_lawful ‹_›
  · exact .ite (.next (.refl s)) (instruction_lawful s)

theorem reset_unitsOff : State.reset.refusedUnitsOff := ⟨rfl, rfl, rfl, by decide⟩

/-- The state after reset is lawful to reach from anywhere: every register has its reset value (R74). -/
theorem hardReset_lawful (s : State) : Lawful s s.afterHardReset where
  aligned := fun _ => show (0xFFF00100 : Word) &&& 3 = 0 by decide
  legal := fun _ => show (0x00000040 : Word) &&& ~~~0x0004FF76 = 0 by decide
  unitsOff := fun _ => reset_unitsOff
  fpscr := .inr (State.fpscrComputed_of_summarize (show (0 : Word) = summarize 0 by decide))

theorem step_lawful (s : State) : LawfulOut s (step s) := by
  refine .ite (.next (hardReset_lawful s)) (.ite ⟨fun t h => by cases h⟩ ?_)
  have h := boundary_lawful s
  cases hb : s.boundary with
  | next u =>
    exact .next ((h.next_lawful u hb).trans (.of_kept ⟨rfl, rfl⟩))
  | fault f => exact ⟨fun t h => by cases h⟩
  | refused r => exact .refused ..

end Sys2Proof.Machine

namespace Sys2Proof.Registers

open Sys2Proof.Machine

/-- Settles O57: every step goes on lawfully. -/
theorem registersStayLegal : Obligations.RegistersStayLegal := by
  intro s t h
  have hst := (step_lawful s).next_lawful t h
  exact ⟨hst.aligned, hst.legal, hst.unitsOff⟩

/-- Settles O58: an instruction leaves FPSCR or recomputes it, and so does every step. -/
theorem fpscrSummaryBits : Obligations.FpscrSummaryBits := by
  refine ⟨fun i s t h => ((exec_lawful i s).next_lawful t h).fpscr, fun s t hs h => ?_⟩
  rcases ((step_lawful s).next_lawful t h).fpscr with heq | hcomputed
  · exact (State.fpscrComputed_congr heq).2 hs
  · exact hcomputed

/-- Settles O59: the values at reset. -/
theorem resetMeetsInvariants : Obligations.ResetMeetsInvariants := by
  refine ⟨?_, ?_, State.fpscrComputed_of_summarize (v := 0) (by decide), reset_unitsOff, State.reset_wf⟩
  · exact show (0xFFF00100 : Word) &&& 3 = 0 by decide
  · exact show (0x00000040 : Word) &&& ~~~0x0004FF76 = 0 by decide

end Sys2Proof.Registers
end

section
/-! PROOFS. The family 10_state.md: the special-purpose registers. -/

namespace Sys2Proof.Machine

/-! ### Numbers of registers -/

/-- A number of Gekko names the same register on Broadway (R60). -/
theorem sprOf_of_gekko {n : BitVec 10} {r : Spr} (h : sprOf .gekko n = some r) (part : Part) :
    sprOf part n = some r := by
  cases part with
  | gekko => exact h
  | broadway =>
    obtain ⟨e, he, hr⟩ := Option.map_eq_some_iff.1 h
    have he : sprNumbers.find? (fun e => e.1 = n.toNat) = some e := he
    change ((sprNumbers ++ broadwayNumbers).find? (fun e => e.1 = n.toNat)).map (·.2) = some r
    rw [List.find?_append, he]
    exact congrArg some hr

/-- A number names a register of its part only where the part's table lists the pair. -/
theorem mem_of_sprOf {part : Part} {n : BitVec 10} {r : Spr} (h : sprOf part n = some r) :
    (n.toNat, r) ∈ sprNumbers ∨ part = .broadway ∧ (n.toNat, r) ∈ broadwayNumbers := by
  obtain ⟨e, he, rfl⟩ := Option.map_eq_some_iff.1 h
  have hn : e.1 = n.toNat := by simpa using List.find?_some he
  have hmem := List.mem_of_find?_eq_some he
  rw [← hn]
  split at hmem
  · exact (List.mem_append.1 hmem).imp_right fun h => ⟨‹_›, h⟩
  · exact .inl hmem

/-- Registers that `mtspr` cannot write (R52, R563). -/
def Spr.readOnly : Spr → Bool
  | .pvr | .ummcr0 | .ummcr1 | .upmc _ | .usia | .hid1 => true
  | _ => false

/-- Registers that `mfspr` cannot read: the time base (R52, R564). -/
def Spr.writeOnly : Spr → Bool
  | .tbl | .tbu => true
  | _ => false

theorem State.writeSpr_readOnly {r : Spr} (h : r.readOnly = true) (s : State) (v : Word) :
    s.writeSpr r v = .stop (raiseProgram .illegalInstruction s) := by
  cases r with
  | pvr | ummcr0 | ummcr1 | upmc | usia | hid1 => rfl
  | _ => cases h

theorem State.readSpr_writeOnly {r : Spr} (h : r.writeOnly = true) (s : State) : s.readSpr r = none := by
  cases r with
  | tbl | tbu => rfl
  | _ => cases h

/-- A number in neither list names no register, or one that the direction excludes. -/
theorem excluded_of_sprOf {part : Part} {n : BitVec 10} {r : Spr} {l : List Nat} {excluded : Spr → Bool}
    (hl : ∀ e ∈ sprNumbers, e.1 ∈ l ∨ excluded e.2 = true) (hn : n.toNat ∉ l)
    (hb : ¬(part = .broadway ∧ (560 ≤ n.toNat ∧ n.toNat ≤ 575 ∨ n.toNat = 1011))) (h : sprOf part n = some r) :
    excluded r = true := by
  have hall : ∀ e ∈ broadwayNumbers, 560 ≤ e.1 ∧ e.1 ≤ 575 ∨ e.1 = 1011 := by decide
  rcases mem_of_sprOf h with hmem | ⟨hpart, hmem⟩
  · exact (hl _ hmem).resolve_left hn
  · exact absurd ⟨hpart, hall _ hmem⟩ hb

theorem raiseProgram_of_ile {s : State} (h : s.msrIle = false) (k : ProgramKind) :
    raiseProgram k s = .next (s.entered .program s.pc k.info) := takeException_of_ile h

theorem sprPrivileged_and_pr {n : BitVec 10} {s : State} (h : n.getLsbD 4 = true → s.msrPr = false) :
    (sprPrivileged n && s.msrPr) = false := by
  unfold sprPrivileged
  cases hn : n.getLsbD 4 with
  | false => rfl
  | true => rw [h hn]; rfl

theorem State.withSpr_none {s : State} {n : BitVec 10} {run : Spr → Out} (hp : n.getLsbD 4 = true → s.msrPr = false)
    (hn : sprOf s.params.part n = none) : s.withSpr n run = raiseProgram .illegalInstruction s := by
  rw [State.withSpr, sprPrivileged_and_pr hp, hn]
  rfl

theorem State.withSpr_some {s : State} {n : BitVec 10} {run : Spr → Out} {r : Spr}
    (hp : n.getLsbD 4 = true → s.msrPr = false) (hn : sprOf s.params.part n = some r) : s.withSpr n run = run r := by
  rw [State.withSpr, sprPrivileged_and_pr hp, hn]
  rfl

/-- An access to a number is illegal where any register it names makes it illegal. -/
theorem State.withSpr_illegal {s : State} {n : BitVec 10} {run : Spr → Out}
    (hp : n.getLsbD 4 = true → s.msrPr = false)
    (h : ∀ r, sprOf s.params.part n = some r → run r = raiseProgram .illegalInstruction s) :
    s.withSpr n run = raiseProgram .illegalInstruction s := by
  cases hn : sprOf s.params.part n with
  | none => exact State.withSpr_none hp hn
  | some r => exact (State.withSpr_some hp hn).trans (h r hn)

/-! ### Completed moves -/

/-- `mtspr` of a writable register completes with what the write makes of the state. -/
theorem exec_mtspr_of_write {rS : Reg} {n : BitVec 10} {r : Spr} {s u : State} (hse : s.msrSe = false)
    (hp : n.getLsbD 4 = true → s.msrPr = false) (hn : sprOf s.params.part n = some r)
    (hw : s.writeSpr r (s.x rS) = .ok () u) (hmsr : u.msr = s.msr) : exec (.mtspr rS n) s = .next u.ended := by
  have hu : u.msrSe = false := by rw [State.msrSe, hmsr]; exact hse
  rw [exec_mtspr, execMtspr, State.withSpr_some hp hn, hw, Res.finish_ok, retire_untraced hu]
  rfl

/-- `mtspr` of a write that is refused. -/
theorem exec_mtspr_of_stop {rS : Reg} {n : BitVec 10} {r : Spr} {s : State} {o : Out}
    (hp : n.getLsbD 4 = true → s.msrPr = false) (hn : sprOf s.params.part n = some r)
    (hw : s.writeSpr r (s.x rS) = .stop o) : exec (.mtspr rS n) s = o := by
  rw [exec_mtspr, execMtspr, State.withSpr_some hp hn, hw, Res.finish_stop]

/-- `mfspr` of a readable register completes with its value in rD. -/
theorem exec_mfspr_of_read {rD : Reg} {n : BitVec 10} {r : Spr} {s : State} {v : Word} (hse : s.msrSe = false)
    (hp : n.getLsbD 4 = true → s.msrPr = false) (hn : sprOf s.params.part n = some r)
    (hr : s.readSpr r = some v) : exec (.mfspr rD n) s = .next (s.drawn.setX rD v).ended := by
  rw [exec_mfspr, execMfspr, State.withSpr_some hp hn, hr]
  exact retire_untraced hse

/-- Reserved bits are free; the defined ones read as written (R562). -/
theorem readReserved_and {reserved mask : Word} (h : reserved &&& mask = 0) (v draw : Word) :
    readReserved reserved v draw &&& mask = v &&& mask := by
  rw [and_eq_zero_iff_getLsbD] at h
  refine BitVec.eq_of_getLsbD_eq fun i hi => ?_
  simp only [readReserved, BitVec.getLsbD_and, BitVec.getLsbD_or, BitVec.getLsbD_not]
  cases hr : reserved.getLsbD i <;> cases hm : mask.getLsbD i <;> simp_all

/-! ### HID0 (R143, R862) -/

/-- A write of HID0 changes it, the record of its last values, and with ICFI that of stale words. -/
theorem State.writeHid0_eq (s : State) (v : Word) :
    s.writeHid0 v = { s with
      hid0 := v
      late := ⟨.dce, s.hid0⟩ :: ⟨.ice, s.hid0⟩ :: s.late
      stale := if v.getLsbD 11 then s.fetchFlushed.stale else s.stale } := by
  have hlate : (s.superseding .ice).superseding .dce = { s with
      late := ⟨.dce, s.hid0⟩ :: ⟨.ice, s.hid0⟩ :: s.late } := rfl
  have hflushed : ((s.superseding .ice).superseding .dce).fetchFlushed = { s with
      late := ⟨.dce, s.hid0⟩ :: ⟨.ice, s.hid0⟩ :: s.late
      stale := s.fetchFlushed.stale } := rfl
  unfold State.writeHid0
  dsimp only
  rw [hflushed, hlate]
  cases v.getLsbD 11 <;> rfl

@[simp] theorem State.writeHid0_msr (s : State) (v : Word) : (s.writeHid0 v).msr = s.msr := by rw [s.writeHid0_eq]
@[simp] theorem State.writeHid0_hid0 (s : State) (v : Word) : (s.writeHid0 v).hid0 = v := by rw [s.writeHid0_eq]
@[simp] theorem State.writeHid0_dirty (s : State) (v : Word) : (s.writeHid0 v).dirty = s.dirty := by
  rw [s.writeHid0_eq]
@[simp] theorem State.writeHid0_mem (s : State) (v : Word) : (s.writeHid0 v).mem = s.mem := by rw [s.writeHid0_eq]
@[simp] theorem State.writeHid0_late (s : State) (v : Word) :
    (s.writeHid0 v).late = ⟨.dce, s.hid0⟩ :: ⟨.ice, s.hid0⟩ :: s.late := by rw [s.writeHid0_eq]
@[simp] theorem State.ended_late (s : State) : s.ended.late = s.late := rfl
@[simp] theorem State.ended_hid0 (s : State) : s.ended.hid0 = s.hid0 := rfl

theorem State.writeHid0_stale (s : State) (v : Word) :
    (s.writeHid0 v).stale = if v.getLsbD 11 then s.fetchFlushed.stale else s.stale := by rw [s.writeHid0_eq]

/-- The values HID0 was written with since the last `sync` begin with the one just written. -/
theorem State.hid0Writes_writeHid0 (s : State) (v : Word) :
    (s.writeHid0 v).ended.hid0Writes =
      v :: (s.hid0 :: (s.late.filter (fun e => e.reg = .dce)).map (·.old)).dropLast := by
  simp [State.hid0Writes]

/-- DCFI, or DCE cleared, has the data cache drop what it holds (R143). -/
theorem State.dropping_writeHid0 {s : State} {v : Word} (h : v.getLsbD 10 = true ∨ v.getLsbD 14 = false) :
    (s.writeHid0 v).ended.dropping = true := by
  rw [State.dropping, State.hid0Writes_writeHid0, List.any_cons]
  refine Bool.or_eq_true_iff.2 (.inl ?_)
  rcases h with h | h <;> rw [h]
  · rfl
  · exact Bool.or_true _

/-- A write of HID0 with neither, after a completed `sync`, drops nothing. -/
theorem State.not_dropping_writeHid0 {s : State} {v : Word} (h10 : v.getLsbD 10 = false) (h14 : v.getLsbD 14 = true)
    (hlate : s.late = []) : (s.writeHid0 v).ended.dropping = false := by
  rw [State.dropping, State.hid0Writes_writeHid0, hlate, List.any_cons, h10, h14]
  rfl

theorem exec_isync_untraced {s : State} (h : s.msrSe = false) : exec .isync s = .next s.resynced.ended :=
  retire_untraced h

theorem exec_sync_untraced {s : State} (h : s.msrSe = false) : exec .sync s = .next s.synced.ended :=
  retire_untraced h

/-- With ICFI written or ICE cleared, the next `isync` leaves as stale only words whose stores had not reached memory
before a `sync` (R140, R862). -/
theorem State.mem_resynced_writeHid0 {s : State} {v : Word} (h : v.getLsbD 11 = true ∨ v.getLsbD 15 = false)
    {e : StaleWord} (he : e ∈ (s.writeHid0 v).ended.resynced.stale) :
    ∃ o ∈ s.stale, e.word = o.word ∧ e.olds = o.olds ∧ (o.stage = .written ∨ o.stage = .stored) := by
  obtain ⟨o, ho, hcomplete, rfl⟩ := State.mem_resynced_stale he
  have ho : o ∈ if v.getLsbD 11 then s.fetchFlushed.stale else s.stale := s.writeHid0_stale v ▸ ho
  rw [State.ended_hid0, State.writeHid0_hid0] at hcomplete
  split at ho
  · obtain ⟨o', hmem, hword, holds, ⟨hsame, hearly⟩ | hsettled⟩ := State.mem_fetchFlushed_stale ho
    · refine ⟨o', hmem, ?_, ?_, hearly⟩ <;> split <;> assumption
    · rw [hsettled] at hcomplete
      cases hcomplete
  · rw [h.resolve_left ‹_›] at hcomplete
    refine ⟨o, ho, ?_, ?_, ?_⟩
    · split <;> rfl
    · split <;> rfl
    · cases hstage : o.stage with
      | written => exact .inl rfl
      | stored => exact .inr rfl
      | synced | invalidated | settled => rw [hstage] at hcomplete; cases hcomplete

/-! ### Dropped words (R552) -/

/-- Where a word was dropped, the bytes of the other words are as they were. -/
theorem Memory.read_reverted_other {m : Memory} {e : DirtyWord} {a : Nat} (draw : BitVec 64)
    (h : e.cached = true → e.word % 2 ^ 30 ≠ a / 4) : (m.reverted e draw).read a = m.read a := by
  unfold Memory.reverted
  split
  · refine Memory.read_writeBytes_outside _ _ _ _ fun i hi ha => h ‹_› ?_
    rw [beBytes_length] at hi
    rw [ha, byteAt, BitVec.toNat_add, BitVec.toNat_ofNat, BitVec.toNat_ofNat]
    omega
  · rfl

/-- Dropping words leaves the bytes of the others. -/
theorem State.read_discarded {s : State} {lost : DirtyWord → Bool} {a : Nat}
    (h : ∀ e ∈ s.dirty, lost e = true → e.cached = true → e.word % 2 ^ 30 ≠ a / 4) :
    (s.discarded lost).mem.read a = s.mem.read a := by
  have hgone : ∀ p ∈ (s.dirty.filter lost).zipIdx, p.1.cached = true → p.1.word % 2 ^ 30 ≠ a / 4 := by
    intro p hp
    obtain ⟨hmem, hlost⟩ := List.mem_filter.1 (List.fst_mem_of_mem_zipIdx hp)
    exact h _ hmem hlost
  simp only [State.discarded]
  generalize (s.dirty.filter lost).zipIdx = l at hgone
  generalize s.mem = m
  induction l generalizing m with
  | nil => rfl
  | cons p l ih =>
    rw [List.foldl_cons, ih (fun q hq => hgone q (List.mem_cons_of_mem _ hq))]
    exact Memory.read_reverted_other _ (hgone p List.mem_cons_self)

/-- A `sync` with the data cache told to drop what it holds leaves no word held back. -/
theorem State.not_cached_of_mem_synced {s : State} (h : s.dropping = true) {e : DirtyWord} (he : e ∈ s.synced.dirty) :
    e.cached = false := by
  obtain ⟨o, ho, hsynced⟩ := List.mem_filterMap.1 he
  have hkept : s.undecided o = false := by simpa using (List.mem_filter.1 ho).2
  have hcached : o.cached = false := by simpa [State.undecided, h] using hkept
  unfold DirtyWord.synced at hsynced
  split at hsynced
  · cases hsynced; exact hcached
  · cases hsynced
  · cases hsynced; exact hcached

end Sys2Proof.Machine

namespace Sys2Proof.Registers

open Sys2Proof.Machine

/-- Settles O12: a number that the list for the direction does not hold names no register, or one that `mtspr` cannot
write or `mfspr` cannot read. -/
theorem unknownSprIllegal : Obligations.UnknownSprIllegal := by
  constructor
  · intro n r s hile hpr hn h268 h269
    have hpriv : (sprPrivileged n && s.msrPr) = true := by rw [sprPrivileged, hn, hpr]; rfl
    rw [exec_mftb, execMftb, if_neg h268, if_neg h269, if_pos hpriv]
    exact raiseProgram_of_ile hile _
  · intro n r s hile hp
    refine ⟨fun hn hb => ?mtspr, fun hn hb => ?mfspr, fun h268 h269 => ?mftb⟩
    case mtspr =>
      refine .trans (State.withSpr_illegal hp fun spr hspr => ?_) (raiseProgram_of_ile hile .illegalInstruction)
      have hro : spr.readOnly = true := excluded_of_sprOf (by decide) hn hb hspr
      rw [State.writeSpr_readOnly hro, Res.finish_stop]
    case mfspr =>
      refine .trans (State.withSpr_illegal hp fun spr hspr => ?_) (raiseProgram_of_ile hile .illegalInstruction)
      have hwo : spr.writeOnly = true := excluded_of_sprOf (by decide) hn hb hspr
      simp only [State.readSpr_writeOnly hwo]
    case mftb =>
      rw [exec_mftb, execMftb, if_neg h268, if_neg h269, if_neg (by rw [sprPrivileged_and_pr hp]; decide)]
      exact raiseProgram_of_ile hile _

/-- Settles O51: each number names its register on both parts, and the register reads as `readSpr` has it. -/
theorem specialRegisterReads : Obligations.SpecialRegisterReads := by
  intro r s hse put reads within
  have hreads {n : BitVec 10} (spr : Spr) {v : Word} (hp : n.getLsbD 4 = true → s.msrPr = false)
      (hn : sprOf s.params.part n = some spr) (hv : s.readSpr spr = some v) : reads n v :=
    exec_mfspr_of_read hse hp hn hv
  have hwithin {n : BitVec 10} (spr : Spr) {reserved mask old : Word} (hp : n.getLsbD 4 = true → s.msrPr = false)
      (hn : sprOf s.params.part n = some spr)
      (hv : s.readSpr spr = some (readReserved reserved old (s.free.setWidth 32))) (hm : reserved &&& mask = 0) :
      within n mask old := ⟨_, hreads spr hp hn hv, readReserved_and hm _ _⟩
  have hfree {n : BitVec 10} (spr : Spr) (hp : n.getLsbD 4 = true → s.msrPr = false)
      (hn : sprOf s.params.part n = some spr) (hv : s.readSpr spr = some (s.free.setWidth 32)) : within n 0 0 :=
    ⟨_, hreads spr hp hn hv, BitVec.and_zero⟩
  have gekko {n : BitVec 10} {spr : Spr} (h : sprOf .gekko n = some spr) : sprOf s.params.part n = some spr :=
    sprOf_of_gekko h _
  have user {n : BitVec 10} (h : n.getLsbD 4 = false) (h' : n.getLsbD 4 = true) : s.msrPr = false :=
    absurd (h.symm.trans h') (by decide)
  refine ⟨hreads .lr (user rfl) (gekko (by decide)) rfl, hreads .ctr (user rfl) (gekko (by decide)) rfl,
    hreads .ummcr0 (user rfl) (gekko (by decide)) rfl, hreads .ummcr1 (user rfl) (gekko (by decide)) rfl,
    ?xer, ?user, retire_untraced hse, retire_untraced hse, fun hpr => ?supervisor⟩
  case xer =>
    intro hx
    refine hreads .xer (user rfl) (gekko (by decide)) ?_
    rw [State.readSpr, State.xerRead, hx]
    rfl
  case user =>
    simp only [List.forall_mem_cons, List.not_mem_nil, false_implies, implies_true, and_true]
    exact ⟨hfree (.upmc 0) (user rfl) (gekko (by decide)) rfl, hfree (.upmc 1) (user rfl) (gekko (by decide)) rfl,
      hfree .usia (user rfl) (gekko (by decide)) rfl, hfree (.upmc 2) (user rfl) (gekko (by decide)) rfl,
      hfree (.upmc 3) (user rfl) (gekko (by decide)) rfl⟩
  case supervisor =>
    have sup {n : BitVec 10} (_ : n.getLsbD 4 = true) : s.msrPr = false := hpr
    refine ⟨hreads .dsisr sup (gekko (by decide)) rfl, hreads .dar sup (gekko (by decide)) rfl,
      hreads .dec sup (gekko (by decide)) rfl, hreads .srr0 sup (gekko (by decide)) rfl,
      hreads .srr1 sup (gekko (by decide)) rfl, hreads .ear sup (gekko (by decide)) rfl,
      hreads .mmcr0 sup (gekko (by decide)) rfl, hreads .mmcr1 sup (gekko (by decide)) rfl,
      hreads .hid0 sup (gekko (by decide)) rfl, hreads .hid1 sup (gekko (by decide)) rfl,
      hreads .iabr sup (gekko (by decide)) rfl, hreads .dabr sup (gekko (by decide)) rfl,
      hreads .ictc sup (gekko (by decide)) rfl, ?pvr,
      fun k => hreads (.sprg k) sup (gekko (by revert k; decide)) rfl,
      fun k => hwithin (.gqr k) sup (gekko (by revert k; decide)) rfl (by decide),
      hwithin .sdr1 sup (gekko (by decide)) rfl (by decide), hwithin .hid2 sup (gekko (by decide)) rfl (by decide),
      ?l2cr, ?free, fun k => ?bats, fun hpart => ?broadway⟩
    case pvr =>
      refine hreads .pvr sup (gekko (by decide)) ?_
      rw [State.readSpr, Params.pvr]
      cases s.params.part <;> rfl
    case l2cr =>
      refine ⟨_, hreads .l2cr sup (gekko (by decide)) rfl, ?_⟩
      have h1 : (0xFFFFFFFE : Word) &&& 0xFFFFFFFE = 0xFFFFFFFE := by decide
      have h2 : (1 : Word) &&& 0xFFFFFFFE = 0 := by decide
      rw [BitVec.and_or_distrib_right, BitVec.and_assoc, BitVec.and_assoc, h1, h2]
      simp
    case free =>
      simp only [List.forall_mem_cons, List.not_mem_nil, false_implies, implies_true, and_true]
      exact ⟨hfree .wpar sup (gekko (by decide)) rfl, hfree .dmau sup (gekko (by decide)) rfl,
        hfree .dmal sup (gekko (by decide)) rfl, hfree (.pmc 0) sup (gekko (by decide)) rfl,
        hfree (.pmc 1) sup (gekko (by decide)) rfl, hfree .sia sup (gekko (by decide)) rfl,
        hfree (.pmc 2) sup (gekko (by decide)) rfl, hfree (.pmc 3) sup (gekko (by decide)) rfl,
        hfree (.thrm 0) sup (gekko (by decide)) rfl, hfree (.thrm 1) sup (gekko (by decide)) rfl,
        hfree (.thrm 2) sup (gekko (by decide)) rfl⟩
    case bats =>
      exact ⟨hwithin (.ibatU ⟨k, by omega⟩) sup (gekko (by revert k; decide)) rfl (by decide),
        hwithin (.ibatL ⟨k, by omega⟩) sup (gekko (by revert k; decide)) rfl (by decide),
        hwithin (.dbatU ⟨k, by omega⟩) sup (gekko (by revert k; decide)) rfl (by decide),
        hwithin (.dbatL ⟨k, by omega⟩) sup (gekko (by revert k; decide)) rfl (by decide)⟩
    case broadway =>
      have broadway {n : BitVec 10} {spr : Spr} (h : sprOf .broadway n = some spr) :
          sprOf s.params.part n = some spr := hpart ▸ h
      refine ⟨hreads .hid4 sup (broadway (by decide)) rfl, fun k => ?_⟩
      exact ⟨hwithin (.ibatU ⟨k + 4, by omega⟩) sup (broadway (by revert k; decide)) rfl (by decide),
        hwithin (.ibatL ⟨k + 4, by omega⟩) sup (broadway (by revert k; decide)) rfl (by decide),
        hwithin (.dbatU ⟨k + 4, by omega⟩) sup (broadway (by revert k; decide)) rfl (by decide),
        hwithin (.dbatL ⟨k + 4, by omega⟩) sup (broadway (by revert k; decide)) rfl (by decide)⟩

/-- The clauses of O50 about HID0: what `mtspr 1008` leaves, and what the next `isync` and `sync` make of it. -/
theorem hid0_written {r : Reg} {s : State} (hse : s.msrSe = false) (hpr : s.msrPr = false) :
    let v := s.x r
    ∃ t, exec (.mtspr r 1008) s = .next t ∧ t = { s with
        hid0 := v
        late := ⟨.dce, s.hid0⟩ :: ⟨.ice, s.hid0⟩ :: s.late
        stale := t.stale
        pc := s.pc + 4 } ∧
      (v.getLsbD 11 = false → t.stale = s.stale) ∧
      (v.getLsbD 11 = true → t.stale = s.stale.map fun e =>
        if e.stage = .synced ∨ e.stage = .invalidated then { e with stage := .settled } else e) ∧
      (∃ u, exec .isync t = .next u ∧ u.ice = v.getLsbD 15 ∧ (v.getLsbD 11 = true ∨ v.getLsbD 15 = false →
        ∀ e ∈ u.stale, ∃ o ∈ s.stale, e.word = o.word ∧ e.olds = o.olds ∧ (o.stage = .written ∨ o.stage = .stored))) ∧
      (v.getLsbD 10 = true ∨ v.getLsbD 14 = false → ∃ u, exec .sync t = .next u ∧ (∀ e ∈ u.dirty, e.cached = false) ∧
        ∀ a, (∀ e ∈ s.dirty, e.cached = true → e.word % 2 ^ 30 ≠ a / 4) → u.mem.read a = s.mem.read a) ∧
      (v.getLsbD 10 = false → v.getLsbD 14 = true → s.late = [] → (∀ e ∈ s.dirty, e.mixed = false) →
        ∃ u, exec .sync t = .next u ∧ u.mem = s.mem) := by
  intro v
  have hse' : (s.writeHid0 v).ended.msrSe = false := by
    change (s.writeHid0 v).msr.getLsbD 10 = false
    rw [State.writeHid0_msr]
    exact hse
  refine ⟨(s.writeHid0 v).ended,
    exec_mtspr_of_write hse (fun _ => hpr) (sprOf_of_gekko (by decide : _ = some .hid0) _) rfl (s.writeHid0_msr v), ?frame,
    fun h11 => ?kept, fun h11 => ?flushed, ⟨_, exec_isync_untraced hse', ?ice, fun h => ?stale⟩,
    fun h => ⟨_, exec_sync_untraced hse', ?dropped, fun a ha => ?others⟩,
    fun h10 h14 hlate hmixed => ⟨_, exec_sync_untraced hse', ?nothing⟩⟩
  case frame =>
    change { s.writeHid0 v with pc := (s.writeHid0 v).pc + 4 } = _
    rw [s.writeHid0_eq]
    rfl
  case kept => exact (s.writeHid0_stale v).trans (by rw [h11]; rfl)
  case flushed => exact (s.writeHid0_stale v).trans (by rw [h11]; rfl)
  case ice => exact (State.resynced_ice _).trans (congrArg (·.getLsbD 15) (s.writeHid0_hid0 v))
  case stale => exact fun e he => State.mem_resynced_writeHid0 h he
  case dropped => exact fun e he => State.not_cached_of_mem_synced (State.dropping_writeHid0 h) he
  case others =>
    refine (State.read_discarded fun e he _ hc => ha e ?_ hc).trans (congrArg (·.read a) (s.writeHid0_mem v))
    exact s.writeHid0_dirty v ▸ he
  case nothing =>
    refine (State.synced_mem_of_decided fun e he => ?_).trans (s.writeHid0_mem v)
    have he : e ∈ s.dirty := s.writeHid0_dirty v ▸ he
    simp [State.undecided, State.not_dropping_writeHid0 h10 h14 hlate, hmixed e he]

/-- Settles O50: each number names its register on both parts, and `writeSpr` says what the write does. -/
theorem specialRegisterWrites : Obligations.SpecialRegisterWrites := by
  intro r s hse v
  have gekko {n : BitVec 10} {spr : Spr} (h : sprOf .gekko n = some spr) : sprOf s.params.part n = some spr :=
    sprOf_of_gekko h _
  have user {n : BitVec 10} (h : n.getLsbD 4 = false) (h' : n.getLsbD 4 = true) : s.msrPr = false :=
    absurd (h.symm.trans h') (by decide)
  have writes {n : BitVec 10} {u : State} (spr : Spr) (hp : n.getLsbD 4 = true → s.msrPr = false)
      (hn : sprOf s.params.part n = some spr) (hw : s.writeSpr spr v = .ok () u) (hmsr : u.msr = s.msr) :
      exec (.mtspr r n) s = .next u.ended := exec_mtspr_of_write hse hp hn hw hmsr
  refine ⟨writes .lr (user rfl) (gekko (by decide)) rfl rfl, writes .ctr (user rfl) (gekko (by decide)) rfl rfl,
    ⟨_, writes .xer (user rfl) (gekko (by decide)) rfl rfl, rfl, rfl⟩, fun hpr => ?supervisor⟩
  case supervisor =>
    intro writesIbat writesDbat
    have sup {n : BitVec 10} (_ : n.getLsbD 4 = true) : s.msrPr = false := hpr
    have stops {n : BitVec 10} {o : Out} (spr : Spr) (hn : sprOf s.params.part n = some spr)
        (hw : s.writeSpr spr v = .stop o) : exec (.mtspr r n) s = o := exec_mtspr_of_stop sup hn hw
    refine ⟨writes .dsisr sup (gekko (by decide)) rfl rfl, writes .dar sup (gekko (by decide)) rfl rfl,
      writes .srr0 sup (gekko (by decide)) rfl rfl, writes .srr1 sup (gekko (by decide)) rfl rfl,
      writes .l2cr sup (gekko (by decide)) rfl rfl, writes .ictc sup (gekko (by decide)) rfl rfl,
      writes .mmcr1 sup (gekko (by decide)) rfl rfl, writes .sia sup (gekko (by decide)) rfl rfl,
      writes .ear sup (gekko (by decide)) rfl rfl, writes .iabr sup (gekko (by decide)) rfl rfl,
      writes .dabr sup (gekko (by decide)) rfl rfl, writes (.pmc 0) sup (gekko (by decide)) rfl rfl,
      writes (.pmc 1) sup (gekko (by decide)) rfl rfl, writes (.pmc 2) sup (gekko (by decide)) rfl rfl,
      writes (.pmc 3) sup (gekko (by decide)) rfl rfl, writes (.thrm 0) sup (gekko (by decide)) rfl rfl,
      writes (.thrm 1) sup (gekko (by decide)) rfl rfl, ?refused,
      fun k => writes (.sprg k) sup (gekko (by revert k; decide)) rfl rfl,
      fun k => writes (.gqr k) sup (gekko (by revert k; decide)) rfl rfl,
      writes .sdr1 sup (gekko (by decide)) rfl rfl, fun k => ?bats, fun hpart => ?broadway,
      writes .tbl sup (gekko (by decide)) rfl rfl, writes .tbu sup (gekko (by decide)) rfl rfl,
      writes .dec sup (gekko (by decide)) rfl rfl, ?hid2, ?mmcr0, ?thrm3, hid0_written hse hpr⟩
    case refused =>
      simp only [List.forall_mem_cons, List.not_mem_nil, false_implies, implies_true, and_true]
      exact ⟨stops .wpar (gekko (by decide)) rfl, stops .dmau (gekko (by decide)) rfl,
        stops .dmal (gekko (by decide)) rfl⟩
    case bats =>
      exact ⟨writes (.ibatU ⟨k, by omega⟩) sup (gekko (by revert k; decide)) rfl rfl,
        writes (.ibatL ⟨k, by omega⟩) sup (gekko (by revert k; decide)) rfl rfl,
        writes (.dbatU ⟨k, by omega⟩) sup (gekko (by revert k; decide)) rfl rfl,
        writes (.dbatL ⟨k, by omega⟩) sup (gekko (by revert k; decide)) rfl rfl⟩
    case broadway =>
      have broadway {n : BitVec 10} {spr : Spr} (h : sprOf .broadway n = some spr) :
          sprOf s.params.part n = some spr := hpart ▸ h
      refine ⟨fun k => ?_, writes .hid4 sup (broadway (by decide)) rfl rfl⟩
      exact ⟨writes (.ibatU ⟨k + 4, by omega⟩) sup (broadway (by revert k; decide)) rfl rfl,
        writes (.ibatL ⟨k + 4, by omega⟩) sup (broadway (by revert k; decide)) rfl rfl,
        writes (.dbatU ⟨k + 4, by omega⟩) sup (broadway (by revert k; decide)) rfl rfl,
        writes (.dbatL ⟨k + 4, by omega⟩) sup (broadway (by revert k; decide)) rfl rfl⟩
    case hid2 =>
      split
      · exact stops .hid2 (gekko (by decide)) (if_pos ‹_›)
      · exact writes .hid2 sup (gekko (by decide)) (if_neg ‹_›) rfl
    case mmcr0 =>
      split
      · exact stops .mmcr0 (gekko (by decide)) (if_pos ‹_›)
      · exact writes .mmcr0 sup (gekko (by decide)) (if_neg ‹_›) rfl
    case thrm3 =>
      split
      · exact stops (.thrm 2) (gekko (by decide)) (if_pos ⟨rfl, ‹_›⟩)
      · exact writes (.thrm 2) sup (gekko (by decide)) (if_neg fun h => absurd h.2 ‹_›) rfl

end Sys2Proof.Registers
end

section
/-! PROOFS. The family 10_state.md: the condition register, MSR, and the moves of FPSCR. -/

namespace Sys2Proof.Machine

/-! ### The condition register -/

/-- The PowerPC numbers of two bits differ where the bits do. -/
theorem crBit_position_inj {k d : CrBit} : 31 - k.toNat = 31 - d.toNat ↔ k = d := by
  have hk := k.isLt
  have hd := d.isLt
  rw [← BitVec.toNat_inj]
  omega

/-- A logical instruction writes the bit it names and nothing else (R590). -/
theorem State.crLogical_sets {s : State} (h : s.msrSe = false) (op : Bool → Bool → Bool) (d a b : CrBit) :
    ∃ t, s.crLogical op d a b = .next t ∧ t = { s with cr := t.cr, pc := s.pc + 4 } ∧
      ∀ k : CrBit, t.cr.getLsbD (31 - k.toNat) =
        if k = d then op (s.crBit a) (s.crBit b) else s.cr.getLsbD (31 - k.toNat) := by
  refine ⟨_, retire_untraced h, rfl, fun k => ?_⟩
  rw [show ({ s.setCrBit d (op (s.crBit a) (s.crBit b)) with pc := s.pc + 4 } : State).cr =
    setBit s.cr (31 - d.toNat) (op (s.crBit a) (s.crBit b)) from rfl, setBit_getLsbD _ _ _ _ (by omega)]
  simp only [crBit_position_inj]

/-- Writing one field of CR and going on changes that field. -/
theorem fieldEnds_setCrf (s : State) (f : CrField) (v : BitVec 4) :
    FieldEnds s { s.setCrf f v with pc := s.pc + 4 } f v :=
  ⟨s.crf_setCrf_same f v, fun _ hm => s.crf_setCrf_other v hm, rfl⟩

/-- Bit `j` of a field mask is the mask bit of its field (R565, R584). -/
theorem getLsbD_fieldMask (m : BitVec 8) {j : Nat} (hj : j < 32) : (fieldMask m).getLsbD j = m.getLsbD (j / 4) := by
  have hbelow : ∀ n, ((List.range n).foldl (fun (acc : Word) k =>
      acc ||| (if m.getLsbD k then 0xF#32 <<< (4 * k) else 0)) 0).getLsbD j =
        (decide (j / 4 < n) && m.getLsbD (j / 4)) := by
    intro n
    induction n with
    | zero => simp
    | succ n ih =>
      have hone : ((0xF#32) <<< (4 * n)).getLsbD j = decide (j / 4 = n) := by
        rw [BitVec.getLsbD_shiftLeft, show (0xF#32 : Word) = BitVec.ofNat 32 (2 ^ 4 - 1) from rfl, getLsbD_lowOnes]
        grind
      rw [List.range_succ, List.foldl_append, List.foldl_cons, List.foldl_nil, BitVec.getLsbD_or, ih]
      by_cases hn : j / 4 = n
      · subst hn
        cases m.getLsbD (j / 4) <;> simp [hone]
      · have hlt : j / 4 < n + 1 ↔ j / 4 < n := by omega
        cases m.getLsbD n <;> simp [hone, hn, hlt]
  rw [fieldMask, hbelow 8]
  simp [show j / 4 < 8 by omega]

/-- A word with the fields a mask selects taken from another. -/
theorem getLsbD_fieldMask_merge (m : BitVec 8) (new old : Word) {j : Nat} (hj : j < 32) :
    ((new &&& fieldMask m) ||| (old &&& ~~~fieldMask m)).getLsbD j =
      if m.getLsbD (j / 4) then new.getLsbD j else old.getLsbD j := by
  rw [BitVec.getLsbD_or, BitVec.getLsbD_and, BitVec.getLsbD_and, BitVec.getLsbD_not, getLsbD_fieldMask m hj]
  cases m.getLsbD (j / 4) <;> simp [hj]

/-- SO, OV and CA read as they stand, whatever the reserved bits read as (R37). -/
theorem State.xerRead_flags (s : State) : (s.xerRead.extractLsb' 28 4).extractLsb' 1 3 = s.xer.extractLsb' 29 3 := by
  refine BitVec.eq_of_getLsbD_eq fun i hi => ?_
  have hi' : i = 0 ∨ i = 1 ∨ i = 2 := by omega
  unfold State.xerRead
  split
  · rcases hi' with rfl | rfl | rfl <;> simp
  · rcases hi' with rfl | rfl | rfl <;> simp

theorem State.xerRead_of_not_written {s : State} (h : s.xerReservedWritten = false) : s.xerRead = s.xer := by
  simp [State.xerRead, h]

/-- Reading XER changes at most the count of draws. -/
theorem State.afterXerRead_eq (s : State) : s.afterXerRead = { s with draws := s.afterXerRead.draws } := by
  unfold State.afterXerRead
  split <;> rfl

/-- `mcrxr` moves the flags and the bit below them to a field and clears them in XER (R748). -/
theorem exec_mcrxr_ends {s : State} (h : s.msrSe = false) (f : CrField) :
    ∃ t, exec (.mcrxr f) s = .next t ∧
      t = { s with cr := t.cr, xer := s.xer &&& 0x0FFFFFFF, draws := t.draws, pc := s.pc + 4 } ∧
      t.crf f = s.xerRead.extractLsb' 28 4 ∧ ∀ k, k ≠ f → t.crf k = s.crf k := by
  rw [exec_mcrxr, execMcrxr, s.afterXerRead_eq]
  exact ⟨_, retire_untraced h, rfl, State.crf_setCrf_same .., fun k hk => State.crf_setCrf_other _ _ hk⟩

/-! ### MSR and the power-saving wait -/

/-- An exception right after a write of MSR enters the same state as if the old value were not remembered: entry
synchronizes (R775). -/
theorem State.entered_superseding_msr (s : State) (v : Word) (e : Exception) (ra info : Word) :
    ({ s.superseding .msr with msr := v } : State).entered e ra info =
      ({ s with msr := v } : State).entered e ra info := by
  have h : ({ s.superseding .msr with msr := v } : State).contextSynced =
      ({ s with msr := v } : State).contextSynced := rfl
  simp only [State.entered, State.resynced, h]
  rfl

/-- What `mtmsr` does in supervisor mode with tracing off (R568). -/
theorem execMtmsr_eq {s : State} (hpr : s.msrPr = false) (hse : s.msrSe = false) (r : Reg) :
    execMtmsr r s =
      if (s.x r &&& mtmsrMask).getLsbD 0 || (s.x r &&& mtmsrMask).getLsbD 16 then .refused .littleEndian
      else if fexOf s.fpscr && ((s.x r &&& mtmsrMask).getLsbD 11 || (s.x r &&& mtmsrMask).getLsbD 8) then
        takeException .program (s.pc + 4) 0x00100000 { s.superseding .msr with msr := s.x r &&& mtmsrMask }
      else .next { s.superseding .msr with
        msr := s.x r &&& mtmsrMask
        pc := s.pc + 4
        mode := if sleeps (s.x r &&& mtmsrMask) s.hid0 then .powerSave else s.mode } := by
  simp only [execMtmsr, privileged, hpr, hse, Bool.false_eq_true, if_false]
  rfl

/-- A waiting processor with no reset and no interrupt that wakes it only passes time (R812). -/
theorem step_of_waiting {s : State} (h : s.atBoundary .powerSave) (hint : s.interrupt = none) :
    step s = .next s.ticked := by
  obtain ⟨hreset, hmode, hle, hhid4⟩ := h
  simp [step, State.cycle, State.boundary, hreset, hmode, hle, hhid4, hint, afterTick]

/-! ### Ending a floating-point instruction -/

theorem State.recordCr1If_eq (s : State) (rc : Bool) : s.recordCr1If rc = { s with cr := (s.recordCr1If rc).cr } := by
  cases rc <;> rfl

@[simp] theorem State.recordCr1If_fpscr (s : State) (rc : Bool) : (s.recordCr1If rc).fpscr = s.fpscr := by
  cases rc <;> rfl

/-- `RecordCR1` copies FPSCR[31:28] where Rc is 1 (R15). -/
theorem State.crf_recordCr1If_one (s : State) (rc : Bool) :
    (s.recordCr1If rc).crf 1 = if rc then s.fpscr.extractLsb' 28 4 else s.crf 1 := by
  cases rc with
  | false => rfl
  | true => exact State.crf_setCrf_same ..

theorem State.crf_recordCr1If_other (s : State) (rc : Bool) {m : CrField} (h : m ≠ 1) :
    (s.recordCr1If rc).crf m = s.crf m := by
  cases rc with
  | false => rfl
  | true => exact State.crf_setCrf_other _ _ h

theorem State.finishMove_untraced {s : State} (h : s.msrSe = false) (rc : Bool) :
    s.finishMove rc = .next (s.recordCr1If rc).ended := by
  refine retire_untraced ?_
  rw [s.recordCr1If_eq]
  exact h

/-- With no floating-point exception enabled in MSR and tracing off, an instruction that changed FPSCR goes on (R427 (9),
R434). -/
theorem State.finishFp_untrapped {s : State} (hfe : s.msrFe = false) (hse : s.msrSe = false) (rc : Bool) :
    s.finishFp rc = .next (s.recordCr1If rc).ended := by
  rw [State.finishFp, hfe, Bool.and_false, if_neg Bool.false_ne_true]
  exact State.finishMove_untraced hse rc

/-- What is left after the record of CR1, from a state that differs from `s` in the floating-point registers, FPSCR and
the count of draws. -/
theorem fpEnds_recorded {s u : State} {frD : FReg} (rc : Bool)
    (hframe : u = { s with ps0 := u.ps0, ps1 := u.ps1, fpscr := u.fpscr, draws := u.draws })
    (hother : ∀ r, r ≠ frD → u.f0 r = s.f0 r ∧ u.f1 r = s.f1 r) (hctl : u.fpscr &&& 0xFF = s.fpscr &&& 0xFF) :
    FpEnds s (u.recordCr1If rc).ended frD rc := by
  have hcr : u.cr = s.cr := by rw [hframe]
  have hfields : ∀ m, u.crf m = s.crf m := fun m => by rw [State.crf, hcr, State.crf]
  have heq := u.recordCr1If_eq rc
  refine ⟨fun r hr => ?_, ?_, ?_, fun m hm => ?_, ?_⟩
  · rw [heq]
    exact hother r hr
  · rw [heq]
    exact hctl
  · refine (u.crf_recordCr1If_one rc).trans ?_
    rw [hfields]
    change _ = if rc then (u.recordCr1If rc).fpscr.extractLsb' 28 4 else s.crf 1
    rw [State.recordCr1If_fpscr]
  · exact (u.crf_recordCr1If_other rc hm).trans (hfields m)
  · rw [heq, hframe]
    rfl

/-! ### Moves of FPSCR -/

/-- A move that recomputes FPSCR from `v` completes: FPSCR's bits but FEX, VX and bit 11 are `v`'s. -/
theorem finishFp_summarize_ends {s : State} (hfe : s.msrFe = false) (hse : s.msrSe = false) (v : Word) (rc : Bool) :
    ∃ t, { s with fpscr := summarize v }.finishFp rc = .next t ∧
      t = { s with fpscr := t.fpscr, cr := t.cr, pc := s.pc + 4 } ∧ t.fpscr = summarize v ∧
      t.crf 1 = (if rc then t.fpscr.extractLsb' 28 4 else s.crf 1) ∧ ∀ n, n ≠ 1 → t.crf n = s.crf n := by
  have heq := { s with fpscr := summarize v }.recordCr1If_eq rc
  have hfpscr : ({ s with fpscr := summarize v }.recordCr1If rc).fpscr = summarize v :=
    State.recordCr1If_fpscr ..
  refine ⟨_, State.finishFp_untrapped (s := { s with fpscr := summarize v }) hfe hse rc, ?_, hfpscr, ?_, fun n hn => ?_⟩
  · rw [heq]
    rfl
  · refine ({ s with fpscr := summarize v }.crf_recordCr1If_one rc).trans ?_
    change _ = if rc then ({ s with fpscr := summarize v }.recordCr1If rc).fpscr.extractLsb' 28 4 else s.crf 1
    rw [hfpscr]
    rfl
  · exact { s with fpscr := summarize v }.crf_recordCr1If_other rc hn

/-- A word of one bit. -/
theorem getLsbD_oneBit {n j : Nat} (hj : j < 32) : ((1#32) <<< n).getLsbD j = decide (j = n) := by
  rw [BitVec.getLsbD_shiftLeft, show (1#32 : Word) = BitVec.ofNat 32 (2 ^ 1 - 1) from rfl, getLsbD_lowOnes]
  grind

/-- The bits `mcrfs` clears: the exception bits and FX among those of its field (R580). -/
theorem getLsbD_mcrfsClears (g : CrField) {j : Nat} (hj : j < 32) :
    (mcrfsClears g).getLsbD j = (decide (j / 4 = 7 - g.toNat) && (0x9FF80700 : Word).getLsbD j) := by
  have hg := g.isLt
  have hmask : (0x80000000 ||| exceptionBits : Word) = 0x9FF80700 := by decide
  have hfield : ((0xF#32) <<< (28 - 4 * g.toNat)).getLsbD j = decide (j / 4 = 7 - g.toNat) := by
    rw [BitVec.getLsbD_shiftLeft, show (0xF#32 : Word) = BitVec.ofNat 32 (2 ^ 4 - 1) from rfl, getLsbD_lowOnes]
    grind
  rw [mcrfsClears, hmask, BitVec.getLsbD_and, hfield]

/-- A bit under a mask is 1 where the word of that bit meets the mask. -/
theorem oneBit_and_ne_zero {m : Word} {n : Nat} (hn : n < 32) : (1#32) <<< n &&& m ≠ 0 ↔ m.getLsbD n = true := by
  rw [ne_eq, BitVec.and_comm, and_eq_zero_iff_getLsbD]
  constructor
  · intro h
    by_contra hm
    refine h fun i hi hb => ?_
    rw [getLsbD_oneBit hi] at hb
    rw [of_decide_eq_true hb]
    exact Bool.eq_false_of_not_eq_true hm
  · intro hm h
    exact absurd (hm.symm.trans (h n hn (by rw [getLsbD_oneBit hn]; simp))) (by decide)

/-- `mtfsb1` sets its bit, and FX where it sets an exception bit that was 0 (R583). -/
theorem fpscrAfterSet_eq (v : Word) (k : CrBit) : ∃ w, fpscrAfterSet v k = summarize w ∧ ∀ j < 32,
    w.getLsbD j = (v.getLsbD j || decide (j = 31 - k.toNat) ||
      (decide (j = 31) && exceptionBits.getLsbD (31 - k.toNat) && !v.getLsbD (31 - k.toNat))) := by
  have hk : 31 - k.toNat < 32 := by omega
  unfold fpscrAfterSet
  dsimp only
  split
  · rename_i h
    have hex := (oneBit_and_ne_zero hk).1 h
    have hone : (1#32) <<< (31 - k.toNat) &&& exceptionBits = (1#32) <<< (31 - k.toNat) := by
      refine BitVec.eq_of_getLsbD_eq fun i hi => ?_
      rw [BitVec.getLsbD_and, getLsbD_oneBit hi]
      by_cases hik : i = 31 - k.toNat
      · rw [hik, hex, Bool.and_true]
      · simp [hik]
    refine ⟨_, rfl, fun j hj => ?_⟩
    have hnew : ((1#32) <<< (31 - k.toNat) &&& ~~~v ≠ 0) ↔ v.getLsbD (31 - k.toNat) = false := by
      rw [oneBit_and_ne_zero hk, BitVec.getLsbD_not]
      simp [hk]
    have hfx : fxBit.getLsbD j = decide (j = 31) := by
      rw [show fxBit = (1#32) <<< 31 by decide, getLsbD_oneBit hj]
    rw [hone, BitVec.getLsbD_or, BitVec.getLsbD_or, getLsbD_oneBit hj, hex]
    by_cases hv : v.getLsbD (31 - k.toNat) = false
    · rw [if_pos (hnew.2 hv), hfx, hv]
      simp
    · rw [if_neg (fun h => hv (hnew.1 h)), Bool.eq_true_of_not_eq_false hv]
      simp
  · rename_i h
    have hex : exceptionBits.getLsbD (31 - k.toNat) = false :=
      Bool.eq_false_of_not_eq_true fun hex => h ((oneBit_and_ne_zero hk).2 hex)
    refine ⟨_, rfl, fun j hj => ?_⟩
    rw [BitVec.getLsbD_or, getLsbD_oneBit hj, hex]
    simp

end Sys2Proof.Machine

namespace Sys2Proof.Registers

open Sys2Proof.Machine

/-- Settles O52: each instruction's CR is a bit, a field or a merge of fields of the old one. -/
theorem conditionRegister : Obligations.ConditionRegister := by
  intro d a b r f g m s hse bitOf sets
  have logical {i : Instr} {v : Bool} (op : Bool → Bool → Bool) (hi : exec i s = s.crLogical op d a b)
      (hv : op (bitOf a) (bitOf b) = v) : sets i v := by
    obtain ⟨t, ht, hframe, hbit⟩ := State.crLogical_sets hse op d a b
    exact ⟨t, hi.trans ht, hframe, fun k => (hbit k).trans (congrArg (if k = d then · else bitOf k) hv)⟩
  refine ⟨logical (fun a b => a && b) rfl rfl, logical (fun a b => a && !b) rfl rfl,
    logical (fun a b => !(a ^^ b)) rfl ?creqv, logical (fun a b => !(a && b)) rfl rfl,
    logical (fun a b => !(a || b)) rfl rfl, logical (fun a b => a || b) rfl rfl,
    logical (fun a b => a || !b) rfl rfl, logical (fun a b => a ^^ b) rfl rfl, ⟨_, retire_untraced hse, fieldEnds_setCrf s f _⟩,
    ⟨_, retire_untraced hse, rfl, fun k hk => getLsbD_fieldMask_merge m _ _ hk⟩, retire_untraced hse, ?mcrxr⟩
  case creqv => cases bitOf a <;> cases bitOf b <;> rfl
  case mcrxr =>
    obtain ⟨t, ht, hframe, hfield, hother⟩ := exec_mcrxr_ends hse f
    exact ⟨t, ht, hframe, hfield ▸ s.xerRead_flags, fun hw => State.xerRead_of_not_written hw ▸ hfield, hother⟩

/-- Settles O53: `mtmsr` by its three ends, and a wait that no interrupt ends. -/
theorem msrAndPowerSaving : Obligations.MsrAndPowerSaving := by
  refine ⟨fun r s hpr hse => ?moves, fun s hwait hcheck hsoft hquiet => ?wait⟩
  case moves =>
    intro v fp
    have hmt := execMtmsr_eq hpr hse r
    have hfp : fp ↔ (fexOf s.fpscr &&
        ((s.x r &&& mtmsrMask).getLsbD 11 || (s.x r &&& mtmsrMask).getLsbD 8)) = true := by
      rw [Bool.and_eq_true, Bool.or_eq_true]
      exact Iff.rfl
    have hlegal (h0 : v.getLsbD 0 = false) (h16 : v.getLsbD 16 = false) :
        ¬((s.x r &&& mtmsrMask).getLsbD 0 || (s.x r &&& mtmsrMask).getLsbD 16) = true := by
      change ¬(v.getLsbD 0 || v.getLsbD 16) = true
      rw [h0, h16]
      decide
    refine ⟨?mfmsr, fun h => ?refused, fun h0 h16 hnot => ?written, fun h0 h16 h => ?exception⟩
    case mfmsr =>
      rw [exec_mfmsr, execMfmsr, privileged, hpr]
      exact retire_untraced hse
    case refused => exact hmt.trans (if_pos (Bool.or_eq_true_iff.2 h))
    case written =>
      rw [exec_mtmsr, hmt, if_neg (hlegal h0 h16), if_neg (hnot ∘ hfp.2)]
      rfl
    case exception =>
      have hile : ({ s.superseding .msr with msr := s.x r &&& mtmsrMask } : State).msrIle = false := h16
      rw [exec_mtmsr, hmt, if_neg (hlegal h0 h16), if_pos (hfp.1 h), takeException_of_ile hile,
        s.entered_superseding_msr]
      rfl
  case wait =>
    refine step_of_waiting hwait ?_
    obtain ⟨-, hmode, -, -⟩ := hwait
    unfold State.interrupt
    simp only [hcheck, hsoft, Bool.false_eq_true, if_false]
    rcases hquiet with hee | ⟨hext, hdec | hsleep⟩
    · simp [hee]
    · simp [hext, hdec]
    · simp [hext, State.decWakes, hmode, hsleep]

/-- Settles O54: each move recomputes FPSCR from a word whose bits are as asked. -/
theorem fpscrMoves : Obligations.FpscrMoves := by
  intro frD frB k f g m imm rc s hfp hfe hse old ends
  have gate {run : Out} : withFp s run = run := if_pos hfp
  have moves {i : Instr} {v : Word} {bit : Nat → Bool} (hi : exec i s = { s with fpscr := summarize v }.finishFp rc)
      (h : ∀ j < 32, v.getLsbD j = bit j) : ∃ t, exec i s = .next t ∧ ends t bit := by
    obtain ⟨t, ht, hframe, hfpscr, hcr1, hcr⟩ := finishFp_summarize_ends hfe hse v rc
    refine ⟨t, hi.trans ht, hframe, State.fpscrComputed_of_summarize hfpscr, fun j hj h30 h29 h11 => ?_, fun _ => ?_,
      hcr1, hcr⟩
    · rw [hfpscr, summarize_getLsbD_other v hj h30 h29 h11, h j hj]
    · rw [hfpscr, summarize_getLsbD_reserved]
  refine ⟨?mffs, ?mcrfs, moves gate fun j hj => ?mtfsb0, fun hk => ?mtfsb1, gate.trans (if_pos rfl),
    moves gate fun j hj => ?mtfsf, moves gate fun j hj => ?mtfsfi⟩
  case mffs =>
    refine ⟨_, s.free.extractLsb' 0 32, gate.trans (State.finishMove_untraced (by exact hse) rc), ?_, ?_, ?_, ?_⟩
    · rw [State.recordCr1If_eq]
      exact State.f0_setF0_same ..
    · rw [State.recordCr1If_eq]
      rfl
    · exact State.recordCr1If_fpscr ..
    · exact fpEnds_recorded rc rfl (fun r hr => ⟨State.f0_setF0_other _ _ hr, rfl⟩) rfl
  case mcrfs =>
    refine ⟨_, gate.trans (retire_untraced (by exact hse)), rfl, State.fpscrComputed_of_summarize rfl,
      fun _ => summarize_getLsbD_reserved _, State.crf_setCrf_same .., fun n hn => State.crf_setCrf_other _ _ hn,
      fun j hj h30 h29 h11 => (summarize_getLsbD_other _ hj h30 h29 h11).trans ?_⟩
    rw [BitVec.getLsbD_and, BitVec.getLsbD_not, getLsbD_mcrfsClears g hj]
    simp only [hj, decide_true, Bool.true_and]
    rfl
  case mtfsb0 =>
    rw [setBit_getLsbD _ _ _ _ hj]
    by_cases hjk : j = 31 - k.toNat <;> simp [hjk, old]
  case mtfsb1 =>
    obtain ⟨w, hw, hbits⟩ := fpscrAfterSet_eq s.fpscr k
    exact moves (hw ▸ gate.trans (if_neg hk)) hbits
  case mtfsf =>
    rw [getLsbD_fieldMask_merge m _ _ hj, BitVec.getLsbD_setWidth, decide_eq_true hj, Bool.true_and]
  case mtfsfi =>
    have hf := f.isLt
    have hfield : 28 - 4 * f.toNat ≤ j ∧ j < 32 - 4 * f.toNat ↔ j / 4 = 7 - f.toNat := by omega
    rw [getLsbD_replaceField _ _ _ hj]
    simp only [hfield]
    split
    · rw [show j - (28 - 4 * f.toNat) = j % 4 by omega]
    · rfl

end Sys2Proof.Registers
end

section
/-! PROOFS. The family 10_state.md: reset and the reservation. -/

namespace Sys2Proof.Machine

/-! ### Bytes and words -/

theorem beBytes_four (v : Word) : beBytes 4 (v.setWidth 64) = wordBytes v := by
  have hbyte : ∀ k, k + 8 ≤ 32 → (v.setWidth 64).extractLsb' k 8 = v.extractLsb' k 8 := by
    intro k hk
    refine BitVec.eq_of_getLsbD_eq fun i hi => ?_
    simp only [BitVec.getLsbD_extractLsb', BitVec.getLsbD_setWidth]
    simp [show k + i < 64 by omega]
  simp only [beBytes, List.map, List.range, List.range.loop, wordBytes]
  rw [hbyte _ (by decide), hbyte _ (by decide), hbyte _ (by decide), hbyte _ (by decide)]

/-- Four bytes of memory as a word. -/
theorem beValue_readBytes_four (s : State) (ea : Word) :
    (beValue (s.mem.readBytes ea 4)).setWidth 32 = s.wordAt ea := beValue_four ..

/-! ### Plain stores -/

/-- A store that leaves memory with the bytes written, and the rest but for the records, ends as `StoreEnds` says. -/
theorem storeEnds_of_writeBytes {s t : State} {ea : Word} {bs : List Byte} (hl : bs.length ≤ 2 ^ 32)
    (hmem : t.mem = s.mem.writeBytes ea bs)
    (hframe : t = { s with mem := t.mem, stale := t.stale, dirty := t.dirty, tables := t.tables }) :
    StoreEnds s t.ended ea bs := by
  refine ⟨fun i hi => ?_, fun a ha => ?_, ?_⟩
  · change t.mem.read _ = _
    rw [hmem, Memory.read_writeBytes _ _ _ hl i hi]
  · change t.mem.read a = _
    rw [hmem, Memory.read_writeBytes_outside _ _ _ _ ha]
  · rw [hframe]
    rfl

theorem alignedTo_of_mod {ea : Word} {n : Nat} (h : ea.toNat % n = 0) : alignedTo ea n = true := decide_eq_true h

/-- A word-aligned access has its effect. -/
theorem State.wordAligned_of_mod {s : State} {i : Instr} {raField : Bool} {ea : Word} {run : Out}
    (h : ea.toNat % 4 = 0) : s.wordAligned i raField ea run = run := if_pos (alignedTo_of_mod h)

theorem State.dataCheck_plain {s : State} {k : Access} (hk : k ≠ .fetch) {ea : Word} (hdr : s.msrDr = false)
    (hdabr : s.unwatched) : s.dataCheck k ea = .ok (realMode k ea) s := by
  rw [State.dataCheck, State.dataMap_real hk hdr, Res.bind_ok, State.dabrMatches_off hdabr]
  rfl

theorem realMode_cached (ea : Word) :
    ¬ ((realMode .load ea).inhibited || (realMode .load ea).writeThrough) = true := by
  simp [realMode, Mapped.inhibited, Mapped.writeThrough]

/-! ### The reservation (R743, R744) -/

/-- `stwcx.` with the store not performed. -/
theorem afterConditional_ends (s : State) (stored : Bool) :
    (s.afterConditional stored).ended.crf 0 = crBits false false stored s.so ∧
    (∀ m, m ≠ 0 → (s.afterConditional stored).ended.crf m = s.crf m) ∧
    (s.afterConditional stored).ended =
      { s.ended with cr := (s.afterConditional stored).ended.cr, reserve := false } :=
  ⟨s.crf_setCrf_same 0 _, fun _ hm => s.crf_setCrf_other _ hm, rfl⟩

/-- The store of `stwcx.` in real mode to RAM. -/
theorem storeConditional_ends {s : State} {ea : Word} (r : Reg) (hse : s.msrSe = false) (h : s.plainData ea 4) :
    ∃ u, StoreEnds s u ea (wordBytes (s.x r)) ∧ ∃ t, s.storeConditional r ea = .next t ∧
      t.crf 0 = crBits false false true s.so ∧ (∀ m, m ≠ 0 → t.crf m = s.crf m) ∧
      t = { u with cr := t.cr, reserve := false } := by
  obtain ⟨hdr, hdabr, hram⟩ := h
  refine ⟨(s.storePhys (realMode .store ea) (wordBytes (s.x r))).ended,
    storeEnds_of_writeBytes (show 4 ≤ 2 ^ 32 by decide) rfl (s.storePhys_frame _ _),
    ((s.storePhys (realMode .store ea) (wordBytes (s.x r))).afterConditional true).ended, ?_, ?_⟩
  · rw [State.storeConditional, State.checkPart_plain (by decide) hdr hdabr hram, Res.finish_ok, beBytes_four,
      State.afterStore_ram (m := realMode .store ea) (bs := wordBytes (s.x r)) hram]
    exact retire_untraced hse
  · exact afterConditional_ends (s.storePhys (realMode .store ea) (wordBytes (s.x r))) true

end Sys2Proof.Machine

namespace Sys2Proof.Registers

open Sys2Proof.Machine

/-- Settles O20: reset values are constants; where the data cache holds nothing, nothing is discarded. -/
theorem hardReset : Obligations.HardReset := by
  have hvalues : ∀ params mem bus draws time lines,
      ({ State.hardReset params mem bus draws time with lines := lines } : State).hasResetValues := by
    intro params mem bus draws time lines
    have hsprg : ∀ i : Fin 4, (Vector.replicate 4 (0 : Word)).get i = 0 := by decide
    have hgqr : ∀ i : Fin 8, (Vector.replicate 8 (0 : Word)).get i = 0 := by decide
    have hthrm : ∀ i : Fin 3, (Vector.replicate 3 (0 : Word)).get i = 0 := by decide
    exact ⟨rfl, rfl, rfl, rfl, rfl, rfl, rfl, rfl, rfl, rfl, rfl, rfl, hsprg, rfl, rfl, rfl, rfl, rfl, rfl, rfl, rfl, hgqr,
      rfl, rfl, rfl, hthrm, rfl, rfl, rfl, rfl, rfl, rfl, rfl, rfl⟩
  refine ⟨hvalues .initial [] [] 0 0 ⟨false, false, none, false⟩, fun s hs => ?_⟩
  refine ⟨s.afterHardReset, if_pos hs, hvalues .., rfl, rfl, rfl, rfl, fun hdirty => ?_⟩
  have hnone : s.discarded (fun _ => true) = s := State.discarded_none fun e he => by
    rw [hdirty] at he
    cases he
  have hmem : (s.discarded fun _ => true).mem = s.mem := by rw [hnone]
  exact hmem

/-- Settles O35: `lwarx` by its plain load, `stwcx.` by the three states of the reservation. -/
theorem reservation : Obligations.Reservation := by
  intro r rA rB s hse ea hplain haligned granule ends
  obtain ⟨hdr, hdabr, hram⟩ := hplain
  have hstwcx : exec (.stwcx_rc r rA rB) s =
      if !s.reserve then retire (s.afterConditional false)
      else if s.reserveAddr = granule then s.storeConditional r ea
      else if s.free.getLsbD 0 then s.drawn.storeConditional r ea
      else retire (s.drawn.afterConditional false) := by
    refine (State.wordAligned_of_mod haligned).trans ?_
    rw [State.dataCheck_plain (by decide) hdr hdabr]
    rfl
  refine ⟨fun hold => ?lwarx, fun hnone => ?without, fun hres hsame => ?same, fun hres hother => ?other⟩
  case lwarx =>
    have hloaded := State.loaded_plain (s := s) (m := realMode .load ea) (n := 4) hram
      (fun e he i hi hw => by rw [realMode_attr]; exact hold e he i hi hw)
    have hcheck := State.checkPart_plain (k := .load) (al := true) (by decide) hdr hdabr hram
    refine (State.wordAligned_of_mod haligned).trans ?_
    refine (congrArg (fun c => Res.finish c _) hcheck).trans ((if_neg (realMode_cached ea)).trans ?_)
    rw [zeroExtended, hloaded.1, show (realMode .load ea).pa = ea from rfl, beValue_readBytes_four]
    exact retire_untraced hse
  case without =>
    rw [hstwcx, hnone]
    exact ⟨_, retire_untraced hse, s.ended, rfl, afterConditional_ends s false⟩
  case same =>
    obtain ⟨u, hu, t, ht, hends⟩ := storeConditional_ends r hse ⟨hdr, hdabr, hram⟩
    rw [hstwcx, if_neg (show ¬ (!s.reserve) = true by simp [hres]), if_pos hsame]
    exact ⟨t, ht, u, hu, hends⟩
  case other =>
    rw [hstwcx, if_neg (show ¬ (!s.reserve) = true by simp [hres]), if_neg hother]
    cases s.free.getLsbD 0 with
    | true =>
      obtain ⟨u, hu, t, ht, hends⟩ := storeConditional_ends (s := s.drawn) r hse ⟨hdr, hdabr, hram⟩
      exact ⟨t, ht, true, u, hu, hends⟩
    | false => exact ⟨_, retire_untraced hse, false, s.drawn.ended, rfl, afterConditional_ends s.drawn false⟩

end Sys2Proof.Registers
end

section
/-! PROOFS. The family 10_state.md: the double format, and the singles in it (R420, R422, R530, R531). -/

namespace Sys2Proof.Machine

/-! ### The fields of a lane -/

theorem expField_eq (v : Lane) : expField v = v.toNat / 2 ^ 52 % 2 ^ 11 := by
  rw [expField, BitVec.extractLsb'_toNat, Nat.shiftRight_eq_div_pow]

theorem fracField_eq (v : Lane) : fracField v = v.toNat % 2 ^ 52 := by
  rw [fracField, BitVec.extractLsb'_toNat, Nat.shiftRight_zero]

/-- The sign of a lane, read off its value. -/
theorem sign_toNat (v : Lane) : (v.getLsbD 63).toNat = v.toNat / 2 ^ 63 := by
  rw [BitVec.getLsbD, Nat.toNat_testBit]
  omega

theorem fracField_lt (v : Lane) : fracField v < 2 ^ 52 := (v.extractLsb' 0 52).isLt

theorem expField_lt (v : Lane) : expField v < 2048 := (v.extractLsb' 52 11).isLt

/-- A concatenation as a number. -/
theorem append_toNat {m n : Nat} (a : BitVec m) (b : BitVec n) : (a ++ b).toNat = a.toNat * 2 ^ n + b.toNat := by
  rw [BitVec.toNat_append, Nat.shiftLeft_eq, mul_comm, Nat.two_pow_add_eq_or_of_lt b.isLt]

theorem layout_toNat {neg : Bool} {e f : Nat} (he : e < 2048) (hf : f < 2 ^ 52) :
    (layout neg e f).toNat = neg.toNat * 2 ^ 63 + e * 2 ^ 52 + f := by
  rw [layout, append_toNat, append_toNat, BitVec.toNat_ofBool, BitVec.toNat_ofNat, BitVec.toNat_ofNat,
    Nat.mod_eq_of_lt hf, Nat.mod_eq_of_lt (show e < 2 ^ 11 from he)]
  ring

section
variable {neg : Bool} {e f : Nat} (he : e < 2048) (hf : f < 2 ^ 52)
include he hf

theorem expField_layout : expField (layout neg e f) = e := by
  have hneg := neg.toNat_lt
  rw [expField_eq, layout_toNat he hf]
  omega

theorem fracField_layout : fracField (layout neg e f) = f := by
  rw [fracField_eq, layout_toNat he hf]
  omega

theorem sign_layout : (layout neg e f).getLsbD 63 = neg := by
  have hbit := sign_toNat (layout neg e f)
  rw [layout_toNat he hf, show (neg.toNat * 2 ^ 63 + e * 2 ^ 52 + f) / 2 ^ 63 = neg.toNat by omega] at hbit
  generalize (layout neg e f).getLsbD 63 = b at hbit ⊢
  revert b neg
  decide

end

/-- A normalized number by its fields. -/
theorem unpack_layout_normal {neg : Bool} {e f : Nat} (hpos : 0 < e) (he : e < 2047) (hf : f < 2 ^ 52) :
    unpack (layout neg e f) = .finite neg (2 ^ 52 + f) (e - 1075) := by
  have he' : e < 2048 := by omega
  rw [unpack, expField_layout he' hf, fracField_layout he' hf, sign_layout he' hf, if_neg (by omega), if_neg (by omega)]

theorem unpack_layout_zero (neg : Bool) : unpack (layout neg 0 0) = .zero neg := by cases neg <;> decide

theorem unpack_infinity (neg : Bool) : unpack (infinity neg) = .inf neg := by cases neg <;> decide

/-! ### Exact images -/

/-- The significand of `n`, with its first bit at place 52. -/
theorem normalized_bounds {n : Nat} (hn : n ≠ 0) (hlog : n.log2 ≤ 52) :
    2 ^ 52 ≤ n * 2 ^ (52 - n.log2) ∧ n * 2 ^ (52 - n.log2) < 2 ^ 53 := by
  have hlow := Nat.log2_self_le hn
  have hhigh := Nat.lt_log2_self (n := n)
  have hsplit : 2 ^ n.log2 * 2 ^ (52 - n.log2) = 2 ^ 52 := by rw [← pow_add, Nat.add_sub_cancel' hlog]
  have hsplit' : 2 ^ (n.log2 + 1) * 2 ^ (52 - n.log2) = 2 ^ 53 := by rw [pow_succ, mul_right_comm, hsplit]; rfl
  exact ⟨hsplit ▸ Nat.mul_le_mul_right _ hlow, hsplit' ▸ Nat.mul_lt_mul_of_pos_right hhigh (by positivity)⟩

/-- The image of a number in the normalized range. -/
theorem pack_eq_layout {neg : Bool} {n : Nat} {q : Int} (hn : n ≠ 0) (hmin : -1022 ≤ q + n.log2) :
    pack neg n q = layout neg (q + n.log2 + 1023).toNat (n * 2 ^ (52 - n.log2) - 2 ^ 52) := by
  rw [pack, if_neg hn, if_pos hmin]

/-- What the image of a number in the normalized range holds. -/
theorem unpack_pack {neg : Bool} {n : Nat} {q : Int} (hn : n ≠ 0) (hlog : n.log2 ≤ 52) (hmin : -1022 ≤ q + n.log2)
    (hmax : q + n.log2 ≤ 1023) : unpack (pack neg n q) = .finite neg (n * 2 ^ (52 - n.log2)) (q + n.log2 - 52) := by
  obtain ⟨hlow, hhigh⟩ := normalized_bounds hn hlog
  rw [pack_eq_layout hn hmin, unpack_layout_normal (by omega) (by omega) (by omega), Nat.add_sub_cancel' hlow]
  congr 1
  omega

/-- The image of a number in the normalized range holds that number. -/
theorem laneValue_pack {neg : Bool} {n : Nat} {q : Int} (hlog : n.log2 ≤ 52) (hmin : -1022 ≤ q)
    (hmax : q + n.log2 ≤ 1023) : laneValue (pack neg n q) = (if neg then -1 else 1) * n * (2 : ℚ) ^ q := by
  by_cases hn : n = 0
  · rw [hn, pack, if_pos rfl, laneValue, unpack_layout_zero]
    simp
  · have hpow : (2 : ℚ) ^ (52 - n.log2) * (2 : ℚ) ^ (q + n.log2 - 52) = (2 : ℚ) ^ q := by
      rw [← zpow_natCast, ← zpow_add₀ (by norm_num)]
      congr 1
      omega
    rw [laneValue, unpack_pack hn hlog (by omega) hmax, ← hpow]
    push_cast
    ring

/-! ### Singles (R530, R531) -/

theorem word_toNat (w : Word) :
    w.toNat = (w.getLsbD 31).toNat * 2 ^ 31 + (w.extractLsb' 23 8).toNat * 2 ^ 23 + (w.extractLsb' 0 23).toNat := by
  rw [BitVec.getLsbD, Nat.toNat_testBit, BitVec.extractLsb'_toNat, BitVec.extractLsb'_toNat,
    Nat.shiftRight_eq_div_pow, Nat.shiftRight_zero]
  omega

/-- The image of a denormalized single. -/
theorem doubleFromSingle_denormal {w : Word} (he : (w.extractLsb' 23 8).toNat = 0) :
    doubleFromSingle w = pack (w.getLsbD 31) (w.extractLsb' 0 23).toNat (-149) := by
  rw [doubleFromSingle, if_neg (by omega), if_pos he]

/-- The exponent field of the image of a normalized single, an infinity or a NaN. -/
def widenedExp (e : Nat) : Nat := if e = 255 then 2047 else e + 896

theorem widenedExp_bounds {e : Nat} (h0 : e ≠ 0) (he : e < 256) : 896 < widenedExp e ∧ widenedExp e < 2048 := by
  unfold widenedExp
  split <;> omega

/-- The image of a single that is not denormalized. -/
theorem doubleFromSingle_normal {w : Word} (he : (w.extractLsb' 23 8).toNat ≠ 0) :
    doubleFromSingle w =
      layout (w.getLsbD 31) (widenedExp (w.extractLsb' 23 8).toNat) ((w.extractLsb' 0 23).toNat * 2 ^ 29) := by
  unfold doubleFromSingle widenedExp
  dsimp only
  rw [if_neg he]
  split <;> rfl

theorem log2_lt_of_frac (w : Word) (hf : (w.extractLsb' 0 23).toNat ≠ 0) : (w.extractLsb' 0 23).toNat.log2 < 23 :=
  (Nat.log2_lt hf).2 (w.extractLsb' 0 23).isLt

/-- The image of a single holds the single's number. -/
theorem laneValue_doubleFromSingle {w : Word} (he : w.extractLsb' 23 8 ≠ 255) :
    laneValue (doubleFromSingle w) = singleValue w := by
  have hfrac := (w.extractLsb' 0 23).isLt
  have hexp := (w.extractLsb' 23 8).isLt
  have hnot : (w.extractLsb' 23 8).toNat ≠ 255 := fun h => he (BitVec.eq_of_toNat_eq h)
  unfold singleValue
  by_cases hzero : (w.extractLsb' 23 8).toNat = 0
  · rw [if_pos hzero, doubleFromSingle_denormal hzero]
    have hlog : (w.extractLsb' 0 23).toNat.log2 ≤ 23 := by
      by_cases hf : (w.extractLsb' 0 23).toNat = 0
      · rw [hf]; decide
      · exact (log2_lt_of_frac w hf).le
    exact laneValue_pack (by omega) (by omega) (by omega)
  · rw [if_neg hzero, doubleFromSingle_normal hzero, widenedExp, if_neg hnot, laneValue,
      unpack_layout_normal (by omega) (by omega) (by omega)]
    have hpow : (2 : ℚ) ^ (((w.extractLsb' 23 8).toNat : Int) - 150) =
        (2 : ℚ) ^ (29 : Int) * (2 : ℚ) ^ ((((w.extractLsb' 23 8).toNat + 896 : Nat) : Int) - 1075) := by
      rw [← zpow_add₀ (by norm_num)]
      refine congrArg (fun z : Int => (2 : ℚ) ^ z) ?_
      omega
    have htwo : (2 : ℚ) ^ (29 : Int) = ((2 ^ 29 : Nat) : ℚ) := by norm_num
    rw [hpow, htwo]
    push_cast
    ring

theorem toNat_cut (v : Lane) (lo len : Nat) : (v.extractLsb' lo len).toNat = v.toNat / 2 ^ lo % 2 ^ len := by
  rw [BitVec.extractLsb'_toNat, Nat.shiftRight_eq_div_pow]

/-- `SingleFromDouble` where the exponent is that of a normalized single, and at zeros. -/
theorem singleFromDouble_cut {v : Lane} (h : 896 < expField v ∨ v.extractLsb' 0 63 = 0) :
    singleFromDouble v = some (v.extractLsb' 62 2 ++ v.extractLsb' 29 30) := if_pos h

/-- `SingleFromDouble` where the number is a denormalized single. -/
theorem singleFromDouble_denormal {v : Lane} (hlow : 874 ≤ expField v) (hhigh : expField v ≤ 896) :
    singleFromDouble v =
      some (v.extractLsb' 63 1 ++ 0#8 ++ BitVec.ofNat 23 ((2 ^ 52 + fracField v) / 2 ^ (926 - expField v))) := by
  have hnonzero : ¬ (896 < expField v ∨ v.extractLsb' 0 63 = 0) := by
    rintro (h | h)
    · omega
    · have hcut := congrArg BitVec.toNat h
      rw [toNat_cut] at hcut
      rw [expField_eq] at hlow
      simp at hcut
      omega
  exact (if_neg hnonzero).trans (if_pos hlow)

/-- The parts of a layout that a normalized single keeps. -/
theorem layout_cuts {s e f : Nat} (hs : s < 2) (he : e < 2048) (hf : f < 2 ^ 23) :
    (s * 2 ^ 63 + e * 2 ^ 52 + f * 2 ^ 29) / 2 ^ 62 % 2 ^ 2 = 2 * s + e / 1024 ∧
    (s * 2 ^ 63 + e * 2 ^ 52 + f * 2 ^ 29) / 2 ^ 29 % 2 ^ 30 = e % 128 * 2 ^ 23 + f := by
  constructor <;> omega

/-- The image of a single that is not denormalized is stored as the single. -/
theorem singleFromDouble_layout {w : Word} (he : (w.extractLsb' 23 8).toNat ≠ 0) :
    singleFromDouble (doubleFromSingle w) = some w := by
  have hw := word_toNat w
  have hfrac := (w.extractLsb' 0 23).isLt
  have hsign := (w.getLsbD 31).toNat_lt
  obtain ⟨hlow, hhigh⟩ := widenedExp_bounds he (w.extractLsb' 23 8).isLt
  have hlayout := layout_toNat (neg := w.getLsbD 31) hhigh (f := (w.extractLsb' 0 23).toNat * 2 ^ 29) (by omega)
  rw [doubleFromSingle_normal he, singleFromDouble_cut (.inl (by rwa [expField_layout hhigh (by omega)]))]
  refine congrArg some (BitVec.eq_of_toNat_eq ?_)
  obtain ⟨htop, hbottom⟩ := layout_cuts hsign hhigh hfrac
  rw [append_toNat, toNat_cut, toNat_cut, hlayout, htop, hbottom, hw]
  unfold widenedExp
  split <;> omega

/-- The image of a denormalized single is stored as the single. -/
theorem singleFromDouble_pack {w : Word} (he : (w.extractLsb' 23 8).toNat = 0) (hf : (w.extractLsb' 0 23).toNat ≠ 0) :
    singleFromDouble (doubleFromSingle w) = some w := by
  have hw := word_toNat w
  have hfrac := (w.extractLsb' 0 23).isLt
  have hsign := (w.getLsbD 31).toNat_lt
  have hlog := log2_lt_of_frac w hf
  rw [doubleFromSingle_denormal he, pack_eq_layout hf (by omega)]
  generalize (w.extractLsb' 0 23).toNat = f at *
  obtain ⟨hlow, hhigh⟩ := normalized_bounds hf (by omega)
  have hexp : ((-149 : Int) + f.log2 + 1023).toNat = 874 + f.log2 := by omega
  have hbound : 874 + f.log2 < 2048 := by omega
  have hfield : f * 2 ^ (52 - f.log2) - 2 ^ 52 < 2 ^ 52 := by omega
  have hlayout := layout_toNat (neg := w.getLsbD 31) hbound hfield
  rw [hexp, singleFromDouble_denormal (by rw [expField_layout hbound hfield]; omega)
    (by rw [expField_layout hbound hfield]; omega), expField_layout hbound hfield, fracField_layout hbound hfield,
    Nat.add_sub_cancel' hlow, show 926 - (874 + f.log2) = 52 - f.log2 by omega, Nat.mul_div_cancel _ (by positivity)]
  refine congrArg some (BitVec.eq_of_toNat_eq ?_)
  rw [append_toNat, append_toNat, toNat_cut, hlayout, BitVec.toNat_ofNat, BitVec.toNat_ofNat, hw, he]
  omega

/-- Storing the image of a single gives the single back. -/
theorem singleFromDouble_doubleFromSingle (w : Word) : singleFromDouble (doubleFromSingle w) = some w := by
  by_cases he : (w.extractLsb' 23 8).toNat = 0
  · by_cases hf : (w.extractLsb' 0 23).toNat = 0
    · have hw := word_toNat w
      have hsign := (w.getLsbD 31).toNat_lt
      have hzero := layout_toNat (neg := w.getLsbD 31) (e := 0) (f := 0) (by decide) (by decide)
      rw [doubleFromSingle_denormal he, hf, pack, if_pos rfl, singleFromDouble_cut (.inr (BitVec.eq_of_toNat_eq ?_))]
      · refine congrArg some (BitVec.eq_of_toNat_eq ?_)
        rw [append_toNat, toNat_cut, toNat_cut, hzero]
        omega
      · rw [toNat_cut, hzero]
        simp
    · exact singleFromDouble_pack he hf
  · exact singleFromDouble_layout he

end Sys2Proof.Machine
end

section
/-! PROOFS. The family 10_state.md: the floating-point and the quantized loads. -/

namespace Sys2Proof.Machine

/-! ### The gates -/

theorem withFp_of_on {s : State} {run : Out} (h : s.msrFp = true) : withFp s run = run := if_pos h

theorem withQuantized_of_on {s : State} {run : Out} (hpse : s.pse = true) (hlsqe : s.lsqe = true)
    (hfp : s.msrFp = true) : withQuantized s run = run := by
  rw [withQuantized, hpse, hlsqe]
  exact withFp_of_on hfp

/-- The write of the address in an update form touches no register but rA. -/
theorem State.updateIf_msrSe (s : State) (update : Bool) (rA : Reg) (ea : Word) :
    (s.updateIf update rA ea).msrSe = s.msrSe := by cases update <;> rfl

/-! ### Doublewords in memory -/

/-- Four more bytes after others are the low word. -/
theorem beValue_append_four (bs : List Byte) (b0 b1 b2 b3 : Byte) :
    beValue (bs ++ [b0, b1, b2, b3]) = (beValue bs).setWidth 32 ++ wordOfBytes b0 b1 b2 b3 := by
  rw [beValue, List.foldl_append, ← beValue]
  generalize beValue bs = x
  refine BitVec.eq_of_getLsbD_eq fun i hi => ?_
  simp only [List.foldl, wordOfBytes, BitVec.getLsbD_setWidth, BitVec.getLsbD_or, BitVec.getLsbD_shiftLeft,
    BitVec.getLsbD_append]
  grind

/-- Eight bytes of memory as a doubleword. -/
theorem beValue_readBytes_eight (s : State) (ea : Word) : beValue (s.mem.readBytes ea 8) = s.doubleAt ea := by
  rw [Memory.readBytes_append s.mem ea 4 4]
  refine (beValue_append_four ..).trans ?_
  rw [beValue_readBytes_four]
  rfl

/-- The part of a plain load from an offset on. -/
theorem State.plainLoad_part {s : State} {ea : Word} {n m k : Nat} (h : s.plainLoad ea n) (hk : k + m ≤ n) :
    s.plainLoad (ea + BitVec.ofNat 32 k) m := by
  obtain ⟨⟨hdr, hdabr, hram⟩, hold⟩ := h
  refine ⟨⟨hdr, hdabr, fun i hi => ?_⟩, fun e he i hi hw => ?_⟩
  · rw [byteAt_add]
    exact hram _ (by omega)
  · rw [byteAt_add] at hw
    exact hold e he _ (by omega) hw

/-- One part of a plain load gets the bytes in memory and leaves the state. -/
theorem State.loaded_plainLoad {s : State} {ea : Word} {n : Nat} (h : s.plainLoad ea n) :
    s.loaded (realMode .load ea) n = s.mem.readBytes ea n ∧ s.afterLoad (realMode .load ea) n = s := by
  obtain ⟨⟨_, _, hram⟩, hold⟩ := h
  refine State.loaded_plain (m := realMode .load ea) hram fun e he i hi hw => ?_
  rw [realMode_attr]
  exact hold e he i hi hw

/-- The parts of a plain load, each read from RAM. -/
theorem State.readParts_plain {s : State} {al : Bool} {parts : List (Word × Nat)}
    (h : ∀ p ∈ parts, s.plainLoad p.1 p.2) :
    s.readParts al parts = .ok (parts.flatMap fun p => s.mem.readBytes p.1 p.2) s := by
  induction parts with
  | nil => rfl
  | cons p rest ih =>
    have hp := h p List.mem_cons_self
    obtain ⟨hbytes, hstate⟩ := State.loaded_plainLoad hp
    obtain ⟨⟨hdr, hdabr, hram⟩, _⟩ := hp
    rw [State.readParts, State.checkPart_plain (by decide) hdr hdabr hram, Res.bind_ok, hbytes, hstate,
      ih fun q hq => h q (List.mem_cons_of_mem _ hq)]
    rfl

theorem State.memRead_plainLoad {s : State} {ea : Word} {n : Nat} (h : s.plainLoad ea n) :
    s.memRead ea n = .ok (beValue (s.mem.readBytes ea n)) s := by
  obtain ⟨⟨hdr, hdabr, hram⟩, hold⟩ := h
  exact State.memRead_plain hdr hdabr hram hold

/-- A doubleword read in one part or in two words is the doubleword in memory. -/
theorem State.readDouble_plain {s : State} {ea : Word} (h : s.plainLoad ea 8) :
    s.readDouble ea = .ok (s.doubleAt ea) s := by
  unfold State.readDouble
  split
  · rw [State.memRead_plainLoad h, beValue_readBytes_eight]
  · have hparts : ∀ p ∈ [(ea, 4), (ea + 4, 4)], s.plainLoad p.1 p.2 := by
      intro p hp
      obtain rfl | hp := List.mem_cons.1 hp
      · simpa using State.plainLoad_part (k := 0) (m := 4) h (by decide)
      · obtain rfl := List.mem_singleton.1 hp
        exact State.plainLoad_part (k := 4) (m := 4) h (by decide)
    rw [State.readParts_plain hparts, Res.bind_ok, ← beValue_readBytes_eight, Memory.readBytes_append s.mem ea 4 4]
    rfl

/-! ### Floating-point loads -/

section
variable {s : State} (hfp : s.msrFp = true) (hse : s.msrSe = false) (i : Instr) (update : Bool) (frD : FReg) (rA : Reg)
  {ea : Word} (haligned : ea.toNat % 4 = 0)
include hfp hse haligned

theorem State.loadFd_plain (h : s.plainLoad ea 8) :
    s.loadFd i update frD rA ea = .next ((s.setF0 frD (s.doubleAt ea)).updateIf update rA ea).ended := by
  rw [State.loadFd, withFp_of_on hfp, State.wordAligned_of_mod haligned, State.readDouble_plain h, Res.finish_ok]
  exact retire_untraced ((State.updateIf_msrSe ..).trans hse)

theorem State.loadFs_plain (h : s.plainLoad ea 4) :
    s.loadFs i update frD rA ea = .next ((s.setLoadedSingle frD (s.wordAt ea)).updateIf update rA ea).ended := by
  have hsingle : ∀ w, (s.setLoadedSingle frD w).msrSe = s.msrSe := by
    intro w
    unfold State.setLoadedSingle
    split <;> rfl
  rw [State.loadFs, withFp_of_on hfp, State.wordAligned_of_mod haligned, State.memRead_plainLoad h, Res.finish_ok,
    beValue_readBytes_four]
  exact retire_untraced ((State.updateIf_msrSe ..).trans ((hsingle _).trans hse))

end

/-! ### Quantized loads -/

/-- Two parts of a plain access pass every check. -/
theorem State.mapPart_plain {s : State} {k : Access} (hk : k ≠ .fetch) {ea : Word} {n : Nat} {al : Bool}
    (h : s.plainData ea n) : s.mapPart k ea n al = .ok (realMode k ea) s := by
  obtain ⟨hdr, hdabr, hram⟩ := h
  rw [State.mapPart, State.dataCheck_plain hk hdr hdabr, Res.bind_ok,
    State.regionCheck_ram (m := realMode k ea) hram]
  rfl

theorem State.mapPair_plain {s : State} {k : Access} (hk : k ≠ .fetch) {ea0 ea1 : Word} {n : Nat} {al : Bool}
    (h0 : s.plainData ea0 n) (h1 : s.plainData ea1 n) :
    s.mapPair k ea0 ea1 n al = .ok (realMode k ea0, realMode k ea1) s := by
  rw [State.mapPair, State.mapPart_plain hk h0, Res.bind_ok, State.mapPart_plain hk h1]
  rfl

/-- Both lanes of a quantized load from RAM. -/
theorem State.readQuantized_plain {s : State} {ty : QuantType} {sc : BitVec 6} {one : Bool} {ea : Word}
    (h : s.plainLoad ea (if one then ty.size else 2 * ty.size)) :
    s.readQuantized ty sc one ea = .ok (dequant ty sc (s.rawValue ea ty.size),
      if one then laneOne else dequant ty sc (s.rawValue (ea + BitVec.ofNat 32 ty.size) ty.size)) s := by
  cases one with
  | true =>
    rw [State.readQuantized, if_pos rfl, State.memRead_plainLoad (by simpa using h)]
    rfl
  | false =>
    have h0 : s.plainLoad ea ty.size := by
      simpa using State.plainLoad_part (k := 0) (m := ty.size) h (by simp; omega)
    have h1 := State.plainLoad_part (k := ty.size) (m := ty.size) h (by simp; omega)
    obtain ⟨hbytes0, hstate0⟩ := State.loaded_plainLoad h0
    obtain ⟨hbytes1, hstate1⟩ := State.loaded_plainLoad h1
    rw [State.readQuantized, if_neg (by decide), State.loadPair, State.mapPair_plain (by decide) h0.1 h1.1, Res.bind_ok]
    dsimp only
    rw [hstate0, hstate1, hbytes0, hbytes1]
    rfl

theorem State.loadQuantized_plain {s : State} (hpse : s.pse = true) (hlsqe : s.lsqe = true) (hfp : s.msrFp = true)
    (hse : s.msrSe = false) (update one : Bool) (q : BitVec 3) (frD : FReg) (rA : Reg) {ea : Word} {ty : QuantType}
    (hty : loadType (s.gqrOf q) = some ty) (haligned : ea.toNat % ty.size = 0)
    (h : s.plainLoad ea (if one then ty.size else 2 * ty.size)) :
    s.loadQuantized update one q frD rA ea =
      .next ((((s.setF0 frD (dequant ty (loadScale (s.gqrOf q)) (s.rawValue ea ty.size))).setF1 frD
        (if one then laneOne
          else dequant ty (loadScale (s.gqrOf q)) (s.rawValue (ea + BitVec.ofNat 32 ty.size) ty.size))).updateIf
        update rA ea).ended) := by
  rw [State.loadQuantized, withQuantized_of_on hpse hlsqe hfp, hty]
  dsimp only
  rw [alignedTo_of_mod haligned, if_neg (by decide), State.readQuantized_plain h, Res.finish_ok]
  exact retire_untraced ((State.updateIf_msrSe ..).trans hse)

/-- The number of an integer scaled by a power of two that the double format holds. -/
theorem laneValue_scaled {n : Int} (hn : n.natAbs < 2 ^ 16) (sc : BitVec 6) :
    laneValue (pack (decide (n < 0)) n.natAbs (-sc.toInt)) = (n : ℚ) * 2 ^ (-sc.toInt) := by
  have hlow := BitVec.le_toInt sc
  have hhigh := BitVec.toInt_lt (x := sc)
  have hlog : n.natAbs.log2 ≤ 16 := by
    by_cases h0 : n.natAbs = 0
    · rw [h0]; decide
    · exact ((Nat.log2_lt h0).2 hn).le
  have hsign : (if decide (n < 0) = true then -1 else 1) * (n.natAbs : ℚ) = n := by
    by_cases hneg : n < 0
    · have habs : ((n.natAbs : Int) : ℚ) = ((-n : Int) : ℚ) := congrArg _ (Int.ofNat_natAbs_of_nonpos hneg.le)
      push_cast at habs
      simp [hneg, habs]
    · have habs : ((n.natAbs : Int) : ℚ) = (n : ℚ) := congrArg _ (Int.natAbs_of_nonneg (not_lt.1 hneg))
      push_cast at habs
      simp [hneg, habs]
  rw [laneValue_pack (by omega) (by omega) (by omega), hsign]

end Sys2Proof.Machine

namespace Sys2Proof.Registers

open Sys2Proof.Machine

/-- Settles O40: the plain loads in their eight forms, and the double format of a single (R530, R531). -/
theorem fpLoads : Obligations.FpLoads := by
  refine ⟨fun frD rA rB d s hfp hse => ?_, fun w => laneValue_doubleFromSingle, singleFromDouble_doubleFromSingle⟩
  refine ⟨State.loadFd_plain hfp hse _ false frD rA, State.loadFd_plain hfp hse _ false frD rA,
    fun _ => State.loadFd_plain hfp hse _ true frD rA, fun _ => State.loadFd_plain hfp hse _ true frD rA,
    State.loadFs_plain hfp hse _ false frD rA, State.loadFs_plain hfp hse _ false frD rA,
    fun _ => State.loadFs_plain hfp hse _ true frD rA, fun _ => State.loadFs_plain hfp hse _ true frD rA⟩

/-- Settles O47: the plain loads in their four forms; a value is the integer scaled exactly (R664). -/
theorem quantizedLoads : Obligations.QuantizedLoads := by
  refine ⟨fun frD rA rB one q d ty s hpse hlsqe hfp hse hty => ?forms, fun sc raw => ?values, by decide⟩
  case forms =>
    have hload := fun (update : Bool) (ea : Word) (ok : ea.toNat % ty.size = 0 ∧ _) =>
      State.loadQuantized_plain hpse hlsqe hfp hse update one q frD rA (ea := ea) hty ok.1 ok.2
    exact ⟨hload false _, hload false _, fun _ => hload true _, fun _ => hload true _⟩
  case values =>
    have hu8 := (raw.extractLsb' 0 8).isLt
    have hu16 := (raw.extractLsb' 0 16).isLt
    have hs8 := BitVec.le_toInt (raw.extractLsb' 0 8)
    have hs8' := BitVec.toInt_lt (x := raw.extractLsb' 0 8)
    have hs16 := BitVec.le_toInt (raw.extractLsb' 0 16)
    have hs16' := BitVec.toInt_lt (x := raw.extractLsb' 0 16)
    refine ⟨?_, ?_, laneValue_scaled (by omega) sc, laneValue_scaled (by omega) sc, rfl⟩
    · exact_mod_cast laneValue_scaled (n := (raw.extractLsb' 0 8).toNat) (by omega) sc
    · exact_mod_cast laneValue_scaled (n := (raw.extractLsb' 0 16).toNat) (by omega) sc

end Sys2Proof.Registers
end

section
/-! PROOFS. The family 10_state.md: the quantized stores. -/

namespace Sys2Proof.Machine

/-! ### Stores of one value and of two -/

/-- Two stores next to each other in RAM store the bytes of both. -/
theorem State.storePair_plain {s : State} {ea : Word} {n : Nat} {al : Bool} (v0 v1 : BitVec 64)
    (h : s.plainData ea (2 * n)) :
    ∃ t, s.storePair ea (ea + BitVec.ofNat 32 n) n al v0 v1 = .ok () t ∧
      t.mem = s.mem.writeBytes ea (beBytes n v0 ++ beBytes n v1) ∧
      t = { s with mem := t.mem, stale := t.stale, dirty := t.dirty, tables := t.tables } := by
  obtain ⟨hdr, hdabr, hram⟩ := h
  have hram0 : s.allOf .ram ea n := fun i hi => hram i (by omega)
  have hram1 : s.allOf .ram (ea + BitVec.ofNat 32 n) n := fun i hi => by
    rw [byteAt_add]
    exact hram _ (by omega)
  set s0 := s.storePhys (realMode .store ea) (beBytes n v0) with hs0
  set s1 := s0.storePhys (realMode .store (ea + BitVec.ofNat 32 n)) (beBytes n v1) with hs1
  have hfirst : s.afterStore (realMode .store ea) (beBytes n v0) = s0 :=
    State.afterStore_ram (m := realMode .store ea) (by rwa [beBytes_length])
  have hsecond : s0.afterStore (realMode .store (ea + BitVec.ofNat 32 n)) (beBytes n v1) = s1 :=
    State.afterStore_ram (m := realMode .store (ea + BitVec.ofNat 32 n)) (by rwa [beBytes_length])
  refine ⟨s1, ?_, ?_, State.store_frame_trans (s.storePhys_frame _ _) (s0.storePhys_frame _ _)⟩
  · rw [State.storePair, State.mapPair_plain (by decide) ⟨hdr, hdabr, hram0⟩ ⟨hdr, hdabr, hram1⟩, Res.bind_ok, hfirst,
      hsecond]
  · rw [Memory.writeBytes_append, beBytes_length]
    rfl

/-- The lanes of a quantized store to RAM. -/
theorem State.writeQuantized_plain {s : State} {ty : QuantType} {sc : BitVec 6} {one : Bool} {ea : Word} (v0 v1 : Lane)
    (h : s.plainData ea (if one then ty.size else 2 * ty.size)) :
    ∃ t, s.writeQuantized ty sc one ea v0 v1 = .ok () t ∧
      t.mem = s.mem.writeBytes ea (beBytes ty.size (quant s.params.quantRound ty sc v0 (s.freeAt 0)) ++
        (if one then [] else beBytes ty.size (quant s.params.quantRound ty sc v1 (s.freeAt 1)))) ∧
      t = { s.drawnBy 2 with mem := t.mem, stale := t.stale, dirty := t.dirty, tables := t.tables } := by
  cases one with
  | true =>
    obtain ⟨hdr, hdabr, hram⟩ := h
    simp only [if_true, List.append_nil]
    exact State.memWrite_plain (s := s.drawnBy 2) _ hdr hdabr hram
  | false => exact State.storePair_plain (s := s.drawnBy 2) _ _ h

theorem QuantType.size_le (ty : QuantType) : ty.size ≤ 4 := by cases ty <;> decide

theorem State.storeQuantized_plain {s : State} (hpse : s.pse = true) (hlsqe : s.lsqe = true) (hfp : s.msrFp = true)
    (hse : s.msrSe = false) (update one : Bool) (q : BitVec 3) (frS : FReg) (rA : Reg) {ea : Word} {ty : QuantType}
    (hty : storeType (s.gqrOf q) = some ty) (haligned : ea.toNat % ty.size = 0)
    (h : s.plainData ea (if one then ty.size else 2 * ty.size)) :
    ∃ t, s.storeQuantized update one q frS rA ea = .next (t.updateIf update rA ea) ∧
      ∃ x y, StoreEnds (s.drawnBy 2) t ea
        (beBytes ty.size (quant s.params.quantRound ty (storeScale (s.gqrOf q)) (s.f0 frS) x) ++
          (if one then [] else beBytes ty.size (quant s.params.quantRound ty (storeScale (s.gqrOf q)) (s.f1 frS) y))) := by
  have hsize := ty.size_le
  obtain ⟨t, ht, hmem, hframe⟩ := State.writeQuantized_plain (sc := storeScale (s.gqrOf q)) (s.f0 frS) (s.f1 frS) h
  have htse : t.msrSe = false := by
    rw [hframe]
    exact hse
  refine ⟨t.ended, ?_, _, _, storeEnds_of_writeBytes ?_ hmem hframe⟩
  · rw [State.storeQuantized, withQuantized_of_on hpse hlsqe hfp, hty]
    dsimp only
    rw [alignedTo_of_mod haligned, if_neg (by decide), ht, Res.finish_ok]
    cases update with
    | false => exact retire_untraced htse
    | true => exact retire_untraced htse
  · cases one with
    | true => simp; omega
    | false => simp; omega

/-! ### Rounding toward zero -/

/-- Rounding toward zero drops what is below the unit. -/
theorem roundAt_towardZero (neg : Bool) (mant : Nat) (exp : Int) :
    (roundAt 1 neg mant exp false 0).n = mant * 2 ^ exp.toNat / 2 ^ (-exp).toNat := by
  simp [roundAt, roundsUp]

/-- A number as a quotient, one of the two powers being 1. -/
theorem mant_zpow (mant : Nat) (exp : Int) :
    (mant : ℚ) * 2 ^ exp = ((mant * 2 ^ exp.toNat : Nat) : ℚ) / ((2 ^ (-exp).toNat : Nat) : ℚ) := by
  obtain hexp | hexp := le_total 0 exp
  · obtain ⟨k, rfl⟩ := Int.eq_ofNat_of_zero_le hexp
    simp
  · rw [show exp.toNat = 0 by omega]
    conv_lhs => rw [show exp = -((-exp).toNat : Int) by omega, zpow_neg, zpow_natCast]
    push_cast
    simp [div_eq_mul_inv]

theorem truncated_of_nonneg {z : ℚ} (h : 0 ≤ z) : truncated z = ⌊z⌋ := if_pos h

theorem truncated_neg_of_nonneg {z : ℚ} (h : 0 ≤ z) : truncated (-z) = -⌊z⌋ := by
  obtain rfl | hpos := h.eq_or_lt
  · simp [truncated]
  · rw [truncated, if_neg (by linarith), Int.ceil_neg]

/-- The number of the model's rounding toward zero is the number truncated. -/
theorem quantInteger_towardZero (neg : Bool) (mant : Nat) (exp : Int) :
    quantInteger .towardZero neg mant exp = truncated ((if neg then -1 else 1) * mant * 2 ^ exp) := by
  have hpos : (0 : ℚ) ≤ mant * 2 ^ exp := by positivity
  have hfloor : ⌊(mant : ℚ) * 2 ^ exp⌋ = ((roundAt 1 neg mant exp false 0).n : Int) := by
    rw [roundAt_towardZero, mant_zpow, Rat.floor_natCast_div_natCast]
    rfl
  rw [quantInteger, signedMant, ← hfloor]
  cases neg with
  | false => simp [truncated_of_nonneg hpos]
  | true => simp [truncated_neg_of_nonneg hpos]

theorem zero_in_range {ty : QuantType} (h : ty ≠ .float) : ty.saturate 0 = 0 := by
  cases ty with
  | float => exact absurd rfl h
  | u8 | u16 | s8 | s16 => decide

/-- A value that is not a float is quantized by what it holds. -/
theorem quant_eq {ty : QuantType} (h : ty ≠ .float) (qr : QuantRound) (sc : BitVec 6) (v : Lane) (x : BitVec 64) :
    quant qr ty sc v x = match unpack v with
      | .nan => x
      | .inf neg => BitVec.ofInt 64 (if neg then ty.range.1 else ty.range.2)
      | .zero _ => 0
      | .finite neg mant exp => BitVec.ofInt 64 (ty.saturate (quantInteger qr neg mant (exp + sc.toInt))) := by
  cases ty with
  | float => exact absurd rfl h
  | u8 | u16 | s8 | s16 => rfl

/-- A number is scaled, truncated and moved into the range of the type. -/
theorem quant_towardZero {ty : QuantType} (h : ty ≠ .float) (sc : BitVec 6) {v : Lane} (x : BitVec 64)
    (hv : isFinite v = true) :
    quant .towardZero ty sc v x = BitVec.ofInt 64 (ty.saturate (truncated (laneValue v * 2 ^ sc.toInt))) := by
  rw [quant_eq h]
  unfold isFinite at hv
  unfold laneValue
  cases hu : unpack v with
  | zero neg =>
    rw [zero_mul, show truncated 0 = 0 by simp [truncated], zero_in_range h]
    rfl
  | finite neg mant exp =>
    dsimp only
    rw [quantInteger_towardZero, zpow_add₀ (by norm_num), mul_assoc]
    simp only [mul_assoc]
  | inf neg => simp [hu] at hv
  | nan => simp [hu] at hv

end Sys2Proof.Machine

namespace Sys2Proof.Registers

open Sys2Proof.Machine

/-- Settles O48: the plain stores in their four forms; the value by the kinds of number (R665). -/
theorem quantizedStores : Obligations.QuantizedStores := by
  refine ⟨fun frS rA rB one q d ty s hpse hlsqe hfp hse hty => ?forms, fun qr ty sc v x => ?values, rfl, rfl, rfl, rfl⟩
  case forms =>
    have hstore := fun (update : Bool) (ea : Word) (ok : ea.toNat % ty.size = 0 ∧ _) =>
      State.storeQuantized_plain hpse hlsqe hfp hse update one q frS rA (ea := ea) hty ok.1 ok.2
    exact ⟨hstore false _, hstore false _, fun _ => hstore true _, fun _ => hstore true _⟩
  case values =>
    refine ⟨fun hty w hw => ?float, fun hty hqr hv => ?number, fun hty neg hu => ?infinite⟩
    case float =>
      rw [hty, quant, hw]
      simp
    case number =>
      rw [hqr]
      exact quant_towardZero hty sc x hv
    case infinite => rw [quant_eq hty, hu]

end Sys2Proof.Registers
end

section
/-! PROOFS. The family 10_state.md: what arithmetic does to FPSCR (R427, R429, R433). -/

namespace Sys2Proof.Machine

/-! ### Masks -/

/-- Words that agree in the bits of a mask. -/
theorem and_mask_congr {a b m : Word} (h : ∀ j < 32, m.getLsbD j = true → a.getLsbD j = b.getLsbD j) :
    a &&& m = b &&& m := by
  refine BitVec.eq_of_getLsbD_eq fun j hj => ?_
  rw [BitVec.getLsbD_and, BitVec.getLsbD_and]
  cases hm : m.getLsbD j with
  | false => simp
  | true => rw [h j hj hm]

/-- No bit of the mask is lost. -/
theorem and_mask_not_eq_zero {v w m : Word}
    (h : ∀ j < 32, m.getLsbD j = true → v.getLsbD j = true → w.getLsbD j = true) : v &&& m &&& ~~~w = 0 := by
  refine BitVec.eq_of_getLsbD_eq fun j hj => ?_
  rw [BitVec.getLsbD_and, BitVec.getLsbD_and, BitVec.getLsbD_not]
  cases hm : m.getLsbD j <;> cases hv : v.getLsbD j <;> simp_all

theorem extractLsb'_congr {a b : Word} {lo len : Nat} (h : ∀ i < len, a.getLsbD (lo + i) = b.getLsbD (lo + i)) :
    a.extractLsb' lo len = b.extractLsb' lo len := by
  refine BitVec.eq_of_getLsbD_eq fun i hi => ?_
  rw [BitVec.getLsbD_extractLsb', BitVec.getLsbD_extractLsb', h i hi]

/-! ### FR, FI, FPRF and the exception bits -/

/-- `setRounding` replaces FR, FI and, where given, FPRF. -/
theorem setRounding_getLsbD (v : Word) (fr fi : Bool) (p : Option (BitVec 5)) {j : Nat} (hj : j < 32) :
    (setRounding v fr fi p).getLsbD j =
      if j = 18 then fr else if j = 17 then fi
      else if 12 ≤ j ∧ j < 17 then p.elim (v.getLsbD j) (·.getLsbD (j - 12)) else v.getLsbD j := by
  have hmask : ∀ k < 32, (0xFFFE0FFF : Word).getLsbD k = !decide (12 ≤ k ∧ k < 17) := by decide
  have hset : (setBit (setBit v 18 fr) 17 fi).getLsbD j = if j = 17 then fi else if j = 18 then fr else v.getLsbD j := by
    rw [setBit_getLsbD _ _ _ _ hj, setBit_getLsbD _ _ _ _ hj]
  cases p with
  | none =>
    rw [setRounding, hset]
    grind
  | some c =>
    have hc : 5 ≤ j - 12 → c.getLsbD (j - 12) = false := BitVec.getLsbD_of_ge _ _
    simp only [setRounding, BitVec.getLsbD_or, BitVec.getLsbD_and, hset, BitVec.getLsbD_shiftLeft,
      BitVec.getLsbD_setWidth, Option.elim_some]
    grind

/-- FX is set where a new exception bit was 0. -/
theorem raiseBits_getLsbD_fx (v raised : Word) :
    (raiseBits v raised).getLsbD 31 = (v.getLsbD 31 || decide (raised &&& exceptionBits &&& ~~~v ≠ 0)) := by
  have hnone : exceptionBits.getLsbD 31 = false := by decide
  rw [raiseBits, summarize_getLsbD_other _ (by decide) (by decide) (by decide) (by decide), BitVec.getLsbD_or,
    BitVec.getLsbD_or, BitVec.getLsbD_and, hnone, Bool.and_false, Bool.or_false]
  by_cases h : raised &&& exceptionBits &&& ~~~v ≠ 0
  · rw [if_pos h, decide_eq_true h]
    rfl
  · rw [if_neg h, decide_eq_false h]
    rfl

/-- `raiseBits` adds the exception bits raised. -/
theorem raiseBits_getLsbD (v raised : Word) {j : Nat} (hj : j < 31) (h30 : j ≠ 30) (h29 : j ≠ 29) (h11 : j ≠ 11) :
    (raiseBits v raised).getLsbD j = (v.getLsbD j || (raised.getLsbD j && exceptionBits.getLsbD j)) := by
  have hfx : ∀ b : Prop, [Decidable b] → (if b then fxBit else 0).getLsbD j = false := by
    intro b _
    split
    · rw [show fxBit = (1#32) <<< 31 from rfl, getLsbD_oneBit (by omega)]
      exact decide_eq_false (by omega)
    · simp
  rw [raiseBits, summarize_getLsbD_other _ (by omega) h30 h29 h11, BitVec.getLsbD_or, BitVec.getLsbD_or,
    BitVec.getLsbD_and, hfx, Bool.or_false]

/-- The places of the exception bits: none is FR, FI, FPRF or a bit `summarize` computes. -/
theorem exceptionBits_place : ∀ j < 32, exceptionBits.getLsbD j = true →
    j < 31 ∧ j ≠ 30 ∧ j ≠ 29 ∧ (j < 11 ∨ 18 < j) := by decide

section
variable (v : Word) (fr fi : Bool) (p : Option (BitVec 5)) (raised : Word)

/-- `setRounding` leaves the bits outside FR, FI and FPRF. -/
theorem setRounding_getLsbD_other {j : Nat} (hj : j < 32) (h : j < 12 ∨ 18 < j) :
    (setRounding v fr fi p).getLsbD j = v.getLsbD j := by
  rw [setRounding_getLsbD v fr fi p hj, if_neg (by omega), if_neg (by omega), if_neg (by omega)]

/-- The control bits after arithmetic. -/
theorem rounded_control : raiseBits (setRounding v fr fi p) raised &&& 0xFF = v &&& 0xFF := by
  have hplace : ∀ j < 32, (0xFF : Word).getLsbD j = true → j < 8 ∧ exceptionBits.getLsbD j = false := by decide
  refine and_mask_congr fun j hj hm => ?_
  obtain ⟨hlow, hno⟩ := hplace j hj hm
  rw [raiseBits_getLsbD _ _ (by omega) (by omega) (by omega) (by omega), hno, Bool.and_false, Bool.or_false,
    setRounding_getLsbD_other _ _ _ _ hj (by omega)]

/-- An exception bit after arithmetic. -/
theorem rounded_exception {j : Nat} (hj : j < 32) (hm : exceptionBits.getLsbD j = true) :
    (raiseBits (setRounding v fr fi p) raised).getLsbD j = (v ||| raised).getLsbD j := by
  obtain ⟨h31, h30, h29, hout⟩ := exceptionBits_place j hj hm
  rw [raiseBits_getLsbD _ _ h31 h30 h29 (by omega), hm, Bool.and_true,
    setRounding_getLsbD_other _ _ _ _ hj (by omega), BitVec.getLsbD_or]

/-- FX after arithmetic. -/
theorem rounded_fx : (raiseBits (setRounding v fr fi p) raised).getLsbD 31 =
    (v.getLsbD 31 || decide (raised &&& exceptionBits &&& ~~~v ≠ 0)) := by
  have hnew : raised &&& exceptionBits &&& ~~~(setRounding v fr fi p) = raised &&& exceptionBits &&& ~~~v := by
    refine BitVec.eq_of_getLsbD_eq fun j hj => ?_
    cases hm : exceptionBits.getLsbD j with
    | false => simp [hm]
    | true =>
      obtain ⟨_, _, _, hout⟩ := exceptionBits_place j hj hm
      simp only [BitVec.getLsbD_and, BitVec.getLsbD_not, setRounding_getLsbD_other v fr fi p hj (by omega)]
  rw [raiseBits_getLsbD_fx, setRounding_getLsbD_other _ _ _ _ (by decide) (by decide), hnew]

/-- Arithmetic clears no exception bit, nor FX. -/
theorem rounded_kept : v &&& 0x9FF80700 &&& ~~~(raiseBits (setRounding v fr fi p) raised) = 0 := by
  have hplace : ∀ j < 32, (0x9FF80700 : Word).getLsbD j = true → j = 31 ∨ exceptionBits.getLsbD j = true := by decide
  refine and_mask_not_eq_zero fun j hj hm hv => ?_
  obtain rfl | hexc := hplace j hj hm
  · rw [rounded_fx, hv, Bool.true_or]
  · rw [rounded_exception _ _ _ _ _ hj hexc, BitVec.getLsbD_or, hv, Bool.true_or]

/-- The exception bits accumulate (R433). -/
theorem rounded_raised : FpRaised v (raiseBits (setRounding v fr fi p) raised) raised :=
  ⟨and_mask_congr fun _ hj hm => rounded_exception v fr fi p raised hj hm, rounded_fx v fr fi p raised⟩

/-- FR, FI and FPRF after arithmetic are those of `setRounding`. -/
theorem rounded_getLsbD {j : Nat} (h12 : 12 ≤ j) (h18 : j ≤ 18) :
    (raiseBits (setRounding v fr fi p) raised).getLsbD j =
      if j = 18 then fr else if j = 17 then fi else p.elim (v.getLsbD j) (·.getLsbD (j - 12)) := by
  have hplace : ∀ k < 32, 12 ≤ k → k ≤ 18 → exceptionBits.getLsbD k = false := by decide
  rw [raiseBits_getLsbD _ _ (by omega) (by omega) (by omega) (by omega), hplace j (by omega) h12 h18, Bool.and_false,
    Bool.or_false, setRounding_getLsbD _ _ _ _ (by omega)]
  split
  · rfl
  · split
    · rfl
    · rw [if_pos (by omega)]

theorem rounded_fr : (raiseBits (setRounding v fr fi p) raised).getLsbD 18 = fr :=
  rounded_getLsbD v fr fi p raised (by decide) (by decide)

theorem rounded_fi : (raiseBits (setRounding v fr fi p) raised).getLsbD 17 = fi :=
  rounded_getLsbD v fr fi p raised (by decide) (by decide)

theorem rounded_class :
    (raiseBits (setRounding v fr fi p) raised).extractLsb' 12 5 = p.getD (v.extractLsb' 12 5) := by
  refine BitVec.eq_of_getLsbD_eq fun i hi => ?_
  rw [BitVec.getLsbD_extractLsb', rounded_getLsbD _ _ _ _ _ (by omega) (by omega), if_neg (by omega), if_neg (by omega)]
  cases p with
  | none => simp
  | some c => simp [hi]

end

/-- FR and FI, both 0. -/
theorem extractLsb'_frFi {w : Word} (hfi : w.getLsbD 17 = false) (hfr : w.getLsbD 18 = false) :
    w.extractLsb' 17 2 = 0 := by
  have hbits : ∀ i < 2, w.getLsbD (17 + i) = false := by
    intro i hi
    obtain rfl | rfl : i = 0 ∨ i = 1 := by omega
    · exact hfi
    · exact hfr
  refine BitVec.eq_of_getLsbD_eq fun i hi => ?_
  rw [BitVec.getLsbD_extractLsb', hbits i hi]
  simp

/-! ### Outcomes -/

/-- An outcome that is written unless an enabled invalid operation or zero divide is raised; otherwise FR and FI are 0. -/
structure FpOut.Coherent (fpscr : Word) (o : FpOut) : Prop where
  writes : o.writes = !suppressedBy fpscr o.raised
  rounding : o.writes = false → o.fr = false ∧ o.fi = false ∧ o.frOpen = false

/-- FPSCR after arithmetic with a coherent outcome and single-representable operands. -/
theorem State.fpStatus_fpscrAfter {s : State} {o : FpOut} (h : o.Coherent s.fpscr) :
    FpStatus s.fpscr (s.fpscrAfter o o.raised false) o o.raised := by
  have hclass : (if o.writes then some o.fprf else none).getD (s.fpscr.extractLsb' 12 5) =
      if o.writes then o.fprf else s.fpscr.extractLsb' 12 5 := by split <;> rfl
  refine ⟨rounded_raised .., (rounded_class ..).trans hclass, rounded_fi .., fun hopen => ?_, fun hw => ?_⟩
  · exact (rounded_fr ..).trans (if_neg (by simp [hopen]))
  · obtain ⟨hfr, hfi, hopen⟩ := h.rounding hw
    exact extractLsb'_frFi ((rounded_fi ..).trans hfi) ((rounded_fr ..).trans ((if_neg (by simp [hopen])).trans hfr))

theorem suppressedBy_of_none {fpscr raised : Word} (h : raised &&& (vxBits ||| zxBit) = 0) :
    suppressedBy fpscr raised = false := by
  rw [BitVec.and_or_distrib_left] at h
  obtain ⟨hvx, hzx⟩ := BitVec.or_eq_zero_iff.1 h
  simp [suppressedBy, hvx, hzx]

/-- An outcome that raises no invalid operation and no zero divide, and is written. -/
theorem FpOut.Coherent.of_writes {fpscr : Word} {o : FpOut} (hw : o.writes = true)
    (h : o.raised &&& (vxBits ||| zxBit) = 0) : o.Coherent fpscr where
  writes := by rw [hw, suppressedBy_of_none h]; rfl
  rounding hno := by cases hno.symm.trans hw

theorem FpOut.Coherent.exact {fpscr raised : Word} (result : Lane) (fprf : BitVec 5)
    (h : suppressedBy fpscr raised = false) : (FpOut.exact raised result fprf).Coherent fpscr where
  writes := by rw [FpOut.exact, h]; rfl
  rounding hno := by cases hno

theorem FpOut.Coherent.suppressed {fpscr raised : Word} (h : suppressedBy fpscr raised = true) :
    (FpOut.suppressed raised).Coherent fpscr where
  writes := by rw [FpOut.suppressed, h]; rfl
  rounding _ := ⟨rfl, rfl, rfl⟩

/-- XX beside other bits that are neither an invalid operation nor a zero divide. -/
theorem or_xxIf_and {x : Word} (h : x &&& (vxBits ||| zxBit) = 0) (fi : Bool) :
    (x ||| xxIf fi) &&& (vxBits ||| zxBit) = 0 := by
  have hxx : xxIf fi &&& (vxBits ||| zxBit) = 0 := by revert fi; decide
  rw [BitVec.and_or_distrib_right, h, hxx]
  rfl

/-- Rounding raises OX, UX and XX only, and its result is written. -/
theorem roundFinite_coherent (p : Precision) (fpscr : Word) (neg : Bool) (mant : Nat) (exp : Int) (sticky : Bool) :
    (roundFinite p fpscr neg mant exp sticky).Coherent fpscr := by
  have hux : uxBit &&& (vxBits ||| zxBit) = 0 := by decide
  have hox : oxBit &&& (vxBits ||| zxBit) = 0 := by decide
  have htiny : ∀ b : Bool, (if b then uxBit else 0) &&& (vxBits ||| zxBit) = 0 := by decide
  unfold roundFinite
  dsimp only
  split
  case isTrue => exact .of_writes rfl (or_xxIf_and hux _)
  case isFalse =>
    split
    case isTrue => exact .of_writes rfl (or_xxIf_and hux _)
    case isFalse =>
      split
      case isTrue =>
        split
        case isTrue => exact .of_writes rfl (or_xxIf_and hox _)
        case isFalse => exact .of_writes rfl (or_xxIf_and hox true)
      case isFalse => exact .of_writes rfl (or_xxIf_and (htiny _) _)

theorem deliver_coherent (p : Precision) (fpscr : Word) (z : Fp) (sticky : Bool) :
    (deliver p fpscr z sticky).Coherent fpscr := by
  have hnone : suppressedBy fpscr 0 = false := suppressedBy_of_none (by decide)
  cases z with
  | zero | inf | nan => exact .exact _ _ hnone
  | finite => exact roundFinite_coherent ..

theorem suppressedBy_zx (fpscr : Word) : suppressedBy fpscr zxBit = zeOf fpscr := by
  have hvx : decide (zxBit &&& vxBits ≠ 0) = false := by decide
  have hzx : decide (zxBit &&& zxBit ≠ 0) = true := by decide
  rw [suppressedBy, hvx, hzx, Bool.and_false, Bool.and_true, Bool.false_or]

theorem zeroDivide_coherent (fpscr : Word) (neg : Bool) : (zeroDivide fpscr neg).Coherent fpscr := by
  unfold zeroDivide
  split
  case isTrue h => exact .suppressed ((suppressedBy_zx fpscr).trans h)
  case isFalse h => exact .exact _ _ ((suppressedBy_zx fpscr).trans (Bool.eq_false_iff.2 h))

/-- Only VX bits. -/
def OnlyVx (w : Word) : Prop := w &&& vxBits = w

theorem OnlyVx.or {a b : Word} (ha : OnlyVx a) (hb : OnlyVx b) : OnlyVx (a ||| b) := by
  rw [OnlyVx, BitVec.and_or_distrib_right, ha, hb]

/-- An invalid operation is suppressed where VE enables it. -/
theorem OnlyVx.suppressedBy {fpscr vx : Word} (h : OnlyVx vx) (hne : vx ≠ 0) :
    suppressedBy fpscr vx = veOf fpscr := by
  have hzx : vx &&& zxBit = 0 := by
    rw [← h, BitVec.and_assoc, show vxBits &&& zxBit = 0 by decide]
    exact BitVec.and_zero
  have hvx : vx &&& vxBits = vx := h
  rw [Machine.suppressedBy, hvx, hzx, decide_eq_true hne, decide_eq_false (not_not.2 rfl), Bool.and_true,
    Bool.and_false, Bool.or_false]

theorem resolve_coherent {fpscr vx : Word} (nan : Option Lane) {rest : FpOut} (hvx : OnlyVx vx)
    (hrest : rest.Coherent fpscr) : (resolve fpscr vx nan rest).Coherent fpscr := by
  unfold resolve
  split
  case isTrue hne =>
    split
    case isTrue hve => exact .suppressed ((hvx.suppressedBy hne).trans hve)
    case isFalse hve => exact .exact _ _ ((hvx.suppressedBy hne).trans (Bool.eq_false_iff.2 hve))
  case isFalse =>
    cases nan with
    | none => exact hrest
    | some v => exact FpOut.Coherent.exact (quiet v) classNan (suppressedBy_of_none (by decide))

theorem onlyVx_zero : OnlyVx 0 := by unfold OnlyVx; decide

theorem onlyVx_snanBits (vs : List Lane) : OnlyVx (snanBits vs) := by
  unfold OnlyVx snanBits
  split <;> decide

theorem onlyVx_isiBits (a b : Fp) : OnlyVx (isiBits a b) := by
  unfold OnlyVx isiBits
  split
  · split <;> decide
  · decide

theorem onlyVx_imzBits (a b : Fp) : OnlyVx (imzBits a b) := by
  unfold OnlyVx imzBits
  split <;> decide

theorem onlyVx_divBits (a b : Fp) : OnlyVx (divBits a b) := by
  unfold OnlyVx divBits
  split <;> decide

/-! ### The operations -/

section
variable (p : Precision) (fpscr : Word) (a b c : Lane)

theorem fpAdd_coherent : (fpAdd p fpscr a b).Coherent fpscr :=
  resolve_coherent _ ((onlyVx_snanBits _).or (onlyVx_isiBits _ _)) (deliver_coherent ..)

theorem fpSub_coherent : (fpSub p fpscr a b).Coherent fpscr :=
  resolve_coherent _ ((onlyVx_snanBits _).or (onlyVx_isiBits _ _)) (deliver_coherent ..)

theorem fpMul_coherent : (fpMul p fpscr a c).Coherent fpscr :=
  resolve_coherent _ ((onlyVx_snanBits _).or (onlyVx_imzBits _ _)) (deliver_coherent ..)

theorem fpDiv_coherent : (fpDiv p fpscr a b).Coherent fpscr := by
  refine resolve_coherent _ ((onlyVx_snanBits _).or (onlyVx_divBits _ _)) ?_
  split
  · exact zeroDivide_coherent ..
  · exact deliver_coherent ..

theorem fpMulAdd_coherent (subtract : Bool) : (fpMulAdd p fpscr subtract a c b).Coherent fpscr :=
  resolve_coherent _ (((onlyVx_snanBits _).or (onlyVx_imzBits _ _)).or (onlyVx_isiBits _ _)) (deliver_coherent ..)

theorem fpSqrt_coherent : (fpSqrt p fpscr b).Coherent fpscr := by
  refine resolve_coherent _ ((onlyVx_snanBits _).or ?_) (deliver_coherent ..)
  unfold OnlyVx
  split <;> decide

end

/-- The negative forms change the result and its class only (R483). -/
theorem FpOut.Coherent.negated {fpscr : Word} {o : FpOut} (h : o.Coherent fpscr) : o.negated.Coherent fpscr := by
  unfold FpOut.negated
  split
  · exact h
  · exact ⟨h.writes, h.rounding⟩

theorem fpRoundSingle_coherent (fpscr : Word) (b : Lane) : (fpRoundSingle fpscr b).Coherent fpscr := by
  have h := resolve_coherent (fpscr := fpscr) ([b].find? isNan) (onlyVx_snanBits [b])
    (deliver_coherent single fpscr (unpack b) false)
  unfold fpRoundSingle
  dsimp only
  split
  · exact ⟨h.writes, h.rounding⟩
  · exact h

end Sys2Proof.Machine
end

section
/-! PROOFS. The family 10_state.md: scalar floating-point arithmetic. -/

namespace Sys2Proof.Machine

/-! ### FPSCR after an estimate (R440) -/

/-- An estimate leaves FPSCR as arithmetic does, but for XX and the bits computed from it. -/
theorem State.fpscrAfterEstimate_bits (s : State) (o : FpOut) (raised : Word) (classOpen fixed : Bool) :
    ∃ fr fi xx, (fixed = true → o.frOpen = false → fr = o.fr ∧ fi = o.fi) ∧
      ∀ j < 32, j ≠ 25 → j ≠ 30 → j ≠ 29 → j ≠ 11 → (s.fpscrAfterEstimate o raised classOpen fixed).getLsbD j =
        (raiseBits (setRounding s.fpscr fr fi
          (if o.writes then some (if classOpen then freeClass (s.freeAt 0) else o.fprf) else none))
          (raised ||| xxIf xx)).getLsbD j := by
  have hxx : ∀ (v : Word) (b : Bool) (j : Nat), j < 32 → j ≠ 25 → j ≠ 30 → j ≠ 29 → j ≠ 11 →
      (if b then v else summarize (v &&& ~~~xxBit)).getLsbD j = v.getLsbD j := by
    intro v b j hj h25 h30 h29 h11
    cases b with
    | true => rfl
    | false =>
      have hbit : xxBit.getLsbD j = false := by
        rw [show xxBit = (1#32) <<< 25 from rfl, getLsbD_oneBit hj]
        exact decide_eq_false h25
      refine (summarize_getLsbD_other _ hj h30 h29 h11).trans ?_
      rw [BitVec.getLsbD_and, BitVec.getLsbD_not, hbit, decide_eq_true hj, Bool.not_false, Bool.and_true, Bool.and_true]
  cases fixed with
  | true =>
    exact ⟨if o.frOpen then (s.freeAt 0).getLsbD 37 else o.fr, o.fi, (s.freeAt 0).getLsbD 39,
      fun _ hopen => ⟨if_neg (by simp [hopen]), rfl⟩, hxx _ _⟩
  | false =>
    exact ⟨(s.freeAt 0).getLsbD 37, (s.freeAt 0).getLsbD 38, (s.freeAt 0).getLsbD 39, fun h => (by cases h), hxx _ _⟩

section
variable (s : State) (o : FpOut) (classOpen fixed : Bool)

theorem State.fpscrAfterEstimate_control :
    s.fpscrAfterEstimate o o.raised classOpen fixed &&& 0xFF = s.fpscr &&& 0xFF := by
  have hplace : ∀ j < 32, (0xFF : Word).getLsbD j = true → j ≠ 25 ∧ j ≠ 30 ∧ j ≠ 29 ∧ j ≠ 11 := by decide
  obtain ⟨fr, fi, xx, _, hbits⟩ := s.fpscrAfterEstimate_bits o o.raised classOpen fixed
  have hlow := fun (j : Nat) (hj : j < 32) (hm : (0xFF : Word).getLsbD j = true) =>
    have ⟨h25, h30, h29, h11⟩ := hplace j hj hm
    hbits j hj h25 h30 h29 h11
  rw [and_mask_congr hlow]
  exact rounded_control ..

/-- An estimate clears no exception bit but XX. -/
theorem State.fpscrAfterEstimate_kept :
    s.fpscr &&& 0x9DF80700 &&& ~~~(s.fpscrAfterEstimate o o.raised classOpen fixed) = 0 := by
  have hplace : ∀ j < 32, (0x9DF80700 : Word).getLsbD j = true →
      j ≠ 25 ∧ j ≠ 30 ∧ j ≠ 29 ∧ j ≠ 11 ∧ (j = 31 ∨ exceptionBits.getLsbD j = true) := by decide
  obtain ⟨fr, fi, xx, _, hbits⟩ := s.fpscrAfterEstimate_bits o o.raised classOpen fixed
  refine and_mask_not_eq_zero fun j hj hm hv => ?_
  obtain ⟨h25, h30, h29, h11, hexc⟩ := hplace j hj hm
  rw [hbits j hj h25 h30 h29 h11]
  obtain rfl | hexc := hexc
  · rw [rounded_fx, hv, Bool.true_or]
  · rw [rounded_exception _ _ _ _ _ hj hexc, BitVec.getLsbD_or, hv, Bool.true_or]

/-- The exception bits but XX accumulate. -/
theorem State.fpscrAfterEstimate_exceptions :
    s.fpscrAfterEstimate o o.raised classOpen fixed &&& 0x1DF80700 = (s.fpscr ||| o.raised) &&& 0x1DF80700 := by
  have hplace : ∀ j < 32, (0x1DF80700 : Word).getLsbD j = true →
      j ≠ 25 ∧ j ≠ 30 ∧ j ≠ 29 ∧ j ≠ 11 ∧ exceptionBits.getLsbD j = true := by decide
  obtain ⟨fr, fi, xx, _, hbits⟩ := s.fpscrAfterEstimate_bits o o.raised classOpen fixed
  refine and_mask_congr fun j hj hm => ?_
  obtain ⟨h25, h30, h29, h11, hexc⟩ := hplace j hj hm
  have hxx : (xxIf xx).getLsbD j = false := by
    cases xx with
    | false => simp [xxIf]
    | true =>
      refine (getLsbD_oneBit (n := 25) hj).trans ?_
      exact decide_eq_false h25
  rw [hbits j hj h25 h30 h29 h11, rounded_exception _ _ _ _ _ hj hexc]
  simp only [BitVec.getLsbD_or, hxx, Bool.or_false]

/-- FPRF after an estimate. -/
theorem State.fpscrAfterEstimate_class :
    (s.fpscrAfterEstimate o o.raised false fixed).extractLsb' 12 5 =
      if o.writes then o.fprf else s.fpscr.extractLsb' 12 5 := by
  obtain ⟨fr, fi, xx, _, hbits⟩ := s.fpscrAfterEstimate_bits o o.raised false fixed
  refine (extractLsb'_congr fun i hi => hbits _ (by omega) (by omega) (by omega) (by omega) (by omega)).trans ?_
  rw [rounded_class]
  split <;> rfl

/-- FR and FI after an estimate of a zero. -/
theorem State.fpscrAfterEstimate_frFi (hopen : o.frOpen = false) (hfr : o.fr = false) (hfi : o.fi = false) :
    (s.fpscrAfterEstimate o o.raised classOpen true).extractLsb' 17 2 = 0 := by
  obtain ⟨fr, fi, xx, hfixed, hbits⟩ := s.fpscrAfterEstimate_bits o o.raised classOpen true
  obtain ⟨rfl, rfl⟩ := hfixed rfl hopen
  refine extractLsb'_frFi ?_ ?_
  · exact (hbits 17 (by decide) (by decide) (by decide) (by decide) (by decide)).trans ((rounded_fi ..).trans hfi)
  · exact (hbits 18 (by decide) (by decide) (by decide) (by decide) (by decide)).trans ((rounded_fr ..).trans hfr)

end

/-! ### The end of an arithmetic instruction -/

/-- `t` is `s` after arithmetic that left `f` in FPSCR and these two lanes in its target. -/
structure TargetEnds (s t : State) (frD : FReg) (rc : Bool) (f : Word) (r0 r1 : Lane) : Prop where
  ends : FpEnds s t frD rc
  fpscr : t.fpscr = f
  lane0 : t.f0 frD = r0
  lane1 : t.f1 frD = r1

theorem State.inMode_ieee {s : State} (hni : niOf s.fpscr = false) (p : Precision) (bits : Word) (r : BitVec 64)
    (o : FpOut) : s.inMode p bits r o = o := if_neg (by simp [hni])

section
variable {s : State} (hfe : s.msrFe = false) (hse : s.msrSe = false) (frD : FReg) (rc : Bool)
include hfe hse

theorem targetEnds_of_frame {u : State}
    (hframe : u = { s with ps0 := u.ps0, ps1 := u.ps1, fpscr := u.fpscr, draws := u.draws })
    (hother : ∀ r, r ≠ frD → u.f0 r = s.f0 r ∧ u.f1 r = s.f1 r) (hctl : u.fpscr &&& 0xFF = s.fpscr &&& 0xFF) :
    ∃ t, u.finishFp rc = .next t ∧ TargetEnds s t frD rc u.fpscr (u.f0 frD) (u.f1 frD) := by
  have hmsr : u.msr = s.msr := by rw [hframe]
  have hfe' : u.msrFe = false := by rwa [State.msrFe, hmsr]
  have hse' : u.msrSe = false := by rwa [State.msrSe, hmsr]
  have heq := u.recordCr1If_eq rc
  refine ⟨_, State.finishFp_untrapped hfe' hse' rc, fpEnds_recorded rc hframe hother hctl, ?_, ?_, ?_⟩
  · exact State.recordCr1If_fpscr ..
  · rw [heq]
    rfl
  · rw [heq]
    rfl

/-- Arithmetic that may write lane 0 only. -/
theorem writtenD_ends {f : Word} (hctl : f &&& 0xFF = s.fpscr &&& 0xFF) (w : Bool) (r : Lane) :
    ∃ t, (if w then ({ s.drawnBy 3 with fpscr := f } : State).writeD frD r
        else { s.drawnBy 3 with fpscr := f }).finishFp rc = .next t ∧
      TargetEnds s t frD rc f (if w then r else s.f0 frD) (s.f1 frD) := by
  cases w with
  | true =>
    obtain ⟨t, ht, hends⟩ := targetEnds_of_frame hfe hse frD rc
      (u := ({ s.drawnBy 3 with fpscr := f } : State).writeD frD r) rfl
      (fun q hq => ⟨State.f0_setF0_other _ _ hq, rfl⟩) hctl
    exact ⟨t, ht, hends.ends, hends.fpscr, hends.lane0.trans (State.f0_setF0_same ..), hends.lane1⟩
  | false =>
    exact targetEnds_of_frame hfe hse frD rc (u := { s.drawnBy 3 with fpscr := f }) rfl (fun _ _ => ⟨rfl, rfl⟩) hctl

/-- What a single-precision instruction leaves in lane 1 (R46, R470). -/
def State.singleLane1 (s : State) (frD : FReg) (w : Bool) (r : Lane) (draw : BitVec 64) : Lane :=
  if w && s.pse then (if singleRepresentable r then r else doubleFromSingle (draw.setWidth 32)) else s.f1 frD

/-- Arithmetic that writes lane 1 too with HID2[PSE]. -/
theorem writtenS_ends {f : Word} (hctl : f &&& 0xFF = s.fpscr &&& 0xFF) (w : Bool) (r : Lane) (draw : BitVec 64) :
    ∃ t, (if w then ({ s.drawnBy 3 with fpscr := f } : State).writeS frD r draw
        else { s.drawnBy 3 with fpscr := f }).finishFp rc = .next t ∧
      TargetEnds s t frD rc f (if w then r else s.f0 frD) (s.singleLane1 frD w r draw) := by
  have hpse' : ({ s.drawnBy 3 with fpscr := f } : State).pse = s.pse := rfl
  cases w with
  | false =>
    exact targetEnds_of_frame hfe hse frD rc (u := { s.drawnBy 3 with fpscr := f }) rfl (fun _ _ => ⟨rfl, rfl⟩) hctl
  | true =>
    rw [if_pos rfl, State.writeS, hpse', State.singleLane1, Bool.true_and]
    cases s.pse with
    | false => exact writtenD_ends hfe hse frD rc hctl true r
    | true =>
      obtain ⟨t, ht, hends⟩ := targetEnds_of_frame hfe hse frD rc
        (u := (({ s.drawnBy 3 with fpscr := f } : State).setF0 frD r).setF1 frD
          (if singleRepresentable r then r else doubleFromSingle (draw.setWidth 32))) rfl
        (fun q hq => ⟨State.f0_setF0_other _ _ hq, State.f1_setF1_other _ _ hq⟩) hctl
      exact ⟨t, ht, hends.ends, hends.fpscr, hends.lane0.trans (State.f0_setF0_same ..),
        hends.lane1.trans (State.f1_setF1_same ..)⟩

end

/-! ### The instructions by the form of their end -/

section
variable {s : State} (hfe : s.msrFe = false) (hse : s.msrSe = false) (hni : niOf s.fpscr = false) (frD : FReg) (rc : Bool)
include hfe hse hni

theorem arithD_ends (o : FpOut) : ∃ t, s.arithD frD rc o = .next t ∧
    TargetEnds s t frD rc (s.fpscrAfter o o.raised false) (if o.writes then o.result else s.f0 frD) (s.f1 frD) := by
  unfold State.arithD
  rw [State.inMode_ieee hni]
  exact writtenD_ends hfe hse frD rc (rounded_control ..) o.writes o.result

theorem arithS_ends (operands : List Lane) (o : FpOut) : ∃ t, s.arithS frD rc operands o = .next t ∧
    ∃ r draw opened, (opened = operands.any fun v => !singleRepresentable v) ∧ (opened = false → r = o.result) ∧
      TargetEnds s t frD rc (s.fpscrAfter o o.raised opened) (if o.writes then r else s.f0 frD)
        (s.singleLane1 frD o.writes r draw) := by
  unfold State.arithS
  rw [State.inMode_ieee hni, hni]
  obtain ⟨t, ht, hends⟩ := writtenS_ends hfe hse frD rc (f := s.fpscrAfter o o.raised
    (!false && operands.any fun v => !singleRepresentable v)) (rounded_control ..) o.writes
    (if !false && operands.any fun v => !singleRepresentable v then s.freeAt 1 else o.result) (s.freeAt 2)
  exact ⟨t, ht, _, s.freeAt 2, _, rfl, fun hopen => if_neg (by simpa using hopen), hends⟩

theorem convert_ends (frB : FReg) (rn : BitVec 2) : ∃ t, s.convert frD frB rc rn = .next t ∧
    ∃ fr fi p raised r0, TargetEnds s t frD rc (raiseBits (setRounding s.fpscr fr fi p) raised) r0 (s.f1 frD) := by
  unfold State.convert
  dsimp only
  rw [State.inMode_ieee hni]
  generalize convertToInteger rn (s.f0 frB) = c
  obtain ⟨t, ht, hends⟩ := writtenD_ends hfe hse frD rc
    (rounded_control s.fpscr c.fr c.fi (some (freeClass (s.freeAt 0))) c.raised)
    (!(veOf s.fpscr && decide (c.raised &&& vxBits ≠ 0))) ((s.freeAt 1).extractLsb' 32 32 ++ c.value)
  exact ⟨t, ht, _, _, _, _, _, hends⟩

theorem fres_ends (hfp : s.msrFp = true) (frB : FReg) {e : Estimate}
    (he : e = fpReciprocal s.fpscr (s.f0 frB) (s.freeAt 0)) : ∃ t, execFres frD frB rc s = .next t ∧
    ∃ r draw opened, (opened = !singleRepresentable (s.f0 frB)) ∧ (opened = false → r = e.out.result) ∧
      TargetEnds s t frD rc (s.fpscrAfterEstimate e.out e.out.raised opened e.zeroDivide)
        (if e.out.writes then r else s.f0 frD) (s.singleLane1 frD e.out.writes r draw) := by
  rw [execFres, withFp_of_on hfp, ← he]
  dsimp only
  rw [State.inMode_ieee hni, hni]
  simp only [Bool.not_false, Bool.true_and, Bool.and_true]
  obtain ⟨t, ht, hends⟩ := writtenS_ends hfe hse frD rc
    (s.fpscrAfterEstimate_control e.out (!singleRepresentable (s.f0 frB)) e.zeroDivide) e.out.writes
    (if !singleRepresentable (s.f0 frB) then s.freeAt 1 else e.out.result) (s.freeAt 2)
  exact ⟨t, ht, _, s.freeAt 2, _, rfl, fun hopen => if_neg (by simpa using hopen), hends⟩

theorem frsqrte_ends (hfp : s.msrFp = true) (frB : FReg) {e : Estimate}
    (he : e = fpReciprocalSqrt double s.fpscr (s.f0 frB) (estimateDouble (Config.frsqrteEst (s.f0 frB)))) :
    ∃ t, execFrsqrte frD frB rc s = .next t ∧
      TargetEnds s t frD rc (s.fpscrAfterEstimate e.out e.out.raised false e.zeroDivide)
        (if e.out.writes then e.out.result else s.f0 frD) (s.f1 frD) := by
  rw [execFrsqrte, withFp_of_on hfp, ← he]
  dsimp only
  rw [State.inMode_ieee hni, hni]
  simp only [Bool.not_false, Bool.and_true]
  exact writtenD_ends hfe hse frD rc (s.fpscrAfterEstimate_control e.out false e.zeroDivide) e.out.writes e.out.result

end

/-! ### What every scalar arithmetic instruction keeps -/

/-- `t` is `s` after a scalar arithmetic instruction with the target `frD`: `kept` are the bits of FPSCR it does not clear,
`lane0Only` says that it never writes lane 1. -/
structure ScalarEnds (s t : State) (frD : FReg) (rc : Bool) (kept : Word) (lane0Only : Bool) : Prop where
  ends : FpEnds s t frD rc
  computed : t.fpscrComputed
  kept : s.fpscr &&& kept &&& ~~~t.fpscr = 0
  lane1 : lane0Only = true ∨ s.pse = false → t.f1 frD = s.f1 frD
  pair : lane0Only = false → s.pse = true → singleRepresentable (t.f0 frD) = true →
    t.f1 frD = t.f0 frD ∨ (t.f0 frD = s.f0 frD ∧ t.f1 frD = s.f1 frD)

section
variable {s t : State} {frD : FReg} {rc : Bool} {f kept : Word} {r0 r : Lane} {draw : BitVec 64} {w : Bool}
  (hf : ∃ v, f = summarize v) (hkept : s.fpscr &&& kept &&& ~~~f = 0)
include hf hkept

theorem TargetEnds.scalarD (h : TargetEnds s t frD rc f r0 (s.f1 frD)) : ScalarEnds s t frD rc kept true := by
  obtain ⟨v, hv⟩ := hf
  refine ⟨h.ends, State.fpscrComputed_of_summarize (h.fpscr.trans hv), ?_, fun _ => h.lane1, fun hno => by cases hno⟩
  rw [h.fpscr, hkept]

theorem TargetEnds.scalarS
    (h : TargetEnds s t frD rc f (if w then r else s.f0 frD) (s.singleLane1 frD w r draw)) :
    ScalarEnds s t frD rc kept false := by
  obtain ⟨v, hv⟩ := hf
  refine ⟨h.ends, State.fpscrComputed_of_summarize (h.fpscr.trans hv), by rw [h.fpscr, hkept], fun hno => ?_,
    fun _ hpse hsingle => ?_⟩
  · have hpse : s.pse = false := hno.resolve_left (by decide)
    exact h.lane1.trans (if_neg (by simp [hpse]))
  · rw [h.lane0] at hsingle ⊢
    rw [h.lane1]
    cases w with
    | true => exact .inl ((if_pos (by simp [hpse])).trans (if_pos hsingle))
    | false => exact .inr ⟨rfl, if_neg (by simp)⟩

end

/-- The exception bits an instruction never clears: an estimate may clear XX (R440). -/
def keptExceptions : Instr → Word
  | .fres _ _ _ | .frsqrte _ _ _ => 0x9DF80700
  | _ => 0x9FF80700

/-- A square root on a part that has it. -/
theorem withFsqrt_of_has {s : State} {run : Out} (h : s.params.hasFsqrt = true) :
    (if !s.params.hasFsqrt then raiseProgram .illegalInstruction s else run) = run := if_neg (by simp [h])

section
variable {s : State} (hfp : s.msrFp = true) (hfe : s.msrFe = false) (hse : s.msrSe = false) (hni : niOf s.fpscr = false)
  (frD : FReg) (rc : Bool)
include hfp hfe hse hni

theorem arithD_scalarEnds (o : FpOut) :
    ∃ t, withFp s (s.arithD frD rc o) = .next t ∧ ScalarEnds s t frD rc 0x9FF80700 true := by
  obtain ⟨t, ht, hends⟩ := arithD_ends hfe hse hni frD rc o
  exact ⟨t, (withFp_of_on hfp).trans ht, hends.scalarD (s.fpscrAfter_eq ..) (rounded_kept ..)⟩

theorem arithS_scalarEnds (operands : List Lane) (o : FpOut) :
    ∃ t, withFp s (s.arithS frD rc operands o) = .next t ∧ ScalarEnds s t frD rc 0x9FF80700 false := by
  obtain ⟨t, ht, _, _, _, _, _, hends⟩ := arithS_ends hfe hse hni frD rc operands o
  exact ⟨t, (withFp_of_on hfp).trans ht, hends.scalarS (s.fpscrAfter_eq ..) (rounded_kept ..)⟩

theorem convert_scalarEnds (frB : FReg) (rn : BitVec 2) :
    ∃ t, withFp s (s.convert frD frB rc rn) = .next t ∧ ScalarEnds s t frD rc 0x9FF80700 true := by
  obtain ⟨t, ht, _, _, _, _, _, hends⟩ := convert_ends hfe hse hni frD rc frB rn
  exact ⟨t, (withFp_of_on hfp).trans ht, hends.scalarD ⟨_, rfl⟩ (rounded_kept ..)⟩

theorem fres_scalarEnds (frB : FReg) :
    ∃ t, execFres frD frB rc s = .next t ∧ ScalarEnds s t frD rc 0x9DF80700 false := by
  obtain ⟨t, ht, _, _, _, _, _, hends⟩ := fres_ends hfe hse hni frD rc hfp frB rfl
  exact ⟨t, ht, hends.scalarS (s.fpscrAfterEstimate_eq ..) (s.fpscrAfterEstimate_kept ..)⟩

theorem frsqrte_scalarEnds (frB : FReg) :
    ∃ t, execFrsqrte frD frB rc s = .next t ∧ ScalarEnds s t frD rc 0x9DF80700 true := by
  obtain ⟨t, ht, hends⟩ := frsqrte_ends hfe hse hni frD rc hfp frB rfl
  exact ⟨t, ht, hends.scalarD (s.fpscrAfterEstimate_eq ..) (s.fpscrAfterEstimate_kept ..)⟩

/-- Each of the 23 instructions completes. -/
theorem scalarArithmetic_ends {i : Instr} (h : scalarArithmetic i = some (frD, rc))
    (hsqrt : isSquareRoot i = true → s.params.hasFsqrt = true) :
    ∃ t, exec i s = .next t ∧ ScalarEnds s t frD rc (keptExceptions i) (writesLane0Only i) := by
  cases i with
  | fadd | fsub | fmul | fdiv | fmadd | fmsub | fnmadd | fnmsub =>
    cases h
    exact arithD_scalarEnds hfp hfe hse hni _ _ _
  | fadds | fsubs | fmuls | fdivs | fmadds | fmsubs | fnmadds | fnmsubs | frsp =>
    cases h
    exact arithS_scalarEnds hfp hfe hse hni _ _ _ _
  | fsqrt =>
    cases h
    obtain ⟨t, ht, hends⟩ := arithD_scalarEnds hfp hfe hse hni frD rc _
    exact ⟨t, (withFsqrt_of_has (hsqrt rfl)).trans ht, hends⟩
  | fsqrts =>
    cases h
    obtain ⟨t, ht, hends⟩ := arithS_scalarEnds hfp hfe hse hni frD rc _ _
    exact ⟨t, (withFsqrt_of_has (hsqrt rfl)).trans ht, hends⟩
  | fctiw | fctiwz =>
    cases h
    exact convert_scalarEnds hfp hfe hse hni _ _ _ _
  | fres =>
    cases h
    exact fres_scalarEnds hfp hfe hse hni _ _ _
  | frsqrte =>
    cases h
    exact frsqrte_scalarEnds hfp hfe hse hni _ _ _
  | _ => cases h

end

end Sys2Proof.Machine
end

section
/-! PROOFS. The family 10_state.md: the results of scalar floating-point arithmetic. -/

namespace Sys2Proof.Machine

/-! ### Results of the operations -/

/-- The instruction completes with the outcome `o` in FPSCR and in its target. -/
def Gives (s : State) (frD : FReg) (i : Instr) (o : FpOut) : Prop :=
  ∃ t, exec i s = .next t ∧ FpStatus s.fpscr t.fpscr o o.raised ∧ o.writes = !suppressedBy s.fpscr o.raised ∧
    if o.writes then t.f0 frD = o.result else t.f0 frD = s.f0 frD ∧ t.f1 frD = s.f1 frD

section
variable {s : State} (hfp : s.msrFp = true) (hfe : s.msrFe = false) (hse : s.msrSe = false) (hni : niOf s.fpscr = false)
  (frD : FReg) (rc : Bool) {i : Instr} {o : FpOut} (ho : o.Coherent s.fpscr)
include hfp hfe hse hni ho

theorem gives_arithD (hi : exec i s = withFp s (s.arithD frD rc o)) : Gives s frD i o := by
  obtain ⟨t, ht, hends⟩ := arithD_ends hfe hse hni frD rc o
  refine ⟨t, hi.trans ((withFp_of_on hfp).trans ht), ?_, ho.writes, ?_⟩
  · rw [hends.fpscr]
    exact State.fpStatus_fpscrAfter ho
  · rw [hends.lane0, hends.lane1]
    split <;> simp

theorem gives_arithS {operands : List Lane} (hops : ∀ v ∈ operands, singleRepresentable v = true)
    (hi : exec i s = withFp s (s.arithS frD rc operands o)) : Gives s frD i o := by
  obtain ⟨t, ht, r, draw, opened, hopened, hr, hends⟩ := arithS_ends hfe hse hni frD rc operands o
  have hclosed : opened = false := by
    rw [hopened, List.any_eq_false]
    intro v hv
    simp [hops v hv]
  refine ⟨t, hi.trans ((withFp_of_on hfp).trans ht), ?_, ho.writes, ?_⟩
  · rw [hends.fpscr, hclosed]
    exact State.fpStatus_fpscrAfter ho
  · rw [hends.lane0, hends.lane1, hr hclosed]
    cases o.writes with
    | true => rfl
    | false => exact ⟨rfl, rfl⟩

end

/-! ### Estimates of zeros, infinities, NaNs and negative numbers -/

theorem isNan_iff (v : Lane) : isNan v = true ↔ unpack v = .nan := by
  rw [isNan, unpack]
  split
  case isTrue he =>
    rw [he]
    split
    case isTrue hf => simp [hf]
    case isFalse hf => simp [hf]
  case isFalse he =>
    have hnot : (expField v == 2047) = false := beq_false_of_ne he
    rw [hnot]
    split
    case isTrue => split <;> simp
    case isFalse => simp

/-- The quiet image of a NaN is a NaN (R421). -/
theorem unpack_quiet {v : Lane} (h : isNan v = true) : unpack (quiet v) = .nan := by
  have hexp : expField v = 2047 := by
    rw [isNan, Bool.and_eq_true] at h
    exact beq_iff_eq.1 h.1
  have hkeep : (quiet v).extractLsb' 52 11 = v.extractLsb' 52 11 := by
    have hplace : ∀ i < 11, (0x0008000000000000 : Lane).getLsbD (52 + i) = false := by decide
    refine BitVec.eq_of_getLsbD_eq fun i hi => ?_
    rw [BitVec.getLsbD_extractLsb', BitVec.getLsbD_extractLsb', quiet, BitVec.getLsbD_or, hplace i hi, Bool.or_false]
  have hfrac : fracField (quiet v) ≠ 0 := by
    intro hzero
    have hcut : (quiet v).extractLsb' 0 52 = 0 := BitVec.eq_of_toNat_eq hzero
    have hbit : ((quiet v).extractLsb' 0 52).getLsbD 51 = false := by rw [hcut]; rfl
    rw [BitVec.getLsbD_extractLsb', quiet, BitVec.getLsbD_or] at hbit
    simp at hbit
  have hexp' : expField (quiet v) = 2047 := (congrArg BitVec.toNat hkeep).trans hexp
  rw [unpack, if_pos hexp', if_neg hfrac]

/-- An estimate whose result and exception bits but XX are fixed. -/
structure Estimate.Fixed (fpscr : Word) (e : Estimate) (r : Lane) (raised : Word) : Prop where
  raised_eq : e.out.raised = raised
  writes : e.out.writes = !suppressedBy fpscr raised
  result : e.out.writes = true → e.out.result = r ∧ e.out.fprf = classOf double r
  zero : raised = zxBit → e.zeroDivide = true ∧ e.out.frOpen = false ∧ e.out.fr = false ∧ e.out.fi = false

/-- A result that no exception goes with. -/
theorem fixed_exact (fpscr : Word) {r : Lane} {c : BitVec 5} (hc : c = classOf double r) :
    Estimate.Fixed fpscr ⟨.exact 0 r c, false⟩ r 0 where
  raised_eq := rfl
  writes := (FpOut.Coherent.exact r c (suppressedBy_of_none (by decide))).writes
  result _ := ⟨rfl, hc⟩
  zero h := absurd h (by decide)

theorem fixed_zeroDivide (fpscr : Word) (neg : Bool) :
    Estimate.Fixed fpscr ⟨zeroDivide fpscr neg, true⟩ (infinity neg) zxBit := by
  have hclass : classInf neg = classOf double (infinity neg) := by rw [classOf, unpack_infinity]
  cases hze : zeOf fpscr with
  | true =>
    have hout : zeroDivide fpscr neg = .suppressed zxBit := if_pos hze
    rw [hout]
    exact ⟨rfl, by rw [suppressedBy_zx, hze]; rfl, fun hno => (by cases hno), fun _ => ⟨rfl, rfl, rfl, rfl⟩⟩
  | false =>
    have hout : zeroDivide fpscr neg = .exact zxBit (infinity neg) (classInf neg) := if_neg (by simp [hze])
    rw [hout]
    exact ⟨rfl, by rw [suppressedBy_zx, hze]; rfl, fun _ => ⟨rfl, hclass⟩, fun _ => ⟨rfl, rfl, rfl, rfl⟩⟩

/-- An invalid operation. -/
theorem fixed_invalid (fpscr : Word) {vx : Word} (hvx : OnlyVx vx) (hne : vx ≠ 0) (nan : Option Lane)
    (rest : FpOut) (hclass : classNan = classOf double ((nan.map quiet).getD defaultNan)) :
    Estimate.Fixed fpscr ⟨resolve fpscr vx nan rest, false⟩ ((nan.map quiet).getD defaultNan) vx := by
  have hzx : vx ≠ zxBit := by
    rintro rfl
    exact absurd hvx (by unfold OnlyVx; decide)
  have hsup := hvx.suppressedBy (fpscr := fpscr) hne
  cases hve : veOf fpscr with
  | true =>
    have hout : resolve fpscr vx nan rest = .suppressed vx := (if_pos hne).trans (if_pos hve)
    rw [hout]
    exact ⟨rfl, by rw [hsup, hve]; rfl, fun hno => (by cases hno), fun h => absurd h hzx⟩
  | false =>
    have hout : resolve fpscr vx nan rest = .exact vx ((nan.map quiet).getD defaultNan) classNan :=
      (if_pos hne).trans (if_neg (by simp [hve]))
    rw [hout]
    exact ⟨rfl, by rw [hsup, hve]; rfl, fun _ => ⟨rfl, hclass⟩, fun h => absurd h hzx⟩

/-- A NaN operand. -/
theorem fixed_nan (fpscr : Word) {b : Lane} (h : isNan b = true) (rest : FpOut) :
    Estimate.Fixed fpscr ⟨resolve fpscr (snanBits [b]) (some b) rest, false⟩ (quiet b)
      (if isSnan b then vxsnanBit else 0) := by
  have hclass : classNan = classOf double (quiet b) := by rw [classOf, unpack_quiet h]
  have hbits : snanBits [b] = if isSnan b then vxsnanBit else 0 := by simp [snanBits]
  rw [hbits]
  cases isSnan b with
  | true => exact fixed_invalid fpscr (by unfold OnlyVx; decide) (by decide) (some b) rest hclass
  | false => exact fixed_exact fpscr hclass

section
variable (fpscr : Word) {b : Lane} (draw : BitVec 64) (estimate : Lane)

theorem fpReciprocal_zero {neg : Bool} (h : unpack b = .zero neg) :
    (fpReciprocal fpscr b draw).Fixed fpscr (infinity neg) zxBit := by
  rw [fpReciprocal, h]
  exact fixed_zeroDivide ..

theorem fpReciprocal_inf {neg : Bool} (h : unpack b = .inf neg) :
    (fpReciprocal fpscr b draw).Fixed fpscr (layout neg 0 0) 0 := by
  rw [fpReciprocal, h]
  exact fixed_exact fpscr (by rw [classOf, unpack_layout_zero])

theorem fpReciprocal_nan (h : isNan b = true) :
    (fpReciprocal fpscr b draw).Fixed fpscr (quiet b) (if isSnan b then vxsnanBit else 0) := by
  rw [fpReciprocal, (isNan_iff b).1 h]
  exact fixed_nan fpscr h _

theorem fpReciprocalSqrt_zero {neg : Bool} (h : unpack b = .zero neg) :
    (fpReciprocalSqrt double fpscr b estimate).Fixed fpscr (infinity neg) zxBit := by
  rw [fpReciprocalSqrt, h]
  exact fixed_zeroDivide ..

theorem fpReciprocalSqrt_inf (h : unpack b = .inf false) :
    (fpReciprocalSqrt double fpscr b estimate).Fixed fpscr 0 0 := by
  rw [fpReciprocalSqrt, h]
  exact fixed_exact (r := 0) fpscr (by decide)

theorem fpReciprocalSqrt_negative (h : unpack b = .inf true ∨ ∃ m e, unpack b = .finite true m e) :
    (fpReciprocalSqrt double fpscr b estimate).Fixed fpscr defaultNan vxsqrtBit := by
  have hinvalid := fixed_invalid fpscr (vx := vxsqrtBit) (by unfold OnlyVx; decide) (by decide) none
    (.suppressed 0) (by decide)
  obtain h | ⟨m, e, h⟩ := h
  · rw [fpReciprocalSqrt, h]
    exact hinvalid
  · rw [fpReciprocalSqrt, h]
    exact hinvalid

theorem fpReciprocalSqrt_nan (h : isNan b = true) :
    (fpReciprocalSqrt double fpscr b estimate).Fixed fpscr (quiet b) (if isSnan b then vxsnanBit else 0) := by
  rw [fpReciprocalSqrt, (isNan_iff b).1 h]
  exact fixed_nan fpscr h _

end

/-- The estimate completes with the result `r` and these exception bits but XX. -/
def Fixes (s : State) (frD : FReg) (i : Instr) (r : Lane) (raised : Word) : Prop :=
  ∃ t, exec i s = .next t ∧ t.fpscr &&& 0x1DF80700 = (s.fpscr ||| raised) &&& 0x1DF80700 ∧
    (raised = zxBit → t.fpscr.extractLsb' 17 2 = 0) ∧
    if suppressedBy s.fpscr raised then
      (t.f0 frD = s.f0 frD ∧ t.f1 frD = s.f1 frD) ∧ t.fpscr.extractLsb' 12 5 = s.fpscr.extractLsb' 12 5
    else t.f0 frD = r ∧ t.fpscr.extractLsb' 12 5 = classOf double r

/-- A fixed estimate, from what its instruction leaves. -/
theorem fixes_of_targetEnds {s t : State} {frD : FReg} {rc : Bool} {i : Instr} {e : Estimate} {r r1 : Lane} {raised : Word}
    (hi : exec i s = .next t) (he : e.Fixed s.fpscr r raised) (hr1 : e.out.writes = false → r1 = s.f1 frD)
    (h : TargetEnds s t frD rc (s.fpscrAfterEstimate e.out e.out.raised false e.zeroDivide)
      (if e.out.writes then e.out.result else s.f0 frD) r1) : Fixes s frD i r raised := by
  have hclass := s.fpscrAfterEstimate_class e.out e.zeroDivide
  refine ⟨t, hi, ?_, fun hzx => ?_, ?_⟩
  · rw [h.fpscr, s.fpscrAfterEstimate_exceptions, he.raised_eq]
  · obtain ⟨hdivide, hopen, hfr, hfi⟩ := he.zero hzx
    rw [h.fpscr, hdivide]
    exact s.fpscrAfterEstimate_frFi e.out false hopen hfr hfi
  · have hwrites := he.writes
    rw [h.fpscr, h.lane0, h.lane1, hclass]
    cases hsup : suppressedBy s.fpscr raised with
    | true =>
      have hw : e.out.writes = false := by rw [hwrites, hsup]; rfl
      rw [if_pos rfl, hw, hr1 hw]
      exact ⟨⟨rfl, rfl⟩, rfl⟩
    | false =>
      have hw : e.out.writes = true := by rw [hwrites, hsup]; rfl
      rw [if_neg (by decide), hw]
      exact he.result hw

section
variable {s : State} (hfp : s.msrFp = true) (hfe : s.msrFe = false) (hse : s.msrSe = false) (hni : niOf s.fpscr = false)
  (frD frB : FReg) (rc : Bool) {r : Lane} {raised : Word}
include hfp hfe hse hni

theorem fixes_fres (hb : singleRepresentable (s.f0 frB) = true)
    (h : (fpReciprocal s.fpscr (s.f0 frB) (s.freeAt 0)).Fixed s.fpscr r raised) :
    Fixes s frD (.fres frD frB rc) r raised := by
  obtain ⟨t, ht, r0, draw, opened, hopened, hr, hends⟩ := fres_ends hfe hse hni frD rc hfp frB rfl
  have hclosed : opened = false := by rw [hopened, hb]; rfl
  rw [hclosed, hr hclosed] at hends
  exact fixes_of_targetEnds ht h (fun hw => if_neg (by simp [hw])) hends

theorem fixes_frsqrte (h : (fpReciprocalSqrt double s.fpscr (s.f0 frB)
    (estimateDouble (Config.frsqrteEst (s.f0 frB)))).Fixed s.fpscr r raised) :
    Fixes s frD (.frsqrte frD frB rc) r raised := by
  obtain ⟨t, ht, hends⟩ := frsqrte_ends hfe hse hni frD rc hfp frB rfl
  exact fixes_of_targetEnds ht h (fun _ => rfl) hends

end

/-! ### The exception bits that stay -/

theorem not_cleared_mono {v w m m' : Word} (hm : m' &&& m = m') (h : v &&& m &&& ~~~w = 0) : v &&& m' &&& ~~~w = 0 := by
  have hsplit : v &&& (m' &&& m) &&& ~~~w = m' &&& (v &&& m &&& ~~~w) := by ac_rfl
  rw [← hm, hsplit, h]
  exact BitVec.and_zero

theorem keptExceptions_most (i : Instr) : (0x9DF80700 : Word) &&& keptExceptions i = 0x9DF80700 := by
  unfold keptExceptions
  split <;> decide

theorem keptExceptions_of_not_estimate {i : Instr} (h : ∀ d b r, i ≠ .fres d b r ∧ i ≠ .frsqrte d b r) :
    keptExceptions i = 0x9FF80700 := by
  unfold keptExceptions
  split
  · exact absurd rfl (h ..).1
  · exact absurd rfl (h ..).2
  · rfl

end Sys2Proof.Machine

namespace Sys2Proof.Registers

open Sys2Proof.Machine

/-- Settles O37: the first part by the ends of the 23 instructions, the second by the outcome of each operation. -/
theorem scalarArithmetic : Obligations.ScalarArithmetic := by
  refine ⟨fun i s frD rc hi hfp hfe hse hni hsqrt => ?frame, fun d a b c rc s hfp hfe hse hni => ?results⟩
  case frame =>
    obtain ⟨t, ht, hends⟩ := scalarArithmetic_ends hfp hfe hse hni frD rc hi hsqrt
    refine ⟨t, ht, hends.ends, hends.computed, not_cleared_mono (keptExceptions_most i) hends.kept, fun hnot => ?_,
      hends.lane1, hends.pair⟩
    rw [← keptExceptions_of_not_estimate hnot]
    exact hends.kept
  case results =>
    have double := fun {i o} => gives_arithD hfp hfe hse hni d rc (i := i) (o := o)
    have single := fun {i o operands} => gives_arithS hfp hfe hse hni d rc (i := i) (o := o) (operands := operands)
    have sqrt := fun {run} (h : s.params.hasFsqrt = true) => withFsqrt_of_has (s := s) (run := run) h
    have fres := fun {r raised} => fixes_fres hfp hfe hse hni d b rc (r := r) (raised := raised)
    have frsqrte := fun {r raised} => fixes_frsqrte hfp hfe hse hni d b rc (r := r) (raised := raised)
    refine ⟨double (fpAdd_coherent ..) rfl, double (fpSub_coherent ..) rfl, double (fpMul_coherent ..) rfl,
      double (fpDiv_coherent ..) rfl, double (fpMulAdd_coherent ..) rfl, double (fpMulAdd_coherent ..) rfl,
      double (fpMulAdd_coherent ..).negated rfl, double (fpMulAdd_coherent ..).negated rfl,
      single (fpRoundSingle_coherent ..) (operands := []) (by simp) rfl,
      fun hhas => double (fpSqrt_coherent ..) (sqrt hhas), fun hsingles => ?singles, ?estimates⟩
    case singles =>
      obtain ⟨hA, hB, hC⟩ := hsingles
      have one : ∀ v ∈ [s.f0 b], singleRepresentable v = true := by simpa using hB
      have sum : ∀ v ∈ [s.f0 a, s.f0 b], singleRepresentable v = true := by simpa using ⟨hA, hB⟩
      have product : ∀ v ∈ [s.f0 a, s.f0 c], singleRepresentable v = true := by simpa using ⟨hA, hC⟩
      have three : ∀ v ∈ [s.f0 a, s.f0 c, s.f0 b], singleRepresentable v = true := by simpa using ⟨hA, hC, hB⟩
      exact ⟨single (fpAdd_coherent ..) sum rfl, single (fpSub_coherent ..) sum rfl,
        single (fpMul_coherent ..) product rfl, single (fpDiv_coherent ..) sum rfl,
        single (fpMulAdd_coherent ..) three rfl, single (fpMulAdd_coherent ..) three rfl,
        single (fpMulAdd_coherent ..).negated three rfl, single (fpMulAdd_coherent ..).negated three rfl,
        fun hhas => single (fpSqrt_coherent ..) one (sqrt hhas)⟩
    case estimates =>
      refine ⟨fun neg h => ⟨fres ?_ (fpReciprocal_zero _ _ h), frsqrte (fpReciprocalSqrt_zero _ _ h)⟩,
        fun neg h => fres ?_ (fpReciprocal_inf _ _ h), fun h => frsqrte (fpReciprocalSqrt_inf _ _ h),
        fun h => frsqrte (fpReciprocalSqrt_negative _ _ h), fun h hsingle => fres hsingle (fpReciprocal_nan _ _ h),
        fun h => frsqrte (fpReciprocalSqrt_nan _ _ h)⟩
      · rw [singleRepresentable, h]
      · rw [singleRepresentable, h]

end Sys2Proof.Registers
end

section
/-! PROOFS. The family 20_memory.md: every step keeps memory in its canonical form. -/

namespace Sys2Proof.Machine

/-! ### Outcomes with canonical memory -/

/-- Wherever the outcome goes on, memory is in its canonical form. -/
structure CanonicalOut (o : Out) : Prop where
  next_wf : ∀ t, o = .next t → t.mem.wf = true

/-- A part of an instruction leaves memory canonical, or ends the instruction with it canonical. -/
def CanonicalRes {α : Type} : Res α → Prop
  | .ok _ u => u.mem.wf = true
  | .stop o => CanonicalOut o

theorem CanonicalOut.refused (r : Refusal) : CanonicalOut (.refused r) := ⟨fun t h => by cases h⟩

theorem CanonicalOut.next {u : State} (h : u.mem.wf = true) : CanonicalOut (.next u) := by
  refine ⟨?_⟩
  rintro _ ⟨⟩
  exact h

theorem CanonicalOut.ite {o o' : Out} {c : Prop} [Decidable c] (h : CanonicalOut o) (h' : CanonicalOut o') :
    CanonicalOut (if c then o else o') := by
  split
  · exact h
  · exact h'

/-- A choice between two states keeps what both have. -/
theorem wf_ite {s u : State} {c : Prop} [Decidable c] (h : s.mem.wf = true) (h' : u.mem.wf = true) :
    (if c then s else u).mem.wf = true := by
  split
  · exact h
  · exact h'

theorem CanonicalRes.finish {α : Type} {r : Res α} {f : α → State → Out} (h : CanonicalRes r)
    (hf : ∀ a u, u.mem.wf = true → CanonicalOut (f a u)) : CanonicalOut (r.finish f) := by
  cases r with
  | ok a u => exact hf a u h
  | stop o => exact h

theorem CanonicalRes.bind {α β : Type} {r : Res α} {f : α → State → Res β} (h : CanonicalRes r)
    (hf : ∀ a u, u.mem.wf = true → CanonicalRes (f a u)) : CanonicalRes (r.bind f) := by
  cases r with
  | ok a u => exact hf a u h
  | stop o => exact h

/-! ### Exceptions and the ends of instructions: none of them touches memory -/

section
variable {s : State} (h : s.mem.wf = true)
include h

theorem takeException_canonical (e : Exception) (ra info : Word) : CanonicalOut (takeException e ra info s) :=
  .ite (.refused _) (.next h)

theorem raiseProgram_canonical (k : ProgramKind) : CanonicalOut (raiseProgram k s) := takeException_canonical h ..

theorem raiseDsi_canonical (ea c : Word) : CanonicalOut (raiseDsi ea c s) :=
  takeException_canonical (s := { s with dar := ea, dsisr := c }) h ..

theorem machineCheck_canonical (info : Word) : CanonicalOut (machineCheck info s) :=
  .ite (takeException_canonical (s := s.drawn) h ..) (.next h)

theorem raiseAlignment_canonical (i : Instr) (raField : Bool) (ea : Word) :
    CanonicalOut (raiseAlignment i raField ea s) :=
  takeException_canonical (by cases raField <;> exact h) ..

theorem retireTo_canonical (traced : Bool) (next : Word) : CanonicalOut (retireTo traced next s) :=
  .ite (takeException_canonical h ..) (.next h)

theorem retire_canonical : CanonicalOut (retire s) := retireTo_canonical h ..

theorem privileged_canonical {run : Out} (hrun : CanonicalOut run) : CanonicalOut (privileged s run) :=
  .ite (raiseProgram_canonical h _) hrun

theorem withFp_canonical {run : Out} (hrun : CanonicalOut run) : CanonicalOut (withFp s run) :=
  .ite hrun (takeException_canonical h ..)

theorem withPaired_canonical {run : Out} (hrun : CanonicalOut run) : CanonicalOut (withPaired s run) :=
  .ite (withFp_canonical h hrun) (raiseProgram_canonical h _)

theorem withQuantized_canonical {run : Out} (hrun : CanonicalOut run) : CanonicalOut (withQuantized s run) :=
  .ite (withFp_canonical h hrun) (raiseProgram_canonical h _)

theorem wordAligned_canonical {i : Instr} {raField : Bool} {ea : Word} {run : Out} (hrun : CanonicalOut run) :
    CanonicalOut (s.wordAligned i raField ea run) := .ite hrun (raiseAlignment_canonical h ..)

theorem finishMove_canonical (rc : Bool) : CanonicalOut (s.finishMove rc) :=
  retire_canonical (by cases rc <;> exact h)

theorem finishFp_canonical (rc : Bool) : CanonicalOut (s.finishFp rc) :=
  .ite (raiseProgram_canonical (by cases rc <;> exact h) _) (finishMove_canonical h rc)

/-! ### Accesses to memory -/

/-- How an access that does not succeed ends. -/
theorem accessStop_canonical {o : Out}
    (ho : (∃ ea c, o = raiseDsi ea c s) ∨ o = absentAddress s ∨ ∃ r, o = .refused r) : CanonicalOut o := by
  rcases ho with ⟨ea, c, rfl⟩ | rfl | ⟨r, rfl⟩
  · exact raiseDsi_canonical h ..
  · exact machineCheck_canonical h _
  · exact .refused _

theorem dataMap_canonical (k : Access) (ea : Word) : CanonicalRes (s.dataMap k ea) := by
  rcases s.dataMap_cases k ea with ⟨m, e⟩ | ⟨c, e⟩ | e | ⟨r, e⟩ <;> rw [e]
  · exact h
  · exact raiseDsi_canonical h ..
  · exact machineCheck_canonical h _
  · exact CanonicalOut.refused _

theorem dataCheck_canonical (k : Access) (ea : Word) : CanonicalRes (s.dataCheck k ea) := by
  rcases s.dataCheck_cases k ea with ⟨m, e⟩ | ⟨c, e⟩ | e | ⟨r, e⟩ <;> rw [e]
  · exact h
  · exact raiseDsi_canonical h ..
  · exact machineCheck_canonical h _
  · exact CanonicalOut.refused _

theorem checkPart_canonical (k : Access) (ea : Word) (n : Nat) (al : Bool) : CanonicalRes (s.checkPart k ea n al) := by
  rcases s.checkPart_cases k ea n al with ⟨m, e⟩ | ⟨c, e⟩ | e | ⟨r, e⟩ <;> rw [e]
  · exact State.wf_touch h ..
  · exact raiseDsi_canonical h ..
  · exact machineCheck_canonical h _
  · exact CanonicalOut.refused _

theorem readParts_canonical (al : Bool) (ps : List (Word × Nat)) : CanonicalRes (s.readParts al ps) := by
  cases e : s.readParts al ps with
  | ok bs t => exact (State.readParts_ok e).2 h
  | stop o =>
    obtain ⟨u, -, hu, ho⟩ := State.readParts_stop e
    exact accessStop_canonical (hu h) ho

theorem memRead_canonical (ea : Word) (n : Nat) : CanonicalRes (s.memRead ea n) :=
  (readParts_canonical h ..).bind fun _ _ hu => hu

theorem memWrite_canonical (ea : Word) (n : Nat) (v : BitVec 64) : CanonicalRes (s.memWrite ea n v) := by
  cases e : s.memWrite ea n v with
  | ok a t => exact (State.memWrite_ok e).2 h
  | stop o =>
    obtain ⟨u, -, hu, ho⟩ := State.memWrite_stop e
    exact accessStop_canonical (hu h) ho

theorem loadPair_canonical (ea0 ea1 : Word) (n : Nat) (al : Bool) : CanonicalRes (s.loadPair ea0 ea1 n al) := by
  cases e : s.loadPair ea0 ea1 n al with
  | ok v t => exact (State.loadPair_ok e).2 h
  | stop o =>
    unfold State.loadPair at e
    rcases s.mapPair_cases .load ea0 ea1 n al with ⟨m, e'⟩ | ⟨a, c, e'⟩ | e' | ⟨r, e'⟩ <;> rw [e'] at e <;> cases e
    · exact raiseDsi_canonical h ..
    · exact machineCheck_canonical h _
    · exact CanonicalOut.refused _

theorem storePair_canonical (ea0 ea1 : Word) (n : Nat) (al : Bool) (v0 v1 : BitVec 64) :
    CanonicalRes (s.storePair ea0 ea1 n al v0 v1) := by
  cases e : s.storePair ea0 ea1 n al v0 v1 with
  | ok v t => exact (State.storePair_ok e).2 h
  | stop o => exact accessStop_canonical h (State.storePair_stop e)

/-! ### Integer instructions -/

theorem wf_logic (rA : Reg) (r : Word) (rc : Bool) : (s.logic rA r rc).mem.wf = true := by cases rc <;> exact h

theorem wf_arith (rD : Reg) (r : Word) (ov oe rc : Bool) : (s.arith rD r ov oe rc).mem.wf = true := by
  cases oe <;> cases rc <;> exact h

theorem wf_addedCarrying (rD : Reg) (a b : Word) (c oe rc : Bool) :
    (s.addedCarrying rD a b c oe rc).mem.wf = true :=
  wf_arith (s := s.setCa (carry32 a b c)) h ..

theorem wf_shiftedAlgebraic (rS rA : Reg) (n : Nat) (rc : Bool) : (s.shiftedAlgebraic rS rA n rc).mem.wf = true :=
  wf_logic (s := s.setCa (shiftRightAlgebraic (s.x rS) n).2) h ..

theorem branchIf_canonical (bo : BitVec 5) (bi : CrBit) (target : Word) (lk : Bool) :
    CanonicalOut (s.branchIf bo bi target lk) :=
  retireTo_canonical (s := { s with ctr := s.ctrAfter bo, lr := s.lrAfter lk }) h ..

/-! ### Loads and stores -/

theorem load_canonical (ea : Word) (n : Nat) (f : BitVec 64 → Word) (rD : Reg) : CanonicalOut (s.load ea n f rD) :=
  (memRead_canonical h ..).finish fun _ _ hu => retire_canonical hu

theorem loadUpdate_canonical (ea : Word) (n : Nat) (f : BitVec 64 → Word) (rD rA : Reg) :
    CanonicalOut (s.loadUpdate ea n f rD rA) :=
  (memRead_canonical h ..).finish fun _ _ hu => retire_canonical hu

theorem store_canonical (ea : Word) (n : Nat) (v : Word) : CanonicalOut (s.store ea n v) :=
  (memWrite_canonical h ..).finish fun _ _ hu => retire_canonical hu

theorem storeUpdate_canonical (ea : Word) (n : Nat) (v : Word) (rA : Reg) : CanonicalOut (s.storeUpdate ea n v rA) :=
  (memWrite_canonical h ..).finish fun _ _ hu => retire_canonical hu

theorem loadWords_canonical (n : Nat) (r : Reg) (ea : Word) :
    CanonicalRes (loadWords n r ea s) := by
  induction n generalizing r ea s with
  | zero => exact h
  | succ n ih => exact (memRead_canonical h ..).bind fun v u hu => ih (s := u.setX r (zeroExtended v)) hu ..

theorem storeWords_canonical (n : Nat) (r : Reg) (ea : Word) :
    CanonicalRes (storeWords n r ea s) := by
  induction n generalizing r ea s with
  | zero => exact h
  | succ n ih => exact (memWrite_canonical h ..).bind fun _ _ hu => ih hu ..

theorem readEach_canonical (n : Nat) (ea : Word) :
    CanonicalRes (readEach n ea s) := by
  induction n generalizing ea s with
  | zero => exact h
  | succ n ih => exact (memRead_canonical h ..).bind fun _ _ hu => (ih hu _).bind fun _ _ hu' => hu'

theorem writeEach_canonical (bs : List Byte) (ea : Word) :
    CanonicalRes (writeEach bs ea s) := by
  induction bs generalizing ea s with
  | nil => exact h
  | cons b bs ih => exact (memWrite_canonical h ..).bind fun _ _ hu => ih hu _

theorem loadString_canonical (count bytes : Nat) (r : Reg) (ea : Word) :
    CanonicalRes (loadString count bytes r ea s) := by
  induction count generalizing bytes r ea s with
  | zero => exact h
  | succ n ih => exact (readEach_canonical h ..).bind fun bs u hu => ih (s := u.setX r (packLeft bs)) hu ..

theorem execLswx_canonical (rD rA rB : Reg) : CanonicalOut (execLswx rD rA rB s) :=
  .ite (retire_canonical h)
    (.ite (.refused _) ((loadString_canonical h ..).finish fun _ _ hu => retire_canonical hu))

theorem execLwarx_canonical (rD rA rB : Reg) : CanonicalOut (execLwarx rD rA rB s) :=
  wordAligned_canonical h ((checkPart_canonical h ..).finish fun _ _ hu => .ite (.refused _) (retire_canonical hu))

theorem storeConditional_canonical (rS : Reg) (ea : Word) : CanonicalOut (s.storeConditional rS ea) :=
  (checkPart_canonical h ..).finish fun m u hu =>
    retire_canonical (s := (u.afterStore m (beBytes 4 ((s.x rS).setWidth 64))).afterConditional true)
      (State.wf_afterStore hu ..)

theorem execStwcx_canonical (rS rA rB : Reg) : CanonicalOut (execStwcx rS rA rB s) :=
  wordAligned_canonical h ((dataCheck_canonical h ..).finish fun _ u hu =>
    .ite (retire_canonical hu) (.ite (storeConditional_canonical hu ..)
      (.ite (storeConditional_canonical (s := u.drawn) hu ..) (retire_canonical hu))))

theorem externalControl_canonical (i : Instr) (k : Access) (ea : Word) : CanonicalOut (s.externalControl i k ea) :=
  .ite (raiseDsi_canonical h ..)
    (wordAligned_canonical h ((dataCheck_canonical h ..).finish fun _ _ _ => .refused _))

/-! ### Caches -/

/-- A cache instruction that goes on after translation with a change of the state that keeps the form. -/
theorem blockOp_canonical {k : Access} {ea : Word} {f : Mapped → State → State}
    (hf : ∀ m u, u.mem.wf = true → (f m u).mem.wf = true) :
    CanonicalOut ((s.dataMap k ea).finish fun m u => retire (f m u)) :=
  (dataMap_canonical h ..).finish fun m u hu => retire_canonical (hf m u hu)

theorem execDcbz_canonical (rA rB : Reg) : CanonicalOut (execDcbz rA rB s) := by
  refine .ite (raiseAlignment_canonical h ..) ((dataMap_canonical h ..).finish fun m u hu => ?_)
  refine .ite (raiseDsi_canonical hu ..) (.ite (.refused _) (.ite (.refused _) (retire_canonical ?_)))
  exact State.wf_storePhys (State.wf_touch hu ..) ..

/-! ### Floating point -/

/-- Arithmetic draws and writes FPSCR. -/
theorem wf_drawn_fpscr (n : Nat) (v : Word) : ({ s.drawnBy n with fpscr := v } : State).mem.wf = true := h

theorem wf_setF0 (fr : FReg) (v : Lane) : (s.setF0 fr v).mem.wf = true := h

theorem wf_setF1 (fr : FReg) (v : Lane) : (s.setF1 fr v).mem.wf = true := h

theorem wf_writeS (frD : FReg) (r : Lane) (draw : BitVec 64) : (s.writeS frD r draw).mem.wf = true := by
  unfold State.writeS
  split
  · exact wf_setF1 (wf_setF0 h frD r) ..
  · exact wf_setF0 h ..

theorem wf_writePair (frD : FReg) (r0 r1 : Lane) (open0 open1 : Bool) (draw0 draw1 : BitVec 64) :
    (s.writePair frD r0 r1 open0 open1 draw0 draw1).mem.wf = true :=
  wf_setF1 (wf_setF0 h frD _) ..

/-- The end of an instruction that writes a target where its outcome says so. -/
theorem finishFp_written_canonical {v : Word} {written : State} {c : Prop} [Decidable c] (rc : Bool)
    (hw : written.mem.wf = true) :
    CanonicalOut ((if c then written else { s.drawnBy 3 with fpscr := v }).finishFp rc) :=
  finishFp_canonical (wf_ite hw (wf_drawn_fpscr h 3 v)) rc

theorem arithD_canonical (frD : FReg) (rc : Bool) (o : FpOut) : CanonicalOut (s.arithD frD rc o) :=
  finishFp_written_canonical h rc (wf_setF0 (wf_drawn_fpscr h 3 _) ..)

theorem arithS_canonical (frD : FReg) (rc : Bool) (operands : List Lane) (o : FpOut) :
    CanonicalOut (s.arithS frD rc operands o) :=
  finishFp_written_canonical h rc (wf_writeS (wf_drawn_fpscr h 3 _) ..)

theorem execFres_canonical (frD frB : FReg) (rc : Bool) : CanonicalOut (execFres frD frB rc s) :=
  withFp_canonical h (finishFp_written_canonical h rc (wf_writeS (wf_drawn_fpscr h 3 _) ..))

theorem execFrsqrte_canonical (frD frB : FReg) (rc : Bool) : CanonicalOut (execFrsqrte frD frB rc s) :=
  withFp_canonical h (finishFp_written_canonical h rc (wf_setF0 (wf_drawn_fpscr h 3 _) ..))

theorem convert_canonical (frD frB : FReg) (rc : Bool) (rn : BitVec 2) : CanonicalOut (s.convert frD frB rc rn) :=
  finishFp_written_canonical h rc (wf_setF0 (wf_drawn_fpscr h 3 _) ..)

theorem wf_fpscr (v : Word) : ({ s with fpscr := v } : State).mem.wf = true := h

theorem wf_fpscr_setCrf (v : Word) (f : CrField) (c : BitVec 4) :
    (({ s with fpscr := v } : State).setCrf f c).mem.wf = true := h

theorem compareLanes_canonical (crfD : CrField) (a b : Lane) (raised : Word) :
    CanonicalOut (s.compareLanes crfD a b raised) :=
  finishFp_canonical (wf_fpscr_setCrf h ..) false

theorem arithPair_canonical (frD : FReg) (rc : Bool) (op0 op1 : LaneOp) (mainIs1 : Bool)
    (after : FpOut → Word → Bool → Word) : CanonicalOut (s.arithPair frD rc op0 op1 mainIs1 after) :=
  finishFp_written_canonical h rc (wf_writePair (wf_drawn_fpscr h 3 _) ..)

theorem movePair_canonical (frD : FReg) (rc : Bool) (r0 r1 : Lane) (from0 from1 : List Lane) :
    CanonicalOut (s.movePair frD rc r0 r1 from0 from1) :=
  withPaired_canonical h (finishMove_canonical (wf_writePair (s := s.drawnBy 2) h ..) rc)

/-! ### Floating-point and quantized loads and stores -/

theorem wf_setLoadedSingle (frD : FReg) (w : Word) : (s.setLoadedSingle frD w).mem.wf = true := wf_ite h h

theorem wf_afterImage (v : Lane) : (s.afterImage v).mem.wf = true := wf_ite (u := s.drawn) h h

theorem wf_updateIf (update : Bool) (rA : Reg) (ea : Word) : (s.updateIf update rA ea).mem.wf = true := wf_ite h h

theorem readDouble_canonical (ea : Word) : CanonicalRes (s.readDouble ea) := by
  unfold State.readDouble
  split
  · exact memRead_canonical h ..
  · exact (readParts_canonical h ..).bind fun _ _ hu => hu

theorem writeDouble_canonical (ea : Word) (v : Lane) : CanonicalRes (s.writeDouble ea v) := by
  unfold State.writeDouble
  split
  · exact memWrite_canonical h ..
  · exact storePair_canonical h ..

section
variable (i : Instr) (update : Bool) (fr : FReg) (rA : Reg) (ea : Word)

theorem loadFd_canonical : CanonicalOut (s.loadFd i update fr rA ea) :=
  withFp_canonical h (wordAligned_canonical h ((readDouble_canonical h _).finish fun v u hu =>
    retire_canonical (wf_updateIf (s := u.setF0 fr v) hu ..)))

theorem loadFs_canonical : CanonicalOut (s.loadFs i update fr rA ea) :=
  withFp_canonical h (wordAligned_canonical h ((memRead_canonical h ..).finish fun _ _ hu =>
    retire_canonical (wf_updateIf (wf_setLoadedSingle hu ..) ..)))

theorem storeFd_canonical : CanonicalOut (s.storeFd i update fr rA ea) :=
  withFp_canonical h (wordAligned_canonical h ((writeDouble_canonical h ..).finish fun _ _ hu =>
    retire_canonical (wf_updateIf hu ..)))

theorem storeFs_canonical : CanonicalOut (s.storeFs i update fr rA ea) :=
  withFp_canonical h (wordAligned_canonical h ((memWrite_canonical (wf_afterImage h _) ..).finish fun _ _ hu =>
    retire_canonical (wf_updateIf hu ..)))

end

theorem readQuantized_canonical (t : QuantType) (scale : BitVec 6) (single : Bool) (ea : Word) :
    CanonicalRes (s.readQuantized t scale single ea) := by
  unfold State.readQuantized
  split
  · exact (memRead_canonical h ..).bind fun _ _ hu => hu
  · exact (loadPair_canonical h ..).bind fun _ _ hu => hu

theorem writeQuantized_canonical (t : QuantType) (scale : BitVec 6) (single : Bool) (ea : Word) (v0 v1 : Lane) :
    CanonicalRes (s.writeQuantized t scale single ea v0 v1) := by
  unfold State.writeQuantized
  dsimp only
  split
  · exact memWrite_canonical (s := s.drawnBy 2) h ..
  · exact storePair_canonical (s := s.drawnBy 2) h ..

section
variable (update single : Bool) (i : BitVec 3) (fr : FReg) (rA : Reg) (ea : Word)

theorem loadQuantized_canonical : CanonicalOut (s.loadQuantized update single i fr rA ea) := by
  refine withQuantized_canonical h ?_
  split
  · exact .refused _
  · exact .ite (.refused _) ((readQuantized_canonical h ..).finish fun v u hu =>
      retire_canonical (wf_updateIf (s := (u.setF0 fr v.1).setF1 fr v.2) hu ..))

theorem storeQuantized_canonical : CanonicalOut (s.storeQuantized update single i fr rA ea) := by
  refine withQuantized_canonical h ?_
  split
  · exact .refused _
  · exact .ite (.refused _) ((writeQuantized_canonical h ..).finish fun _ _ hu => retire_canonical (wf_updateIf hu ..))

end

/-! ### Special-purpose registers, MSR and rfi -/

theorem writeSpr_canonical (r : Spr) (v : Word) : CanonicalRes (s.writeSpr r v) := by
  cases r with
  | pvr | ummcr0 | ummcr1 | upmc | usia | hid1 => exact raiseProgram_canonical h _
  | wpar | dmau | dmal => exact CanonicalOut.refused _
  | hid0 => exact (congrArg Memory.wf (s.writeHid0_mem v)).trans h
  | hid2 | mmcr0 | thrm =>
    simp only [State.writeSpr]
    split
    · exact CanonicalOut.refused _
    · exact h
  | xer | lr | ctr | dsisr | dar | dec | sdr1 | srr0 | srr1 | sprg | ear | tbl | tbu | ibatU | ibatL | dbatU | dbatL
  | gqr | mmcr1 | pmc | sia | iabr | hid4 | dabr | l2cr | ictc => exact h

theorem withSpr_canonical {n : BitVec 10} {run : Spr → Out} (hrun : ∀ r, CanonicalOut (run r)) :
    CanonicalOut (s.withSpr n run) := by
  unfold State.withSpr
  split
  · exact raiseProgram_canonical h _
  · split
    · exact hrun _
    · exact raiseProgram_canonical h _

theorem execMfspr_canonical (rD : Reg) (n : BitVec 10) : CanonicalOut (execMfspr rD n s) := by
  refine withSpr_canonical h fun r => ?_
  split
  · exact retire_canonical h
  · exact raiseProgram_canonical h _

theorem execMtmsr_canonical (rS : Reg) : CanonicalOut (execMtmsr rS s) :=
  privileged_canonical h (.ite (.refused _)
    (.ite (takeException_canonical (s := { s.superseding .msr with msr := _ }) h ..)
      (.ite (takeException_canonical (s := { s.superseding .msr with msr := _ }) h ..) (.next h))))

theorem execRfi_canonical : CanonicalOut (execRfi s) :=
  privileged_canonical h (.ite (.refused _) (.ite (raiseProgram_canonical (s := s.returned) h _) (.next h)))

/-! ### Every instruction -/

/-- Whatever instruction runs, memory stays canonical. -/
theorem exec_canonical (i : Instr) : CanonicalOut (exec i s) := by
  cases i with
  | add | subf | neg | mulhw | mulhwu | mullw => exact retire_canonical (wf_arith h ..)
  | addc | adde | addic | addic_rc | addme | addze | subfc | subfe | subfic | subfme | subfze =>
    exact retire_canonical (wf_addedCarrying h ..)
  | divw | divwu =>
    exact .ite (retire_canonical (wf_arith (s := s.drawn) h ..)) (retire_canonical (wf_arith h ..))
  | and | andc | andi_rc | andis_rc | or | orc | ori | oris | xor | xori | xoris | nand | nor | eqv | slw | srw | rlwimi
  | rlwinm | rlwnm | extsb | extsh | cntlzw => exact retire_canonical (wf_logic h ..)
  | sraw | srawi => exact retire_canonical (wf_shiftedAlgebraic h ..)
  | addi | addis | mulli | cmp | cmpi | cmpl | cmpli | crand | crandc | creqv | crnand | crnor | cror | crorc | crxor
  | mcrf | mtcrf | mfcr | dcbt | dcbtst | isync | eieio => exact retire_canonical h
  | sync => exact retire_canonical (State.wf_synced h)
  | mcrxr => exact retire_canonical (wf_ite (s := s.drawn) (u := s) h h)
  | b _ _ lk => exact retireTo_canonical (s := { s with lr := s.lrAfter lk }) h ..
  | bcctr _ _ lk => exact retireTo_canonical (s := { s with lr := s.lrAfter lk }) h ..
  | bc | bclr => exact branchIf_canonical h ..
  | lbz | lbzx | lhz | lhzx | lha | lhax | lhbrx | lwz | lwzx | lwbrx => exact load_canonical h ..
  | lbzu | lbzux | lhzu | lhzux | lhau | lhaux | lwzu | lwzux => exact loadUpdate_canonical h ..
  | stb | stbx | sth | sthx | sthbrx | stw | stwx | stwbrx => exact store_canonical h ..
  | stbu | stbux | sthu | sthux | stwu | stwux => exact storeUpdate_canonical h ..
  | lmw =>
    exact wordAligned_canonical h ((loadWords_canonical h ..).finish fun _ _ hu => retire_canonical hu)
  | stmw =>
    exact wordAligned_canonical h ((storeWords_canonical h ..).finish fun _ _ hu => retire_canonical hu)
  | lswi => exact (loadString_canonical h ..).finish fun _ _ hu => retire_canonical hu
  | lswx => exact execLswx_canonical h ..
  | stswi | stswx => exact (writeEach_canonical h ..).finish fun _ _ hu => retire_canonical hu
  | lwarx => exact execLwarx_canonical h ..
  | stwcx_rc => exact execStwcx_canonical h ..
  | eciwx | ecowx => exact externalControl_canonical h ..
  | dcbf | dcbst | icbi => exact blockOp_canonical h fun _ _ hu => hu
  | dcbi => exact privileged_canonical h (blockOp_canonical h fun _ _ hu => State.wf_discarded hu _)
  | dcbz => exact execDcbz_canonical h ..
  | dcbz_l => exact .ite (raiseProgram_canonical h _) (.refused _)
  | fadd | fsub | fmul | fdiv | fmadd | fmsub | fnmadd | fnmsub => exact withFp_canonical h (arithD_canonical h ..)
  | fadds | fsubs | fmuls | fdivs | fmadds | fmsubs | fnmadds | fnmsubs | frsp =>
    exact withFp_canonical h (arithS_canonical h ..)
  | fsqrt => exact .ite (raiseProgram_canonical h _) (withFp_canonical h (arithD_canonical h ..))
  | fsqrts => exact .ite (raiseProgram_canonical h _) (withFp_canonical h (arithS_canonical h ..))
  | fres => exact execFres_canonical h ..
  | frsqrte => exact execFrsqrte_canonical h ..
  | fctiw | fctiwz => exact withFp_canonical h (convert_canonical h ..)
  | fcmpo | fcmpu => exact withFp_canonical h (compareLanes_canonical h ..)
  | fabs | fnabs | fneg | fmr | fsel => exact withFp_canonical h (finishMove_canonical (s := s.setF0 ..) h _)
  | mffs => exact withFp_canonical h (finishMove_canonical (s := s.drawn.setF0 ..) h _)
  | lfd | lfdu | lfdx | lfdux => exact loadFd_canonical h ..
  | lfs | lfsu | lfsx | lfsux => exact loadFs_canonical h ..
  | stfd | stfdu | stfdx | stfdux => exact storeFd_canonical h ..
  | stfs | stfsu | stfsx | stfsux => exact storeFs_canonical h ..
  | stfiwx =>
    exact withFp_canonical h
      (wordAligned_canonical h ((memWrite_canonical h ..).finish fun _ _ hu => retire_canonical hu))
  | mtspr => exact withSpr_canonical h fun r => (writeSpr_canonical h ..).finish fun _ _ hu => retire_canonical hu
  | mfspr => exact execMfspr_canonical h ..
  | mftb =>
    exact .ite (retire_canonical h)
      (.ite (retire_canonical h) (.ite (raiseProgram_canonical h _) (raiseProgram_canonical h _)))
  | mtmsr => exact execMtmsr_canonical h _
  | mcrfs => exact withFp_canonical h (retire_canonical h)
  | mtfsb0 | mtfsf | mtfsfi => exact withFp_canonical h (finishFp_canonical (wf_fpscr h _) _)
  | mtfsb1 =>
    exact withFp_canonical h (.ite (.refused _) (finishFp_canonical (wf_fpscr h _) _))
  | tlbia => exact .ite (raiseProgram_canonical h _) (privileged_canonical h (retire_canonical h))
  | tlbie | tlbsync | mtsr | mfsr | mtsrin | mfsrin | mfmsr => exact privileged_canonical h (retire_canonical h)
  | sc => exact takeException_canonical h ..
  | rfi => exact execRfi_canonical h
  | tw | twi => exact .ite (raiseProgram_canonical h _) (retire_canonical h)
  | psq_l | psq_lu | psq_lx | psq_lux => exact loadQuantized_canonical h ..
  | psq_st | psq_stu | psq_stx | psq_stux => exact storeQuantized_canonical h ..
  | ps_add | ps_sub | ps_mul | ps_div | ps_madd | ps_madds0 | ps_madds1 | ps_msub | ps_nmadd | ps_nmsub | ps_muls0
  | ps_muls1 | ps_sum0 | ps_sum1 | ps_res | ps_rsqrte => exact withPaired_canonical h (arithPair_canonical h ..)
  | ps_abs | ps_neg | ps_nabs | ps_mr | ps_sel | ps_merge00 | ps_merge01 | ps_merge10 | ps_merge11 =>
    exact movePair_canonical h ..
  | ps_cmpu0 | ps_cmpo0 => exact withPaired_canonical h (compareLanes_canonical (s := s.drawnBy 2) h ..)
  | ps_cmpu1 | ps_cmpo1 => exact withPaired_canonical h (compareLanes_canonical h ..)

/-! ### Every step -/

theorem execWord_canonical (w : Word) : CanonicalOut (execWord w s) := by
  unfold execWord
  split
  · exact raiseProgram_canonical h _
  · exact .refused _
  · exact .refused _
  · exact .ite (.refused _) (exec_canonical h _)

theorem fetchPhys_canonical (pa : Word) : CanonicalRes (s.fetchPhys pa) := by
  unfold State.fetchPhys
  dsimp only
  split <;> exact h

/-- A fetch may set the page's reference bit, which keeps the form (R118). -/
theorem fetch_canonical : CanonicalRes s.fetch := by
  unfold State.fetch
  split
  · split
    · exact machineCheck_canonical h _
    · split
      · exact CanonicalOut.refused _
      · exact fetchPhys_canonical (State.wf_touch h ..) _
  · exact takeException_canonical h ..
  · exact takeException_canonical h ..
  · exact takeException_canonical h ..
  · exact machineCheck_canonical h _
  · exact CanonicalOut.refused _

theorem instruction_canonical : CanonicalOut s.instruction :=
  .ite (takeException_canonical h ..) ((fetch_canonical h).finish fun _ _ hu => execWord_canonical hu _)

theorem interrupt_canonical {o : Out} (ho : s.interrupt = some o) : CanonicalOut o := by
  unfold State.interrupt at ho
  dsimp only at ho
  split at ho
  · cases ho; exact machineCheck_canonical (by exact h) _
  split at ho
  · cases ho; exact takeException_canonical (by exact h) ..
  split at ho
  · cases ho; exact takeException_canonical (by exact h) ..
  split at ho
  · cases ho; exact takeException_canonical (by exact h) ..
  · cases ho

theorem boundary_canonical : CanonicalOut s.boundary := by
  refine .ite (.refused _) (.ite (.refused _) ?_)
  split
  · exact interrupt_canonical h ‹_›
  · exact .ite (.next h) (instruction_canonical h)

/-- A hard reset keeps memory but for words that the data cache loses (R776, R850). -/
theorem step_canonical : CanonicalOut (step s) := by
  refine .ite (.next (State.wf_discarded h _)) (.ite ⟨fun t ht => by cases ht⟩ ?_)
  have hb := boundary_canonical h
  cases e : s.boundary with
  | next u => exact .next (hb.next_wf u e)
  | fault f => exact ⟨fun t ht => by cases ht⟩
  | refused r => exact .refused _

end

end Sys2Proof.Machine

namespace Sys2Proof.Storage

open Sys2Proof.Machine

/-- Settles O56: every operation of a step that writes memory writes bytes below 2^32. -/
theorem memoryStaysCanonical : Obligations.MemoryStaysCanonical := fun _ t h hstep =>
  (step_canonical h).next_wf t hstep

end Sys2Proof.Storage
end

section
/-! PROOFS. The family 20_memory.md: exception entry, the system call and the return, which are context
synchronizing. -/

namespace Sys2Proof.Machine

/-! ### Context synchronization (R135) -/

/-- Where the sequence of R140 is not complete with the given ICE, it is not settled; with ICE = 0 no `sync`
followed. -/
theorem FetchStage.of_not_complete {ice : Bool} {g : FetchStage} (h : g.complete ice = false) :
    g ≠ .settled ∧ (ice = false → g = .written ∨ g = .stored) := by
  cases g <;> simp_all [FetchStage.complete]

/-- A state with the late writes and the stale words of a context synchronization of `s`. -/
theorem ContextSynced.of_resynced {s t : State} (hlate : t.late = s.resynced.late)
    (hstale : t.stale = s.resynced.stale) : ContextSynced s t := by
  refine ⟨fun e => hlate ▸ State.mem_resynced_late, fun e he => ?_⟩
  obtain ⟨o, ho, hcomplete, rfl⟩ := State.mem_resynced_stale (hstale ▸ he)
  obtain ⟨hsettled, hearly⟩ := FetchStage.of_not_complete hcomplete
  exact ⟨o, ho, by split <;> rfl, by split <;> rfl, hsettled, hearly⟩

/-- Exception entry leaves every field but these. -/
theorem State.entered_frame (s : State) (e : Exception) (ra info : Word) :
    s.entered e ra info = { s with
      srr0 := (s.entered e ra info).srr0
      srr1 := (s.entered e ra info).srr1
      msr := (s.entered e ra info).msr
      pc := (s.entered e ra info).pc
      stale := (s.entered e ra info).stale
      late := (s.entered e ra info).late } := rfl

theorem keptOnEntry_eq (e : Exception) :
    keptOnEntry e = if e = .machineCheck then 0x00010040 else 0x00011040 := by cases e <;> rfl

/-! ### The return from an exception (R795) -/

/-- The bits that `rfi` takes from SRR1. -/
theorem State.returned_msr_getLsbD (s : State) {i : Nat} (h16 : i ≠ 16) :
    s.returned.msr.getLsbD i = (s.srr1.getLsbD i && (0x0000FF77 : Word).getLsbD i) := by
  have hile : (0x00010000 : Word).getLsbD i = false := by
    rw [show (0x00010000 : Word) = BitVec.twoPow 32 16 by decide, BitVec.getLsbD_twoPow]
    simp [Ne.symm h16]
  rw [State.returned_msr, State.msrAfterRfi, BitVec.getLsbD_or, BitVec.getLsbD_and, BitVec.getLsbD_and, hile,
    Bool.and_false, Bool.false_or]
  rfl

/-- In supervisor mode `rfi` is refused, trapped at its target, or done. -/
theorem exec_rfi_supervisor {s : State} (hpr : s.msrPr = false) :
    exec .rfi s =
      if s.srr1.getLsbD 0 then .refused .littleEndian
      else if fexOf s.fpscr && (s.srr1.getLsbD 11 || s.srr1.getLsbD 8) then raiseProgram .fpEnabled s.returned
      else .next s.returned := by
  have h0 : s.returned.msrLe = s.srr1.getLsbD 0 := (s.returned_msr_getLsbD (by decide)).trans (Bool.and_true _)
  have hfe : s.returned.msrFe = (s.srr1.getLsbD 11 || s.srr1.getLsbD 8) :=
    congrArg₂ (· || ·) ((s.returned_msr_getLsbD (by decide)).trans (Bool.and_true _))
      ((s.returned_msr_getLsbD (by decide)).trans (Bool.and_true _))
  rw [exec_rfi, execRfi, privileged, hpr, h0, hfe]
  rfl

/-- Right after an entry the processor is in supervisor mode, whatever MSR was (R775). -/
theorem State.entered_msrPr (s : State) (e : Exception) (ra info : Word) : (s.entered e ra info).msrPr = false := by
  have hacts : (s.entered e ra info).acting false .msr = (s.entered e ra info).msr :=
    ({ s with msr := s.msr &&& keptOnEntry e } : State).resynced_acting false (r := .msr) (by decide)
  rw [State.msrPr, State.userFor, hacts, State.entered_msr, BitVec.getLsbD_and]
  cases e <;> exact Bool.and_false _

/-- An aligned address has no low bits to lose. -/
theorem wordTarget_of_aligned {w : Word} (h : w.toNat % 4 = 0) : wordTarget w = w := by
  have hlow : w &&& 3 = 0 := (aligned_iff w).2 h
  calc wordTarget w = (w &&& 0xFFFFFFFC) ||| (w &&& 3) := by rw [hlow]; exact BitVec.or_zero.symm
    _ = w &&& (0xFFFFFFFC ||| 3) := BitVec.and_or_distrib_left.symm
    _ = w := BitVec.and_allOnes

/-- A legal MSR has no bit outside its mask, so masks that agree within it give the same (R50). -/
theorem State.msr_and_of_legal {s : State} (h : s.msrLegal) {m m' : Word} (hm : 0x0004FF76 &&& m = 0x0004FF76 &&& m') :
    s.msr &&& m = s.msr &&& m' := by
  have hself : s.msr &&& 0x0004FF76 = s.msr := by
    refine BitVec.eq_of_getLsbD_eq fun i hi => ?_
    have hout := (and_eq_zero_iff_getLsbD _ _).1 h i hi
    rw [BitVec.getLsbD_not] at hout
    rw [BitVec.getLsbD_and]
    cases hb : (0x0004FF76 : Word).getLsbD i with
    | true => exact Bool.and_true _
    | false => rw [hout (by rw [hb, decide_eq_true hi]; rfl)]; rfl
  rw [← hself, BitVec.and_assoc, BitVec.and_assoc, hm]

end Sys2Proof.Machine

namespace Sys2Proof.Storage

open Sys2Proof.Machine

/-- Settles O5: entry is `State.entered`, field by field. -/
theorem exceptionEntry : Obligations.ExceptionEntry := by
  refine fun e ra info s => ⟨fun hile => ?_, fun hile => if_pos hile, by decide⟩
  refine ⟨s.entered e ra info, takeException_of_ile hile, rfl, rfl, ?_, rfl, .of_resynced rfl rfl, s.entered_frame ..⟩
  exact congrArg (s.msr &&& ·) (keptOnEntry_eq e)

/-- Settles O6: `sc` enters with the next address. -/
theorem systemCall : Obligations.SystemCall := by
  intro s hile
  refine ⟨s.entered .systemCall (s.pc + 4) 0, takeException_of_ile hile, rfl, BitVec.or_zero, rfl, ?_,
    .of_resynced rfl rfl, s.entered_frame ..⟩
  change vectorAddress s.msrIp .systemCall = _
  cases s.msrIp <;> rfl

/-- Settles O7: the three ways `rfi` ends, and what it makes of the state that `sc` left. -/
theorem returnFromInterrupt : Obligations.ReturnFromInterrupt := by
  refine ⟨fun s hpr h0 hfex => ?returns, fun s hpr h0 => ?littleEndian, fun s hpr hile h0 hfex hfe => ?enabled,
    fun s hpc hlegal hfex => ?undoes⟩
  case returns =>
    refine ⟨s.returned, ?_, .of_resynced rfl rfl, rfl⟩
    have hfe : (fexOf s.fpscr && (s.srr1.getLsbD 11 || s.srr1.getLsbD 8)) = false := by
      cases hx : fexOf s.fpscr with
      | false => rfl
      | true => obtain ⟨h11, h8⟩ := hfex hx; rw [h11, h8]; rfl
    rw [exec_rfi_supervisor hpr, h0, hfe]
    rfl
  case littleEndian => rw [exec_rfi_supervisor hpr, h0]; rfl
  case enabled =>
    have hfe : (s.srr1.getLsbD 11 || s.srr1.getLsbD 8) = true := Bool.or_eq_true_iff.2 hfe
    have hile' : s.returned.msrIle = false := by
      rw [State.msrIle, State.returned_msr, State.msrAfterRfi, BitVec.getLsbD_or, BitVec.getLsbD_and,
        BitVec.getLsbD_and, show s.msr.getLsbD 16 = false from hile]
      exact Bool.and_false _
    refine ⟨s.returned.entered .program s.returned.pc ProgramKind.fpEnabled.info, ?_, ?_, ?_, ?_⟩
    · rw [exec_rfi_supervisor hpr, h0, hfex, hfe]
      exact raiseProgram_of_ile hile' _
    · exact (BitVec.and_assoc ..).trans (congrArg (s.srr0 &&& ·) (BitVec.and_self ..))
    · change (s.msrAfterRfi &&& 0x87C0FFFF) ||| 0x00100000 = _
      rw [State.msrAfterRfi, BitVec.and_or_distrib_right, BitVec.and_assoc, BitVec.and_assoc,
        show (0x00010000 &&& 0x87C0FFFF : Word) = 0 by decide,
        show (rfiMask &&& 0x87C0FFFF : Word) = 0x0000FF77 by decide]
      simp
    · exact congrArg (vectorAddress · .program) ((s.returned_msr_getLsbD (by decide)).trans (Bool.and_true _))
  case undoes =>
    have hile : s.msrIle = false := (and_eq_zero_iff_getLsbD _ _).1 hlegal 16 (by decide) (by decide)
    have hle : s.msr.getLsbD 0 = false := (and_eq_zero_iff_getLsbD _ _).1 hlegal 0 (by decide) (by decide)
    set t := s.entered .systemCall (s.pc + 4) 0 with ht
    have hsrr1 : t.srr1 = s.msr &&& 0x87C0FFFF := BitVec.or_zero
    have hbit : ∀ i, (0x87C0FFFF : Word).getLsbD i = true → t.srr1.getLsbD i = s.msr.getLsbD i := fun i hi => by
      rw [hsrr1, BitVec.getLsbD_and, hi, Bool.and_true]
    have hfe : (fexOf t.fpscr && (t.srr1.getLsbD 11 || t.srr1.getLsbD 8)) = false := by
      rw [hbit 11 (by decide), hbit 8 (by decide), State.entered_fpscr]
      cases hx : fexOf s.fpscr with
      | false => rfl
      | true => exact hfex hx
    refine ⟨t, t.returned, takeException_of_ile hile, ?_, ?_, ?_, rfl⟩
    · rw [exec_rfi_supervisor (s.entered_msrPr ..), hbit 0 (by decide), hle, hfe]
      rfl
    · have hnext := wordTarget_of_aligned (next_aligned ((pcAligned_iff s).1 hpc))
      exact (congrArg wordTarget hnext).trans hnext
    · change (s.msr &&& 0x00011040 &&& 0x00010000) ||| (t.srr1 &&& 0x0000FF77) = _
      rw [hsrr1, BitVec.and_assoc, BitVec.and_assoc, ← BitVec.and_or_distrib_left]
      exact State.msr_and_of_legal hlegal (by decide)

end Sys2Proof.Storage
end

section
/-! PROOFS. The family 20_memory.md: the alignment exception (R105, R780). -/

namespace Sys2Proof.Machine

/-- DSISR after an alignment exception describes the instruction word by its form (R780). -/
theorem alignmentDsisr_describes (w : Word) (raField : Bool) (draw : BitVec 64) :
    describes (alignmentDsisr w raField draw) w (opcd w == 31) := by
  refine ⟨?_, ?_, ?_⟩
  · refine BitVec.eq_of_getLsbD_eq fun i hi => ?_
    simp only [alignmentDsisr, BitVec.getLsbD_extractLsb', BitVec.getLsbD_append]
    grind
  · refine BitVec.eq_of_getLsbD_eq fun i hi => ?_
    simp only [alignmentDsisr, BitVec.getLsbD_extractLsb', BitVec.getLsbD_append]
    grind
  · refine BitVec.eq_of_getLsbD_eq fun i hi => ?_
    simp only [alignmentDsisr, beq_iff_eq]
    split <;> simp only [BitVec.getLsbD_extractLsb', BitVec.getLsbD_append] <;> grind

/-- For the update forms and `lmw` it names rA. -/
theorem alignmentDsisr_raField (w : Word) (draw : BitVec 64) :
    (alignmentDsisr w true draw).extractLsb' 0 5 = w.extractLsb' 16 5 := by
  refine BitVec.eq_of_getLsbD_eq fun i hi => ?_
  simp only [alignmentDsisr, BitVec.getLsbD_extractLsb', BitVec.getLsbD_append]
  grind

section
variable {s : State} {i : Instr} {xForm : Bool} {op : Nat} {ea : Word} (raField : Bool) (hile : s.msrIle = false)
  (hop : opcd (encode i) = op) (hform : (op == 31) = xForm)
include hile hop hform

/-- Raising the alignment exception leaves what R780 says. -/
theorem raiseAlignment_raised :
    ∃ t, raiseAlignment i raField ea s = .next t ∧ AlignmentRaised s t i xForm raField ea := by
  subst hop hform
  have hdescribes := alignmentDsisr_describes (encode i) raField s.free
  cases raField with
  | false => exact ⟨_, takeException_of_ile hile, _, 1, hdescribes, nofun, rfl⟩
  | true =>
    exact ⟨_, takeException_of_ile hile, _, 0, hdescribes, fun _ => ⟨alignmentDsisr_raField .., rfl⟩, rfl⟩

/-- An access that must be word-aligned and is not. -/
theorem wordAligned_raised {run : Out} (hea : ea.toNat % 4 ≠ 0) :
    ∃ t, s.wordAligned i raField ea run = .next t ∧ AlignmentRaised s t i xForm raField ea := by
  rw [State.wordAligned, if_neg (by simpa [alignedTo] using hea)]
  exact raiseAlignment_raised raField hile hop hform

/-- A floating-point access: MSR[FP] is looked at first. -/
theorem withFp_wordAligned_raised {run : Out} (hfp : s.msrFp = true) (hea : ea.toNat % 4 ≠ 0) :
    ∃ t, withFp s (s.wordAligned i raField ea run) = .next t ∧ AlignmentRaised s t i xForm raField ea := by
  rw [withFp_of_on hfp]
  exact wordAligned_raised raField hile hop hform hea

end

end Sys2Proof.Machine

namespace Sys2Proof.Storage

open Sys2Proof.Machine Sys2Proof.Laws

/-- Settles O15: each instruction tests its address before anything else, the floating-point ones after MSR[FP]. -/
theorem alignmentException : Obligations.AlignmentException := by
  intro s r rA rB d hile base eaD eaX upD upX
  simp only [List.forall_mem_cons, List.not_mem_nil, false_implies, implies_true, and_true]
  refine ⟨fun hea => ?multiple, fun hea => ?reservation, fun hdce => ?dcbz, fun hfp hea => ?floatD,
    fun hfp hea => ?floatX, fun hfp hea => ?floatDu, fun hfp hea => ?floatXu⟩
  case multiple =>
    refine ⟨?_, ?_⟩
    · rw [beq_self_eq_true]
      exact wordAligned_raised true hile (PrimaryOpcode.lmw ..) rfl hea
    · exact wordAligned_raised false hile (PrimaryOpcode.stmw ..) rfl hea
  case reservation =>
    exact ⟨wordAligned_raised false hile (PrimaryOpcode.lwarx ..) rfl hea,
      wordAligned_raised false hile (PrimaryOpcode.stwcx_rc ..) rfl hea⟩
  case dcbz =>
    rw [exec_dcbz, execDcbz, hdce]
    exact raiseAlignment_raised false hile (PrimaryOpcode.dcbz ..) rfl
  case floatD =>
    exact ⟨withFp_wordAligned_raised false hile (PrimaryOpcode.lfs ..) rfl hfp hea,
      withFp_wordAligned_raised false hile (PrimaryOpcode.lfd ..) rfl hfp hea,
      withFp_wordAligned_raised false hile (PrimaryOpcode.stfs ..) rfl hfp hea,
      withFp_wordAligned_raised false hile (PrimaryOpcode.stfd ..) rfl hfp hea⟩
  case floatX =>
    exact ⟨withFp_wordAligned_raised false hile (PrimaryOpcode.lfsx ..) rfl hfp hea,
      withFp_wordAligned_raised false hile (PrimaryOpcode.lfdx ..) rfl hfp hea,
      withFp_wordAligned_raised false hile (PrimaryOpcode.stfsx ..) rfl hfp hea,
      withFp_wordAligned_raised false hile (PrimaryOpcode.stfdx ..) rfl hfp hea,
      withFp_wordAligned_raised false hile (PrimaryOpcode.stfiwx ..) rfl hfp hea⟩
  case floatDu =>
    exact ⟨withFp_wordAligned_raised true hile (PrimaryOpcode.lfsu ..) rfl hfp hea,
      withFp_wordAligned_raised true hile (PrimaryOpcode.lfdu ..) rfl hfp hea,
      withFp_wordAligned_raised true hile (PrimaryOpcode.stfsu ..) rfl hfp hea,
      withFp_wordAligned_raised true hile (PrimaryOpcode.stfdu ..) rfl hfp hea⟩
  case floatXu =>
    exact ⟨withFp_wordAligned_raised true hile (PrimaryOpcode.lfsux ..) rfl hfp hea,
      withFp_wordAligned_raised true hile (PrimaryOpcode.lfdux ..) rfl hfp hea,
      withFp_wordAligned_raised true hile (PrimaryOpcode.stfsux ..) rfl hfp hea,
      withFp_wordAligned_raised true hile (PrimaryOpcode.stfdux ..) rfl hfp hea⟩

end Sys2Proof.Storage
end

section
/-! PROOFS. The family 20_memory.md: the integer loads and stores (R350 to R382). -/

namespace Sys2Proof.Machine

/-! ### Loaded values -/

theorem beValue_one (b0 : Byte) : beValue [b0] = b0.setWidth 64 := by simp [beValue]

theorem beValue_two (b0 b1 : Byte) : beValue [b0, b1] = (b0 ++ b1).setWidth 64 := by
  refine BitVec.eq_of_getLsbD_eq fun i hi => ?_
  simp only [beValue, List.foldl, BitVec.getLsbD_setWidth, BitVec.getLsbD_or, BitVec.getLsbD_shiftLeft,
    BitVec.getLsbD_append]
  grind

section
variable (s : State) (ea : Word)

theorem zeroExtended_readBytes_one : zeroExtended (beValue (s.mem.readBytes ea 1)) = 0#24 ++ s.byte ea 0 := by
  rw [show s.mem.readBytes ea 1 = [s.byte ea 0] from rfl, beValue_one, zeroExtended,
    BitVec.setWidth_setWidth_of_le _ (by decide), BitVec.setWidth_eq_append (by decide)]
  rfl

theorem beValue_readBytes_two : beValue (s.mem.readBytes ea 2) = (s.byte ea 0 ++ s.byte ea 1).setWidth 64 :=
  beValue_two ..

theorem zeroExtended_readBytes_two :
    zeroExtended (beValue (s.mem.readBytes ea 2)) = 0#16 ++ s.byte ea 0 ++ s.byte ea 1 := by
  rw [beValue_readBytes_two]
  refine BitVec.eq_of_getLsbD_eq fun i hi => ?_
  simp only [zeroExtended, BitVec.getLsbD_setWidth, BitVec.getLsbD_append]
  grind

theorem algebraicHalf_readBytes_two :
    algebraicHalf (beValue (s.mem.readBytes ea 2)) = (s.byte ea 0 ++ s.byte ea 1).signExtend 32 := by
  rw [beValue_readBytes_two, algebraicHalf, BitVec.setWidth_setWidth_of_le _ (by decide), BitVec.setWidth_eq]

theorem reversedHalf_readBytes_two :
    reversedHalf (beValue (s.mem.readBytes ea 2)) = 0#16 ++ s.byte ea 1 ++ s.byte ea 0 := by
  rw [beValue_readBytes_two]
  refine BitVec.eq_of_getLsbD_eq fun i hi => ?_
  simp only [reversedHalf, BitVec.getLsbD_setWidth, BitVec.getLsbD_append, BitVec.getLsbD_extractLsb']
  grind

theorem zeroExtended_readBytes_four : zeroExtended (beValue (s.mem.readBytes ea 4)) = s.wordAt ea :=
  beValue_readBytes_four s ea

theorem reversedWord_readBytes_four : reversedWord (zeroExtended (beValue (s.mem.readBytes ea 4))) =
    s.byte ea 3 ++ s.byte ea 2 ++ s.byte ea 1 ++ s.byte ea 0 := by
  rw [zeroExtended_readBytes_four]
  refine BitVec.eq_of_getLsbD_eq fun i hi => ?_
  simp only [reversedWord, State.wordAt, BitVec.getLsbD_append, BitVec.getLsbD_extractLsb']
  grind

end

/-! ### Stored bytes -/

theorem beBytes_one (v : Word) : beBytes 1 (v.setWidth 64) = [v.extractLsb' 0 8] :=
  congrArg (fun b => [b]) (BitVec.extractLsb'_setWidth_of_le (by decide))

theorem beBytes_two (v : Word) : beBytes 2 (v.setWidth 64) = halfBytes v :=
  congrArg₂ (fun b c => [b, c]) (BitVec.extractLsb'_setWidth_of_le (by decide))
    (BitVec.extractLsb'_setWidth_of_le (by decide))

theorem halfBytes_reversedHalf (v : Word) :
    halfBytes (reversedHalf (v.setWidth 64)) = (halfBytes v).reverse := by
  have hlow : (reversedHalf (v.setWidth 64)).extractLsb' 0 8 = v.extractLsb' 8 8 := by
    refine BitVec.eq_of_getLsbD_eq fun i hi => ?_
    simp only [reversedHalf, BitVec.getLsbD_append, BitVec.getLsbD_extractLsb', BitVec.getLsbD_setWidth]
    grind
  have hhigh : (reversedHalf (v.setWidth 64)).extractLsb' 8 8 = v.extractLsb' 0 8 := by
    refine BitVec.eq_of_getLsbD_eq fun i hi => ?_
    simp only [reversedHalf, BitVec.getLsbD_append, BitVec.getLsbD_extractLsb', BitVec.getLsbD_setWidth]
    grind
  rw [halfBytes, hlow, hhigh]
  rfl

theorem wordBytes_reversedWord (v : Word) : wordBytes (reversedWord v) = (wordBytes v).reverse := by
  have hbyte : ∀ k < 4, (reversedWord v).extractLsb' (8 * k) 8 = v.extractLsb' (24 - 8 * k) 8 := by
    intro k hk
    refine BitVec.eq_of_getLsbD_eq fun i hi => ?_
    simp only [reversedWord, BitVec.getLsbD_append, BitVec.getLsbD_extractLsb']
    grind
  rw [wordBytes, hbyte 0 (by decide), hbyte 1 (by decide), hbyte 2 (by decide), hbyte 3 (by decide)]
  rfl

section
variable {s : State} (hse : s.msrSe = false) {ea : Word} {n : Nat} (r rA : Reg)
include hse

theorem State.load_plain (h : s.plainLoad ea n) {convert : BitVec 64 → Word} {w : Word}
    (hw : convert (beValue (s.mem.readBytes ea n)) = w) : s.load ea n convert r = .next (s.setX r w).ended := by
  rw [State.load, State.memRead_plainLoad h, Res.finish_ok, hw]
  exact retire_untraced hse

theorem State.loadUpdate_plain (h : s.plainLoad ea n) {convert : BitVec 64 → Word} {w : Word}
    (hw : convert (beValue (s.mem.readBytes ea n)) = w) :
    s.loadUpdate ea n convert r rA = .next ((s.setX r w).setX rA ea).ended := by
  rw [State.loadUpdate, State.memRead_plainLoad h, Res.finish_ok, hw]
  exact retire_untraced hse

theorem State.store_plain (h : s.plainData ea n) {v : Word} {bs : List Byte} (hbs : beBytes n (v.setWidth 64) = bs)
    (hn : n ≤ 2 ^ 32) : ∃ t, s.store ea n v = .next t ∧ StoreEnds s t ea bs := by
  obtain ⟨hdr, hdabr, hram⟩ := h
  obtain ⟨t, ht, hmem, hframe⟩ := State.memWrite_plain (v.setWidth 64) hdr hdabr hram
  subst hbs
  have htse : t.msrSe = false := by
    rw [hframe]
    exact hse
  refine ⟨t.ended, ?_, storeEnds_of_writeBytes (by simpa using hn) hmem hframe⟩
  rw [State.store, ht, Res.finish_ok]
  exact retire_untraced htse

theorem State.storeUpdate_plain (h : s.plainData ea n) {v : Word} {bs : List Byte}
    (hbs : beBytes n (v.setWidth 64) = bs) (hn : n ≤ 2 ^ 32) :
    ∃ t, s.storeUpdate ea n v rA = .next (t.setX rA ea) ∧ StoreEnds s t ea bs := by
  obtain ⟨hdr, hdabr, hram⟩ := h
  obtain ⟨t, ht, hmem, hframe⟩ := State.memWrite_plain (v.setWidth 64) hdr hdabr hram
  subst hbs
  have htse : t.msrSe = false := by
    rw [hframe]
    exact hse
  refine ⟨t.ended, ?_, storeEnds_of_writeBytes (by simpa using hn) hmem hframe⟩
  rw [State.storeUpdate, ht, Res.finish_ok]
  exact retire_untraced htse

end

end Sys2Proof.Machine

namespace Sys2Proof.Storage

open Sys2Proof.Machine Sys2Proof.Laws

/-- Settles O31: each form is the plain load of its width, its value the bytes put together. -/
theorem integerLoads : Obligations.IntegerLoads := by
  intro rD rA rB d s hse base eaD eaX upD upX update
  exact ⟨fun h => State.load_plain hse rD h (zeroExtended_readBytes_one ..),
    fun h => State.load_plain hse rD h (zeroExtended_readBytes_one ..),
    fun _ h => State.loadUpdate_plain hse rD rA h (zeroExtended_readBytes_one ..),
    fun _ h => State.loadUpdate_plain hse rD rA h (zeroExtended_readBytes_one ..),
    fun h => State.load_plain hse rD h (zeroExtended_readBytes_two ..),
    fun h => State.load_plain hse rD h (zeroExtended_readBytes_two ..),
    fun _ h => State.loadUpdate_plain hse rD rA h (zeroExtended_readBytes_two ..),
    fun _ h => State.loadUpdate_plain hse rD rA h (zeroExtended_readBytes_two ..),
    fun h => State.load_plain hse rD h (algebraicHalf_readBytes_two ..),
    fun h => State.load_plain hse rD h (algebraicHalf_readBytes_two ..),
    fun _ h => State.loadUpdate_plain hse rD rA h (algebraicHalf_readBytes_two ..),
    fun _ h => State.loadUpdate_plain hse rD rA h (algebraicHalf_readBytes_two ..),
    fun h => State.load_plain hse rD h (zeroExtended_readBytes_four ..),
    fun h => State.load_plain hse rD h (zeroExtended_readBytes_four ..),
    fun _ h => State.loadUpdate_plain hse rD rA h (zeroExtended_readBytes_four ..),
    fun _ h => State.loadUpdate_plain hse rD rA h (zeroExtended_readBytes_four ..),
    fun h => State.load_plain hse rD h (reversedHalf_readBytes_two ..),
    fun h => State.load_plain hse rD h (reversedWord_readBytes_four ..)⟩

/-- Settles O32: each form is the plain store of its width, the bytes those of rS, the first the most significant. -/
theorem integerStores : Obligations.IntegerStores := by
  intro rS rA rB d s hse base eaD eaX upD upX
  have hrev2 : beBytes 2 ((reversedHalf ((s.x rS).setWidth 64)).setWidth 64) = (halfBytes (s.x rS)).reverse :=
    (beBytes_two _).trans (halfBytes_reversedHalf _)
  have hrev4 : beBytes 4 ((reversedWord (s.x rS)).setWidth 64) = (wordBytes (s.x rS)).reverse :=
    (beBytes_four _).trans (wordBytes_reversedWord _)
  exact ⟨fun h => State.store_plain hse h (beBytes_one _) (by decide),
    fun h => State.store_plain hse h (beBytes_one _) (by decide),
    fun _ h => State.storeUpdate_plain hse rA h (beBytes_one _) (by decide),
    fun _ h => State.storeUpdate_plain hse rA h (beBytes_one _) (by decide),
    fun h => State.store_plain hse h (beBytes_two _) (by decide),
    fun h => State.store_plain hse h (beBytes_two _) (by decide),
    fun _ h => State.storeUpdate_plain hse rA h (beBytes_two _) (by decide),
    fun _ h => State.storeUpdate_plain hse rA h (beBytes_two _) (by decide),
    fun h => State.store_plain hse h (beBytes_four _) (by decide),
    fun h => State.store_plain hse h (beBytes_four _) (by decide),
    fun _ h => State.storeUpdate_plain hse rA h (beBytes_four _) (by decide),
    fun _ h => State.storeUpdate_plain hse rA h (beBytes_four _) (by decide),
    fun h => State.store_plain hse h hrev2 (by decide),
    fun h => State.store_plain hse h hrev4 (by decide)⟩

end Sys2Proof.Storage
end

section
/-! PROOFS. The family 20_memory.md: synchronization, the TLB and the segment registers (R621 to R630). -/

namespace Sys2Proof.Machine

/-- A privileged instruction in supervisor mode. -/
theorem privileged_of_supervisor {s : State} (h : s.msrPr = false) (run : Out) : privileged s run = run :=
  if_neg (by simp [h])

/-- An entry of a register file after one was written. -/
theorem vector_get_set {α : Type} {n : Nat} (v : Vector α n) (i : Fin n) (x : α) (k : Fin n) :
    (v.set i x).get k = if k = i then x else v.get k := by
  rw [Vector.get_eq_getElem, Vector.getElem_set, Vector.get_eq_getElem]
  simp only [Fin.ext_iff, eq_comm]

/-! ### `sync` (R621) -/

/-- Where no stored word is left for a `sync` to decide, none is undecided. -/
theorem State.undecided_of_decided {s : State} (h : s.decided) : ∀ e ∈ s.dirty, s.undecided e = false := by
  obtain ⟨hdropping, hmixed⟩ := h
  intro e he
  have hmixed := hmixed e he
  rw [Bool.and_eq_false_iff] at hmixed
  rcases hmixed with h | h <;> simp [State.undecided, hdropping, h]

/-- Where every stored word is decided, `sync` changes the record alone. -/
theorem State.synced_of_decided {s : State} (h : s.decided) :
    s.synced = { s with
      stale := s.stale.map (fun e => { e with stage := e.stage.afterSync })
      dirty := s.dirty.filterMap DirtyWord.synced
      late := s.late.filter (fun e => e.reg ≠ .dce)
      tables := { s.tables with synced := s.tables.changes.length, cleared := s.tables.clearing } } := by
  simp only [State.synced, State.discarded_none (State.undecided_of_decided h)]

/-- What `sync` leaves of a stored word has no `dcbst` or `dcbf` outstanding, and only the versions since the last. -/
theorem DirtyWord.of_synced {o e : DirtyWord} (h : o.synced = some e) :
    e.flush = none ∧ e.cached = o.cached ∧ e.mixed = o.mixed ∧ e.word = o.word ∧ o.flush ≠ some 0 ∧
      ∀ k, o.flush = some k → e.olds = if o.mixed then o.olds else o.olds.take k := by
  unfold DirtyWord.synced at h
  split at h
  case h_1 hnone =>
    cases h
    exact ⟨hnone, rfl, rfl, rfl, by simp [hnone], by simp [hnone]⟩
  case h_2 => cases h
  case h_3 n hn hflush =>
    cases h
    refine ⟨rfl, rfl, rfl, rfl, fun h0 => hn (Option.some.inj (hflush.symm.trans h0)), fun k hk => ?_⟩
    rw [Option.some.inj (hflush.symm.trans hk)]

/-- What a `sync` leaves was a decided stored word before it. -/
theorem State.mem_synced_dirty {s : State} {e : DirtyWord} :
    e ∈ s.synced.dirty ↔ ∃ o ∈ s.dirty, s.undecided o = false ∧ o.synced = some e := by
  simp [State.synced, State.discarded, List.mem_filterMap, List.mem_filter, and_assoc]

/-- A decided word is not being dropped. -/
theorem State.not_dropped_of_not_undecided {s : State} {e : DirtyWord} (h : s.undecided e = false) :
    (e.cached && s.dropping) = false := by
  rw [State.undecided, Bool.and_or_distrib_left, Bool.or_eq_false_iff] at h
  exact h.1

/-- A word with no `dcbf` outstanding and not being dropped is decided. -/
theorem State.not_undecided_of_flush {s : State} {e : DirtyWord} (h : (e.cached && s.dropping) = false)
    (hflush : e.flush = none) : s.undecided e = false := by
  rw [State.undecided, Bool.and_or_distrib_left, h, hflush]
  simp

/-- A `sync` completes the `tlbie` and `tlbia` before it (R861). -/
theorem State.tableSettled_synced {s : State} (h : s.decided) {ea : Word}
    (hclear : s.tables.clearing.get (tlbSet ea) = s.tables.changes.length) : s.synced.tableSettled ea := by
  rw [State.synced_of_decided h]
  exact ⟨rfl, hclear⟩

end Sys2Proof.Machine

namespace Sys2Proof.Storage

open Sys2Proof.Machine Sys2Proof.Laws

/-- Settles O55: `sync` drops the undecided words and keeps what was stored since the last `dcbst` or `dcbf`, and the
others are one update each. -/
theorem synchronizationAndSegments : Obligations.SynchronizationAndSegments := by
  intro r rB n s hse
  refine ⟨⟨_, exec_sync_untraced hse, rfl, fun e => ?late, fun e he hkept hflush => ?kept, fun e he => ?left,
    fun a ha => ?mem, fun h => ?draws⟩,
    ⟨_, exec_isync_untraced hse, ContextSynced.of_resynced rfl rfl, rfl⟩, retire_untraced hse, fun hpr => ?supervisor⟩
  case late => exact List.mem_filter.trans (by simp)
  case kept =>
    exact State.mem_synced_dirty.2 ⟨e, he, State.not_undecided_of_flush hkept hflush, by rw [DirtyWord.synced, hflush]⟩
  case left =>
    obtain ⟨o, ho, hdecided, hsynced⟩ := State.mem_synced_dirty.1 he
    obtain ⟨hnone, hcached, -, hword, hflush, holds⟩ := DirtyWord.of_synced hsynced
    exact ⟨hnone, hcached ▸ State.not_dropped_of_not_undecided hdecided, o, ho, hword, hflush, holds⟩
  case mem =>
    refine State.read_discarded fun e he hlost hcached => ha e he ?_
    simp only [State.undecided, Bool.and_eq_true, Bool.or_eq_true] at hlost ⊢
    exact ⟨hcached, hlost.2.imp_right And.left⟩
  case draws =>
    change s.synced.draws = s.draws
    rw [State.synced_of_decided h]
  case supervisor =>
    have runs {u : State} (hmsr : u.msr = s.msr) : privileged s (retire u) = .next u.ended :=
      (privileged_of_supervisor hpr _).trans (retire_untraced ((congrArg (·.getLsbD 10) hmsr).trans hse))
    have maps (i k : Fin 16) : (s.writeSegment i (s.x r)).ended.sr.get k = if k = i then s.x r else s.sr.get k :=
      vector_get_set ..
    refine ⟨⟨_, runs rfl, rfl, rfl, fun h => ⟨_, exec_sync_untraced hse, fun ea hea => ?page⟩⟩, runs rfl,
      fun htlbia => ⟨s.tlbCleared.ended, ?tlbia, rfl, fun h => ⟨_, exec_sync_untraced hse, fun ea => ?all⟩⟩,
      ⟨_, runs rfl, rfl, maps _⟩, runs rfl, fun k hk => ?indirect⟩
    case page =>
      have hset : tlbSet ea = tlbSet (s.x rB) := congrArg BitVec.toFin hea
      exact State.tableSettled_synced (s := (s.tlbSetCleared (s.x rB)).ended) h
        ((vector_get_set ..).trans (if_pos hset))
    case tlbia =>
      rw [exec_tlbia, execTlbia, htlbia]
      exact runs rfl
    case all =>
      exact State.tableSettled_synced (s := s.tlbCleared.ended) h
        ((Vector.get_eq_getElem ..).trans (Vector.getElem_replicate ..))
    case indirect =>
      have hindex : segmentIndex (s.x rB) = k := by
        refine Fin.ext ?_
        rw [hk, segmentIndex, BitVec.val_toFin, BitVec.extractLsb'_toNat, Nat.shiftRight_eq_div_pow]
        omega
      rw [exec_mtsrin, execMtsrin, exec_mfsrin, execMfsrin, hindex]
      exact ⟨⟨_, runs rfl, rfl, maps k⟩, runs rfl⟩

end Sys2Proof.Storage
end

section
/-! PROOFS. The family 20_memory.md: the cache instructions (R551 to R557) and the sequence of R140. -/

namespace Sys2Proof.Machine

/-! ### Blocks -/

theorem blockBase_mod (ea : Word) : (blockBase ea).toNat % 32 = 0 := by
  rw [blockBase, BitVec.toNat_and]
  exact (Nat.and_mod_two_pow (n := 5)).trans (Nat.and_zero _)

/-- The words of a block, named by its first byte. -/
theorem blockWords_blockBase (ea : Word) :
    blockWords (blockBase ea) = (List.range 8).map fun k => (blockBase ea).toNat / 4 + k := by
  have haligned := blockBase_mod ea
  exact List.map_congr_left fun i _ => by omega

theorem mem_blockWords {pa : Word} {w : Nat} : w ∈ blockWords pa ↔ w / 8 = pa.toNat / 32 := by
  simp only [blockWords, List.mem_map, List.mem_range]
  constructor
  · rintro ⟨i, hi, rfl⟩
    omega
  · exact fun h => ⟨w % 8, Nat.mod_lt _ (by decide), by omega⟩

/-- Where all bytes lie in memory of one kind, none lies in another. -/
theorem State.not_mem_kindsOf {s : State} {kind k : RegionKind} {pa : Word} {n : Nat} (h : s.allOf kind pa n)
    (hk : k ≠ kind) : k ∉ s.kindsOf pa n := by
  intro hmem
  obtain ⟨i, hi, rfl⟩ := List.mem_map.1 hmem
  exact hk (h i (List.mem_range.1 hi))

/-- A store to memory ends as `StoreEnds` says. -/
theorem storeEnds_storePhys {s : State} {m : Mapped} {bs : List Byte} (hl : bs.length ≤ 2 ^ 32) :
    StoreEnds s (s.storePhys m bs).ended m.pa bs :=
  storeEnds_of_writeBytes hl (s.storePhys_mem m bs) (s.storePhys_frame m bs)

/-! ### The stages of R140's sequence -/

/-- The words of the block of `pa` that a fetch may still see old are in these stages. -/
def State.stagesIn (s : State) (pa : Word) (l : List FetchStage) : Prop :=
  ∀ e ∈ s.stale, e.word ∈ blockWords pa → e.stage ∈ l

section
variable {s : State} {pa : Word}

/-- After `dcbst` or `dcbf` no store to the block is only written. -/
theorem State.stagesIn_blockStored (s : State) (invalidate : Bool) (pa : Word) :
    (s.blockStored invalidate pa).stagesIn pa [.stored, .synced, .invalidated, .settled] := by
  intro e he hword
  obtain ⟨o, _, rfl⟩ := List.mem_map.1 he
  have hblock : o.word ∈ blockWords pa := by
    split at hword <;> exact hword
  by_cases hwritten : o.stage = .written
  · rw [if_pos ⟨hblock, hwritten⟩]
    exact List.mem_cons_self
  · rw [if_neg fun h => hwritten h.2]
    revert hwritten
    cases o.stage <;> decide

/-- After a `sync` the stages are those before it, one on. -/
theorem State.stagesIn_synced (h : s.decided) {l : List FetchStage} (hl : s.stagesIn pa l) :
    s.synced.stagesIn pa (l.map FetchStage.afterSync) := by
  rw [State.synced_of_decided h]
  intro e he hword
  obtain ⟨o, ho, rfl⟩ := List.mem_map.1 he
  exact List.mem_map_of_mem (hl o ho hword)

/-- After `icbi` no word of the block waits for it. -/
theorem State.stagesIn_blockInvalidated (h : s.stagesIn pa [.synced, .settled]) :
    (s.blockInvalidated pa).stagesIn pa [.invalidated, .settled] := by
  intro e he hword
  obtain ⟨o, ho, rfl⟩ := List.mem_map.1 he
  have hblock : o.word ∈ blockWords pa := by
    split at hword <;> exact hword
  have hstage := h o ho hblock
  by_cases hsynced : o.stage = .synced
  · rw [if_pos ⟨hblock, hsynced⟩]
    exact List.mem_cons_self
  · rw [if_neg fun h => hsynced h.2]
    revert hsynced hstage
    cases o.stage <;> decide

/-- Where the sequence is complete, a context synchronization leaves no word of the block old (R140). -/
theorem State.fresh_resynced {l : List FetchStage} (h : s.stagesIn pa l)
    (hl : ∀ g ∈ l, g.complete (s.hid0.getLsbD 15) = true) : ∀ e ∈ s.resynced.stale, e.word ∉ blockWords pa := by
  intro e he hword
  obtain ⟨o, ho, hcomplete, rfl⟩ := State.mem_resynced_stale he
  have hblock : o.word ∈ blockWords pa := by
    split at hword <;> exact hword
  exact Bool.false_ne_true (hcomplete.symm.trans (hl _ (h o ho hblock)))

/-! ### The stored words -/

/-- The cache instructions leave what `sync` will have to decide: `dcbst` and `dcbf` nothing new. -/
theorem State.decided_blockStored (h : s.decided) (invalidate : Bool) : (s.blockStored invalidate pa).decided := by
  refine ⟨h.1, fun e he => ?_⟩
  obtain ⟨o, ho, rfl⟩ := List.mem_map.1 he
  have ho := h.2 o ho
  split <;> exact ho

/-- After a `sync` nothing is being dropped: DCE acts as it was written. -/
theorem State.not_dropping_synced (s : State) : s.synced.dropping = false := by
  have hlate : s.synced.late.filter (fun e => e.reg = .dce) = [] := by
    refine List.filter_eq_nil_iff.2 fun e he => ?_
    simpa using (List.mem_filter.1 he).2
  rw [State.dropping, State.hid0Writes, hlate]
  rfl

theorem State.decided_synced (h : s.decided) : s.synced.decided := by
  refine ⟨s.not_dropping_synced, fun e he => ?_⟩
  obtain ⟨o, ho, -, hsynced⟩ := State.mem_synced_dirty.1 he
  obtain ⟨-, hcached, hmixed, -⟩ := DirtyWord.of_synced hsynced
  rw [hcached, hmixed]
  exact h.2 o ho

/-- A `sync` leaves the context that acts, but for DCE. -/
theorem State.synced_acting (s : State) (f : Bool) {r : ContextReg} (h : r ≠ .dce) :
    s.synced.acting f r = s.acting f r := by
  have hlate : s.synced.late.filter (fun e => e.reg = r) = s.late.filter (fun e => e.reg = r) := by
    refine List.filter_filter.trans (List.filter_congr fun e _ => ?_)
    by_cases hr : e.reg = r <;> simp [hr, h]
  unfold State.acting
  rw [hlate]
  cases r <;> rfl

/-- After `dcbf` and `sync` nothing stored to the block is held back. -/
theorem State.not_mem_synced_blockStored (s : State) (pa : Word) :
    ∀ e ∈ (s.blockStored true pa).synced.dirty, e.word ∉ blockWords pa := by
  intro e he hword
  obtain ⟨o, ho, -, hsynced⟩ := State.mem_synced_dirty.1 he
  obtain ⟨-, -, -, hsame, hflush, -⟩ := DirtyWord.of_synced hsynced
  obtain ⟨d, -, rfl⟩ := List.mem_map.1 ho
  have hblock : d.word ∈ blockWords pa := by
    rw [hsame] at hword
    split at hword <;> exact hword
  exact hflush (by rw [if_pos ⟨hblock, .inl rfl⟩])

end

/-! ### The instructions in real mode -/

section
variable {s : State} (hdr : s.msrDr = false) (hse : s.msrSe = false) (rA rB : Reg)
include hdr hse

theorem exec_dcbf_real :
    exec (.dcbf rA rB) s = .next (s.blockStored true (blockBase (s.eaX rA rB))).ended := by
  rw [exec_dcbf, execDcbf, State.dataMap_real (by decide) hdr, Res.finish_ok]
  exact retire_untraced hse

theorem exec_dcbst_real :
    exec (.dcbst rA rB) s = .next (s.blockStored false (blockBase (s.eaX rA rB))).ended := by
  rw [exec_dcbst, execDcbst, State.dataMap_real (by decide) hdr, Res.finish_ok]
  exact retire_untraced hse

theorem exec_icbi_real :
    exec (.icbi rA rB) s = .next (s.blockInvalidated (blockBase (s.eaX rA rB))).ended := by
  rw [exec_icbi, execIcbi, State.dataMap_real (by decide) hdr, Res.finish_ok]
  exact retire_untraced hse

theorem exec_dcbi_real (hpr : s.msrPr = false) :
    exec (.dcbi rA rB) s = .next (s.blockDiscarded (blockBase (s.eaX rA rB))).ended := by
  rw [exec_dcbi, execDcbi, privileged_of_supervisor hpr, State.dataMap_real (by decide) hdr, Res.finish_ok]
  exact retire_untraced hse

/-- With the data cache on, `dcbz` to RAM stores its block (R556). -/
theorem exec_dcbz_real (hdce : s.dce = true) (h : s.plainData (blockBase (s.eaX rA rB)) 32) :
    ∃ t, exec (.dcbz rA rB) s = .next t ∧ StoreEnds s t (blockBase (s.eaX rA rB)) (List.replicate 32 0) := by
  obtain ⟨-, hdabr, hram⟩ := h
  have hnot {k : RegionKind} (hk : k ≠ .ram) : k ∉ s.kindsOf (realMode .store (blockBase (s.eaX rA rB))).pa 32 :=
    State.not_mem_kindsOf hram hk
  have huncached : s.blockUncached (blockBase (s.eaX rA rB)) = false := by
    rw [State.blockUncached, State.translate_real (show s.translating .store = false from hdr)]
    simp [realMode, Mapped.inhibited, Mapped.writeThrough]
  refine ⟨_, ?_, storeEnds_storePhys (m := realMode .store (blockBase (s.eaX rA rB)))
    (by rw [List.length_replicate]; decide)⟩
  rw [exec_dcbz, execDcbz, hdce, huncached, if_neg (by decide), State.dataMap_real (by decide) hdr, Res.finish_ok,
    State.dabrMatches_off hdabr, if_neg (by decide), if_neg (not_or.2 ⟨hnot (by decide), hnot (by decide)⟩),
    if_neg (hnot (by decide)), show (realMode .store _).pte = none from rfl, State.touch_none]
  exact retire_untraced ((congrArg (·.getLsbD 10) (s.storePhys_msr _ _)).trans hse)

end

/-! ### The sequence of R140 -/

/-- `u` is in the course of the sequence of R140 for the block of `pa`, begun in `s` in real mode with no stored word
left for a `sync` to decide: the words of the block that a fetch may still see old are in these stages. -/
structure InSequence (s u : State) (pa : Word) (l : List FetchStage) : Prop where
  stages : u.stagesIn pa l
  decided : u.decided
  real : u.msrDr = false
  untraced : u.msrSe = false
  mem : u.mem = s.mem
  hid0 : u.hid0 = s.hid0
  gpr : u.gpr = s.gpr

/-- `dcbst` or `dcbf` begins it. -/
theorem InSequence.of_blockStored {s : State} (h : s.decided) (hdr : s.msrDr = false) (hse : s.msrSe = false)
    (invalidate : Bool) (pa : Word) :
    InSequence s (s.blockStored invalidate pa).ended pa [.stored, .synced, .invalidated, .settled] :=
  ⟨s.stagesIn_blockStored invalidate pa, State.decided_blockStored h invalidate, hdr, hse, rfl, rfl, rfl⟩

section
variable {s u : State} {pa : Word} {l : List FetchStage} (h : InSequence s u pa l)
include h

theorem InSequence.sync : ∃ t, exec .sync u = .next t ∧ InSequence s t pa (l.map FetchStage.afterSync) := by
  obtain ⟨hstages, hdecided, hreal, huntraced, hmem, hhid0, hgpr⟩ := h
  exact ⟨_, exec_sync_untraced huntraced, State.stagesIn_synced hdecided hstages, State.decided_synced hdecided,
    (congrArg (·.getLsbD 4) (u.synced_acting false (by decide))).trans hreal, huntraced,
    (State.synced_mem_of_decided (State.undecided_of_decided hdecided)).trans hmem, hhid0, hgpr⟩

theorem InSequence.icbi {rA rB : Reg} (hpa : blockBase (s.eaX rA rB) = pa) (hl : ∀ g ∈ l, g ∈ [.synced, .settled]) :
    ∃ t, exec (.icbi rA rB) u = .next t ∧ InSequence s t pa [.invalidated, .settled] := by
  obtain ⟨hstages, hdecided, hreal, huntraced, hmem, hhid0, hgpr⟩ := h
  have hea : blockBase (u.eaX rA rB) = pa := by
    simp only [← hpa, State.eaX, State.xOr0, State.x, hgpr]
  refine ⟨_, exec_icbi_real hreal huntraced rA rB, ?_, hdecided, hreal, huntraced, hmem, hhid0, hgpr⟩
  rw [hea]
  exact State.stagesIn_blockInvalidated fun e he hword => hl _ (hstages e he hword)

/-- `isync` ends it where it is complete for the ICE that HID0 holds. -/
theorem InSequence.isync (hl : ∀ g ∈ l, g.complete (s.hid0.getLsbD 15) = true) :
    ∃ t, exec .isync u = .next t ∧ (∀ e ∈ t.stale, e.word ∉ blockWords pa) ∧ t.mem = s.mem :=
  ⟨_, exec_isync_untraced h.untraced, State.fresh_resynced h.stages (h.hid0 ▸ hl), h.mem⟩

end

end Sys2Proof.Machine

namespace Sys2Proof.Storage

open Sys2Proof.Machine Sys2Proof.Laws

/-- Settles O49: in real mode each instruction is one update of the record, the block's bytes but for `dcbz` and `dcbi`
stay, and the sequence of R140 is followed stage by stage. -/
theorem cacheBlocks : Obligations.CacheBlocks := by
  intro rA rB s hdr hse ea block words
  have hwords : blockWords block = words := blockWords_blockBase ea
  refine ⟨⟨_, exec_dcbf_real hdr hse rA rB, rfl⟩, ⟨_, exec_dcbst_real hdr hse rA rB, rfl⟩,
    ⟨_, exec_icbi_real hdr hse rA rB, rfl⟩, retire_untraced hse, retire_untraced hse,
    fun hdce h => exec_dcbz_real hdr hse rA rB hdce h,
    fun hpr => ⟨_, exec_dcbi_real hdr hse rA rB hpr, rfl, ?outside, ?clean, ?gone⟩, fun h i hi => ?sequence,
    fun h => ⟨_, _, exec_dcbf_real hdr hse rA rB, exec_sync_untraced hse, ?mem, ?data⟩⟩
  case outside =>
    intro x hx
    refine State.read_discarded fun e _ hlost _ => ?_
    have hblock : e.word / 8 = block.toNat / 32 := mem_blockWords.1 (of_decide_eq_true hlost)
    have haligned : block.toNat % 32 = 0 := blockBase_mod ea
    have hlt := block.isLt
    omega
  case clean =>
    intro h
    exact congrArg State.ended (State.discarded_none fun e he => decide_eq_false (hwords ▸ h e he))
  case gone =>
    intro e he hword
    have hkept := (List.mem_filter.1 he).2
    have hblock : e.word ∈ blockWords (blockBase (s.eaX rA rB)) := hwords.symm ▸ hword
    simp [hblock] at hkept
  case mem => exact State.synced_mem_of_decided (State.undecided_of_decided (State.decided_blockStored h true))
  case data => exact hwords ▸ State.not_mem_synced_blockStored s block
  case sequence =>
    obtain ⟨invalidate, hrun⟩ : ∃ invalidate, exec i s = .next (s.blockStored invalidate block).ended := by
      simp only [List.mem_cons, List.not_mem_nil, or_false] at hi
      obtain rfl | rfl := hi
      · exact ⟨false, exec_dcbst_real hdr hse rA rB⟩
      · exact ⟨true, exec_dcbf_real hdr hse rA rB⟩
    have hstart : InSequence s (s.blockStored invalidate block).ended block
        [.stored, .synced, .invalidated, .settled] :=
      InSequence.of_blockStored h hdr hse invalidate block
    obtain ⟨t2, hsync, h2⟩ := hstart.sync
    obtain ⟨t3, hicbi, h3⟩ := h2.icbi (rA := rA) (rB := rB) rfl (by decide)
    obtain ⟨t4, hsync', h4⟩ := h3.sync
    obtain ⟨t5, hisync, hfresh, hmem⟩ := h4.isync (by cases s.hid0.getLsbD 15 <;> decide)
    rw [← hwords]
    refine ⟨_, t2, t3, t4, t5, hrun, hsync, hicbi, hsync', hisync, hfresh, hmem, fun hice => ?_⟩
    obtain ⟨u, hu, hfreshu, -⟩ := h2.isync (by rw [hice]; decide)
    obtain ⟨v, hv, hfreshv, -⟩ := h3.isync (by rw [hice]; decide)
    exact ⟨u, v, hu, hv, hfreshu, hfreshv⟩

end Sys2Proof.Storage
end

section
/-! PROOFS. The family 20_memory.md: translation by block and by page (R113 to R119), fetches that do not translate and
the instruction address breakpoint (R779, R787). -/

namespace Sys2Proof.Machine

/-! ### The page table (R116) -/

/-- The group a hash selects. -/
theorem ptegAddress_pageHash (sdr1 seg ea : Word) (h : Bool) :
    ptegAddress sdr1 (pageHash (seg.extractLsb' 0 24) ea h) = groupAt sdr1 seg ea h := by
  have hvsid : (seg.extractLsb' 0 24).extractLsb' 0 19 = seg.extractLsb' 0 19 := by
    refine BitVec.eq_of_getLsbD_eq fun i hi => ?_
    simp only [BitVec.getLsbD_extractLsb']
    grind
  have hpage : 0#3 ++ ea.extractLsb' 12 16 = (ea.extractLsb' 12 16).setWidth 19 :=
    (BitVec.setWidth_eq_append (by decide)).symm
  rw [pageHash, primaryHash, hvsid, hpage]
  rfl

/-- Word 0 of an entry as its fields. -/
theorem word_eq_fields (w : Word) :
    w = BitVec.ofBool (w.getLsbD 31) ++ w.extractLsb' 7 24 ++ BitVec.ofBool (w.getLsbD 6) ++ w.extractLsb' 0 6 := by
  refine BitVec.eq_of_getLsbD_eq fun i hi => ?_
  simp only [BitVec.getLsbD_append, BitVec.getLsbD_extractLsb', BitVec.getLsbD_ofBool]
  obtain rfl | hlt : i = 31 ∨ i < 31 := by omega
  · simp
  · grind

theorem eq_entryWord_iff (w seg ea : Word) (h : Bool) :
    w = entryWord seg ea h ↔ w.getLsbD 31 = true ∧ w.extractLsb' 7 24 = seg.extractLsb' 0 24 ∧ w.getLsbD 6 = h ∧
      w.extractLsb' 0 6 = ea.extractLsb' 22 6 := by
  constructor
  · rintro rfl
    refine ⟨?_, ?_, ?_, ?_⟩
    · simp only [entryWord, BitVec.getLsbD_append]
      rfl
    · refine BitVec.eq_of_getLsbD_eq fun i hi => ?_
      simp only [entryWord, BitVec.getLsbD_append, BitVec.getLsbD_extractLsb']
      grind
    · simp only [entryWord, BitVec.getLsbD_append, BitVec.getLsbD_ofBool]
      simp
    · refine BitVec.eq_of_getLsbD_eq fun i hi => ?_
      simp only [entryWord, BitVec.getLsbD_append, BitVec.getLsbD_extractLsb']
      grind
  · rintro ⟨hvalid, hvsid, hhash, hapi⟩
    rw [word_eq_fields w, hvalid, hvsid, hhash, hapi]
    rfl

section
variable {s : State} {sdr1 seg ea a : Word} {h : Bool}

theorem State.pteAt_word1 (s : State) (a : Word) : (s.mem.pteAt a).word1 = s.wordAt (a + 4) := beValue_readBytes_four ..

theorem State.pteAt_word0 (s : State) (a : Word) : (s.mem.pteAt a).word0 = s.wordAt a := beValue_readBytes_four ..

theorem State.pteAt_matches (s : State) (a : Word) :
    (s.mem.pteAt a).matches (seg.extractLsb' 0 24) h ea = true ↔ s.wordAt a = entryWord seg ea h := by
  rw [eq_entryWord_iff, Pte.matches, State.pteAt_word0]
  simp only [Bool.and_eq_true, decide_eq_true_eq, beq_iff_eq, and_assoc]

theorem State.groupMatches_eq (s : State) (sdr1 seg ea : Word) (h : Bool) :
    s.groupMatches sdr1 (seg.extractLsb' 0 24) ea h =
      ((List.range 8).filter fun i => decide (s.wordAt (entryAt sdr1 seg ea h i) = entryWord seg ea h)).map
        fun i => s.mem.pteAt (entryAt sdr1 seg ea h i) := by
  rw [State.groupMatches, ptegAddress_pageHash, Memory.pteg, List.filter_map]
  congr 1
  refine List.filter_congr fun i _ => ?_
  rw [Bool.eq_iff_iff, Function.comp_apply, State.pteAt_matches, decide_eq_true_iff]
  rfl

/-- With the groups in RAM, a group where no entry translates the page has none. -/
theorem State.searchGroup_missing (hram : s.allOf .ram (groupAt sdr1 seg ea h) 64)
    (hnone : ∀ i < 8, ¬s.hasEntry sdr1 seg ea h i) : s.searchGroup sdr1 (seg.extractLsb' 0 24) ea h = .missing := by
  have hempty : s.groupMatches sdr1 (seg.extractLsb' 0 24) ea h = [] := by
    rw [State.groupMatches_eq, List.map_eq_nil_iff, List.filter_eq_nil_iff]
    exact fun i hi hentry => hnone i (List.mem_range.1 hi) (show s.wordAt _ = _ from of_decide_eq_true hentry)
  rw [State.searchGroup, ptegAddress_pageHash, if_neg (State.not_mem_kindsOf hram (by decide)),
    if_neg (State.not_mem_kindsOf hram (by decide)), hempty]

theorem filter_range_eight_eq (i : Nat) (hi : i < 8) : (List.range 8).filter (fun j => decide (j = i)) = [i] := by
  decide +revert

/-- A group where one entry translates the page has that one. -/
theorem State.searchGroup_found (hram : s.allOf .ram (groupAt sdr1 seg ea h) 64) {i : Nat} (hi : i < 8)
    (hentry : s.hasEntry sdr1 seg ea h i) (honly : ∀ j < 8, s.hasEntry sdr1 seg ea h j → j = i) :
    s.searchGroup sdr1 (seg.extractLsb' 0 24) ea h = .found (s.mem.pteAt (entryAt sdr1 seg ea h i)) := by
  have hone : s.groupMatches sdr1 (seg.extractLsb' 0 24) ea h = [s.mem.pteAt (entryAt sdr1 seg ea h i)] := by
    rw [State.groupMatches_eq, List.filter_congr (q := fun j => decide (j = i)) fun j hj => ?_,
      filter_range_eight_eq i hi]
    · rfl
    · rw [decide_eq_decide]
      exact ⟨honly j (List.mem_range.1 hj), fun hji => hji ▸ hentry⟩
  rw [State.searchGroup, ptegAddress_pageHash, if_neg (State.not_mem_kindsOf hram (by decide)),
    if_neg (State.not_mem_kindsOf hram (by decide)), hone]
  rfl

/-- No entry translates the page: the search finds none. -/
theorem State.search_missing (hready : s.tableReady sdr1 seg ea) (hnone : s.noEntry sdr1 seg ea) :
    s.search sdr1 (seg.extractLsb' 0 24) ea = .missing := by
  obtain ⟨-, hram⟩ := hready
  rw [State.search, State.searchGroup_missing (hram false) (hnone false)]
  exact State.searchGroup_missing (hram true) (hnone true)

/-- One entry translates the page: the search finds it. -/
theorem State.search_found (hready : s.tableReady sdr1 seg ea) (honly : s.onlyEntry sdr1 seg ea a) :
    s.search sdr1 (seg.extractLsb' 0 24) ea = .found (s.mem.pteAt a) := by
  obtain ⟨-, hram⟩ := hready
  obtain ⟨h, i, hi, rfl, hentry, hunique⟩ := honly
  have hfound := State.searchGroup_found (hram h) hi hentry fun j hj hj' => (hunique h j hj hj').2
  have hother : s.searchGroup sdr1 (seg.extractLsb' 0 24) ea (!h) = .missing :=
    State.searchGroup_missing (hram _) fun j hj hj' => absurd (hunique _ j hj hj').1 (Bool.not_ne_self h)
  cases h with
  | false => rw [State.search, hfound, show s.searchGroup sdr1 _ ea true = .missing from hother]
  | true => rw [State.search, hfound, show s.searchGroup sdr1 _ ea false = .missing from hother]

/-- The entry a search found, to be marked. -/
def Search.address? : Search → Option Word
  | .found p => some p.address
  | .missing | .absent | .refused _ => none

/-- Nothing older than the table translates the page: what is found, and marked, is what the search finds (R861). -/
theorem State.pageEntry_eq (hsettled : s.tableSettled ea) (f : Bool) (vsid : BitVec 24) :
    s.pageEntry f vsid ea =
      (s.search (s.acting f .sdr1) vsid ea, (s.search (s.acting f .sdr1) vsid ea).address?) := by
  obtain ⟨hsynced, hcleared⟩ := hsettled
  unfold State.pageEntry
  generalize s.search (s.acting f .sdr1) vsid ea = now
  cases hchanges : s.tables.changes with
  | nil => cases now <;> simp [Search.address?]
  | cons c cs =>
    rw [hchanges] at hsynced hcleared
    by_cases hage : Config.tableChoice s.time f ea = 0
    · cases now <;> simp [Search.address?, hage]
    · have hlate {limit : Nat} (hlimit : limit = (c :: cs).length) :
          ¬(Config.tableChoice s.time f ea + limit ≤ (c :: cs).length) := by omega
      dsimp only
      rw [if_neg hage]
      generalize (s.tablesBefore _).search _ vsid ea = old
      cases old with
      | found p =>
        dsimp only
        rw [if_neg (hlate hcleared)]
        cases now <;> simp [Search.address?]
      | missing | absent | refused r =>
        dsimp only
        rw [if_neg (hlate hsynced)]
        cases now <;> simp [Search.address?]

end

/-! ### Translation (R111 to R119) -/

section
variable {s : State} {k : Access} {ea : Word} (hon : s.translating k = true)
include hon

/-- One block covers the address. -/
theorem State.translate_block {b : Bat}
    (hblocks : (s.bats k).filter (fun b => b.covers (s.userFor (decide (k = .fetch))) ea) = [b]) :
    s.translate k ea = b.translate k ea := by
  rw [State.translate, hon, hblocks]
  rfl

/-- No block covers it. -/
theorem State.translate_page
    (hblocks : (s.bats k).filter (fun b => b.covers (s.userFor (decide (k = .fetch))) ea) = []) :
    s.translate k ea = s.translatePaged k ea := by
  rw [State.translate, hon, hblocks]
  rfl

end

section
variable {s : State} {k : Access} {ea sdr1 seg a : Word}
  (hseg : s.acting (decide (k = .fetch)) (.sr (ea.extractLsb' 28 4).toFin) = seg) (hdirect : seg.getLsbD 31 = false)
include hseg hdirect

/-- A fetch from a no-execute segment (R115). -/
theorem State.translatePaged_noExecute (hk : k = .fetch) (hexec : seg.getLsbD 28 = true) :
    s.translatePaged k ea = .noExecute := by
  simp only [State.translatePaged, hseg, hdirect, if_pos (And.intro hk hexec)]
  rfl

variable (hsdr1 : s.acting (decide (k = .fetch)) .sdr1 = sdr1) (hexec : ¬(k = .fetch ∧ seg.getLsbD 28 = true))
  (hready : s.tableReady sdr1 seg ea)
include hsdr1 hexec hready

/-- No entry translates the address: a page fault. -/
theorem State.translatePaged_missing (hnone : s.noEntry sdr1 seg ea) : s.translatePaged k ea = .pageFault := by
  simp only [State.translatePaged, hseg, hdirect, if_neg hexec, State.pageEntry_eq hready.1, hsdr1,
    State.search_missing hready hnone]
  rfl

/-- One entry translates it: guarded fetches and protection (R117, R119). -/
theorem State.translatePaged_found (honly : s.onlyEntry sdr1 seg ea a) :
    s.translatePaged k ea =
      if k = .fetch ∧ (s.wordAt (a + 4)).getLsbD 3 then .noExecute
      else if pageAllows (if s.userFor (decide (k = .fetch)) then seg.getLsbD 29 else seg.getLsbD 30)
          ((s.wordAt (a + 4)).extractLsb' 0 2) k then
        .mapped ⟨(s.wordAt (a + 4)).extractLsb' 12 20 ++ ea.extractLsb' 0 12, (s.wordAt (a + 4)).extractLsb' 3 4,
          some (a + 4)⟩
      else .protection ((s.wordAt (a + 4)).extractLsb' 3 4) := by
  simp only [State.translatePaged, hseg, hdirect, if_neg hexec, State.pageEntry_eq hready.1, hsdr1,
    State.search_found hready honly, ← State.pteAt_word1]
  rfl

end

/-! ### Blocks (R113, R114) -/

section
variable {b : Bat} (hwf : b.wellFormed = true) {ea : Word}
include hwf

theorem Bat.translate_guarded (hguarded : b.lower.getLsbD 3 = true) : b.translate .fetch ea = .noExecute := by
  simp [Bat.translate, hwf, hguarded]

theorem Bat.translate_protected {k : Access} (hexec : ¬(k = .fetch ∧ b.lower.getLsbD 3 = true))
    (hpp : b.lower.extractLsb' 0 2 = 0 ∨ (k = .store ∧ b.lower.extractLsb' 0 2 ≠ 2)) :
    b.translate k ea = .protection (b.lower.extractLsb' 3 4) := by
  rw [Bat.translate, hwf, if_neg (by decide), if_neg hexec, Bat.pp, if_pos hpp]

theorem Bat.translate_mapped {k : Access} (hexec : ¬(k = .fetch ∧ b.lower.getLsbD 3 = true))
    (hpp : ¬(b.lower.extractLsb' 0 2 = 0 ∨ (k = .store ∧ b.lower.extractLsb' 0 2 ≠ 2))) :
    b.translate k ea = .mapped ⟨b.physical ea, b.lower.extractLsb' 3 4, none⟩ := by
  rw [Bat.translate, hwf, if_neg (by decide), if_neg hexec, Bat.pp, if_neg hpp]

end

/-! ### Fetches (R128, R779) -/

theorem State.iabrMatches_iff {s : State} : s.iabrMatches = true ↔
    (s.acting true .iabr).getLsbD 1 = true ∧ (s.acting true .iabr).extractLsb' 2 30 = s.pc.extractLsb' 2 30 ∧
      (s.acting true .iabr).getLsbD 0 = s.msrIr := by
  simp only [State.iabrMatches, Bool.and_eq_true, decide_eq_true_eq, beq_iff_eq, and_assoc]

/-- At a boundary where nothing else happens the breakpoint comes first (R787, R792). -/
theorem step_of_iabrMatches {s : State} (h : s.atBoundary .running) (hint : s.interrupt = none)
    (hiabr : s.iabrMatches = true) :
    step s = afterTick (takeException .instructionAddressBreakpoint s.pc 0 s) := by
  obtain ⟨hreset, hmode, hle, hhid4⟩ := h
  simp [step, State.cycle, State.boundary, State.instruction, hreset, hmode, hle, hhid4, hint, hiabr]

section
variable {s : State} (hready : s.ready) (hile : s.msrIle = false)
include hready hile

theorem step_of_pageFault (h : s.translate .fetch s.pc = .pageFault) :
    step s = .next (s.entered .isi s.pc 0x40000000).ticked := by
  rw [step_of_ready hready, State.fetch, h]
  exact congrArg afterTick (takeException_of_ile hile)

theorem step_of_noExecute (h : s.translate .fetch s.pc = .noExecute) :
    step s = .next (s.entered .isi s.pc 0x10000000).ticked := by
  rw [step_of_ready hready, State.fetch, h]
  exact congrArg afterTick (takeException_of_ile hile)

theorem step_of_protection {wimg : BitVec 4} (h : s.translate .fetch s.pc = .protection wimg) :
    step s = .next (s.entered .isi s.pc 0x08000000).ticked := by
  rw [step_of_ready hready, State.fetch, h]
  exact congrArg afterTick (takeException_of_ile hile)

end

end Sys2Proof.Machine

namespace Sys2Proof.Storage

open Sys2Proof.Machine Sys2Proof.Laws

/-- Settles O16: the breakpoint is tested before the fetch, and what the translation of pc gives decides the cause. -/
theorem instructionBreakpoint : Obligations.InstructionBreakpoint := by
  intro s hboundary hile hint iabr hit seg sdr1 blocks isi
  have hready (hno : ¬hit) : s.ready :=
    ⟨hboundary, hint, Bool.eq_false_of_not_eq_true fun h => hno (State.iabrMatches_iff.1 h)⟩
  have hnot {w : Word} {j : Nat} (hw : w.getLsbD j = false) : ¬(Access.fetch = .fetch ∧ w.getLsbD j = true) :=
    fun h => Bool.false_ne_true (hw.symm.trans h.2)
  refine ⟨fun h => ?breakpoint, fun hno => step_of_ready (hready hno), fun hno hir b hblocks hwf => ?block,
    fun hno hir hblocks hdirect => ?page⟩
  case breakpoint =>
    rw [step_of_iabrMatches hboundary hint (State.iabrMatches_iff.2 h), takeException_of_ile hile]
    rfl
  case block =>
    have htranslate : s.translate .fetch s.pc = b.translate .fetch s.pc :=
      State.translate_block (k := .fetch) hir hblocks
    refine ⟨fun hguarded => ?_, fun hguarded hpp => ?_⟩
    · exact step_of_noExecute (hready hno) hile (htranslate.trans (Bat.translate_guarded hwf hguarded))
    · exact step_of_protection (hready hno) hile
        (htranslate.trans (Bat.translate_protected hwf (hnot hguarded) (.inl hpp)))
  case page =>
    have htranslate : s.translate .fetch s.pc = s.translatePaged .fetch s.pc :=
      State.translate_page (k := .fetch) hir hblocks
    refine ⟨fun hexec => ?_, fun hexec htable => ⟨fun hnone => ?_, fun a honly => ?_⟩⟩
    · exact step_of_noExecute (hready hno) hile
        (htranslate.trans (State.translatePaged_noExecute (k := .fetch) rfl hdirect rfl hexec))
    · exact step_of_pageFault (hready hno) hile (htranslate.trans
        (State.translatePaged_missing (k := .fetch) rfl hdirect rfl (hnot hexec) htable hnone))
    · have hfound := htranslate.trans
        (State.translatePaged_found (k := .fetch) rfl hdirect rfl (hnot hexec) htable honly)
      refine ⟨fun hguarded => ?_, fun hguarded hpp hkey => ?_⟩
      · rw [if_pos ⟨rfl, hguarded⟩] at hfound
        exact step_of_noExecute (hready hno) hile hfound
      · have hrefused : pageAllows (if s.userFor true then seg.getLsbD 29 else seg.getLsbD 30)
            ((s.wordAt (a + 4)).extractLsb' 0 2) .fetch = false := by
          rw [hkey, hpp]
          rfl
        rw [if_neg (hnot hguarded), if_neg (by exact ne_true_of_eq_false hrefused)] at hfound
        exact step_of_protection (hready hno) hile hfound

end Sys2Proof.Storage
end

section
/-! PROOFS. The family 20_memory.md: data accesses through blocks and pages (R113 to R118), and the DSI (R778). -/

namespace Sys2Proof.Machine

/-! ### Accesses that raise DSI -/

theorem raiseDsi_of_ile {s : State} (h : s.msrIle = false) (ea cause : Word) :
    raiseDsi ea cause s = .next (({ s with dar := ea, dsisr := cause } : State).entered .dsi s.pc 0) :=
  takeException_of_ile h

section
variable {s : State} {k : Access} {ea : Word}

theorem State.dataCheck_pageFault (h : s.translate k ea = .pageFault) :
    s.dataCheck k ea = .stop (raiseDsi ea (0x40000000 ||| storeBit k) s) := by
  rw [State.dataCheck, State.dataMap, h]
  rfl

theorem State.dataCheck_protection {wimg : BitVec 4} (h : s.translate k ea = .protection wimg) :
    s.dataCheck k ea = .stop (raiseDsi ea (0x08000000 ||| storeBit k) s) := by
  rw [State.dataCheck, State.dataMap, h]
  rfl

/-- An armed data address breakpoint matches (R778). -/
theorem State.dataCheck_breakpoint {m : Mapped} (h : s.translate k ea = .mapped m)
    (hmatch : s.dabrMatches k ea = true) :
    s.dataCheck k ea = .stop (raiseDsi ea (0x00400000 ||| storeBit k) s) := by
  rw [State.dataCheck, State.dataMap, h]
  simp only [Res.bind_ok, hmatch, if_true]

/-- With none armed the mapping is what the access uses. -/
theorem State.dataCheck_mapped {m : Mapped} (h : s.translate k ea = .mapped m) (hwatch : s.unwatched) :
    s.dataCheck k ea = .ok m s := by
  rw [State.dataCheck, State.dataMap, h]
  simp only [Res.bind_ok, State.dabrMatches_off hwatch]
  rfl

/-- The first part of an access starts at its address. -/
theorem accessParts_head (ea : Word) (n : Nat) : ∃ m rest, accessParts ea n = (ea, m) :: rest := by
  unfold accessParts
  dsimp only
  split
  · exact ⟨_, _, rfl⟩
  · exact ⟨_, _, rfl⟩

/-- An access that lies in one page is one part. -/
theorem accessParts_one {n : Nat} (h : ea.toNat % 4096 + n ≤ 4096) : accessParts ea n = [(ea, n)] := if_pos (by omega)

theorem State.memRead_of_dataCheck {o : Out} (h : s.dataCheck .load ea = .stop o) (n : Nat) :
    s.memRead ea n = .stop o := by
  obtain ⟨m, rest, hparts⟩ := accessParts_head ea n
  rw [State.memRead, hparts, State.readParts, State.checkPart, State.mapPart, h]
  rfl

theorem State.memWrite_of_dataCheck {o : Out} (h : s.dataCheck .store ea = .stop o) (n : Nat) (v : BitVec 64) :
    s.memWrite ea n v = .stop o := by
  obtain ⟨m, rest, hparts⟩ := accessParts_head ea n
  rw [State.memWrite, hparts, State.writeParts, State.checkPart, State.mapPart, h]
  rfl

/-! ### Accesses in one page that pass their checks -/

section
variable {m : Mapped} {n : Nat} (hpart : ea.toNat % 4096 + n ≤ 4096)
include hpart

theorem State.memRead_of_mapped (hmap : s.dataCheck .load ea = .ok m s)
    (hregion : s.regionCheck .load m n (alignedTo ea n) = .ok () s) :
    s.memRead ea n =
      .ok (beValue ((s.touch .load m.pte).loaded m n)) ((s.touch .load m.pte).afterLoad m n) := by
  rw [State.memRead, accessParts_one hpart, State.readParts, State.checkPart, State.mapPart, hmap, Res.bind_ok, hregion]
  simp [State.readParts]

theorem State.memWrite_of_mapped (hmap : s.dataCheck .store ea = .ok m s)
    (hregion : s.regionCheck .store m n (alignedTo ea n) = .ok () s) (v : BitVec 64) :
    s.memWrite ea n v = .ok () ((s.touch .store m.pte).afterStore m (beBytes n v)) := by
  rw [State.memWrite, accessParts_one hpart, State.writeParts, State.checkPart, State.mapPart, hmap, Res.bind_ok,
    hregion]
  simp [State.writeParts, List.take_of_length_le]

end

end

/-! ### Loads and stores -/

section
variable {s : State} {ea : Word} {n : Nat}

theorem State.load_of_stop {o : Out} (h : s.dataCheck .load ea = .stop o) (convert : BitVec 64 → Word) (rD : Reg) :
    s.load ea n convert rD = o := by
  rw [State.load, State.memRead_of_dataCheck h]
  rfl

theorem State.store_of_stop {o : Out} (h : s.dataCheck .store ea = .stop o) (v : Word) : s.store ea n v = o := by
  rw [State.store, State.memWrite_of_dataCheck h]
  rfl

/-- A load whose check raises DSI. -/
theorem State.load_dsi (hile : s.msrIle = false) {cause : Word}
    (h : s.dataCheck .load ea = .stop (raiseDsi ea cause s)) (convert : BitVec 64 → Word) (rD : Reg) :
    s.load ea n convert rD = .next (({ s with dar := ea, dsisr := cause } : State).entered .dsi s.pc 0) :=
  (State.load_of_stop h convert rD).trans (raiseDsi_of_ile hile ea cause)

theorem State.store_dsi (hile : s.msrIle = false) {cause : Word}
    (h : s.dataCheck .store ea = .stop (raiseDsi ea cause s)) (v : Word) :
    s.store ea n v = .next (({ s with dar := ea, dsisr := cause } : State).entered .dsi s.pc 0) :=
  (State.store_of_stop h v).trans (raiseDsi_of_ile hile ea cause)

theorem State.load_of_read {v : BitVec 64} {t : State} (h : s.memRead ea n = .ok v t) (hse : t.msrSe = false)
    (convert : BitVec 64 → Word) (rD : Reg) : s.load ea n convert rD = .next (t.setX rD (convert v)).ended := by
  rw [State.load, h]
  exact retire_untraced hse

theorem State.store_of_write {v : Word} {t : State} (h : s.memWrite ea n (v.setWidth 64) = .ok () t)
    (hse : t.msrSe = false) : s.store ea n v = .next t.ended := by
  rw [State.store, h]
  exact retire_untraced hse

end

/-! ### Reference and change bits (R118) -/

theorem State.touch_msr (s : State) (k : Access) (p : Option Word) : (s.touch k p).msr = s.msr := by
  cases p <;> rfl

/-- A bit that is set already. -/
theorem or_twoPow_of_getLsbD {w i : Nat} {v : BitVec w} (h : v.getLsbD i = true) : v ||| BitVec.twoPow w i = v := by
  refine BitVec.eq_of_getLsbD_eq fun j _ => ?_
  rw [BitVec.getLsbD_or, BitVec.getLsbD_twoPow]
  by_cases hij : i = j
  · rw [← hij, h]
    rfl
  · simp [hij]

/-- Setting bits of a byte of memory, where they are not set already. -/
theorem Memory.read_of_set {m m' : Memory} {p : Nat} {bits : Byte}
    (h : m' = m.write p (m.read p ||| bits) ∨ (m' = m ∧ m.read p ||| bits = m.read p)) (x : Nat) :
    m'.read x = if x = p then m.read x ||| bits else m.read x := by
  obtain rfl | ⟨rfl, hset⟩ := h
  · rw [Memory.read_write]
    split
    · rw [‹x = p›]
    · rfl
  · split
    · rw [‹x = p›, hset]
    · rfl

/-- What marking an entry does to memory: R is set, and C by a store. -/
theorem State.read_touch (s : State) (k : Access) (a : Word) (x : Nat) :
    (s.touch k (some a)).mem.read x =
      if x = byteAt a 2 then s.mem.read x ||| 0x01
      else if k = .store ∧ x = byteAt a 3 then s.mem.read x ||| 0x80 else s.mem.read x := by
  have hne : byteAt a 3 ≠ byteAt a 2 := fun h => absurd (byteAt_inj (by decide) (by decide) h) (by decide)
  obtain ⟨m, hm⟩ : ∃ m, m = if (s.mem.read (byteAt a 2)).getLsbD 0 then s.mem
      else s.mem.write (byteAt a 2) (s.mem.read (byteAt a 2) ||| 0x01) := ⟨_, rfl⟩
  have href : ∀ y, m.read y = if y = byteAt a 2 then s.mem.read y ||| 0x01 else s.mem.read y := by
    refine Memory.read_of_set ?_
    rw [hm]
    split
    · exact .inr ⟨rfl, or_twoPow_of_getLsbD (i := 0) ‹_›⟩
    · exact .inl rfl
  have hother : m.read (byteAt a 3) = s.mem.read (byteAt a 3) := (href _).trans (if_neg hne)
  have hmem : (s.touch k (some a)).mem = if k = .store ∧ !(s.mem.read (byteAt a 3)).getLsbD 7
      then m.write (byteAt a 3) (s.mem.read (byteAt a 3) ||| 0x80) else m := by
    rw [hm]
    rfl
  by_cases hk : k = .store
  · have hchange := Memory.read_of_set (m := m) (m' := (s.touch k (some a)).mem) (p := byteAt a 3) (bits := 0x80) ?_ x
    · rw [hchange, href]
      by_cases hx : x = byteAt a 2
      · simp [hx, hne.symm]
      · simp [hx, hk]
    · rw [hmem, hother]
      by_cases hbit : (s.mem.read (byteAt a 3)).getLsbD 7 = true
      · exact .inr ⟨if_neg (by simp [hbit]), or_twoPow_of_getLsbD (i := 7) hbit⟩
      · exact .inl (if_pos ⟨hk, by simpa using hbit⟩)
  · rw [hmem, if_neg fun h => hk h.1, href]
    simp [hk]

/-! ### Accesses to RAM and to devices (R100, R108) -/

theorem wordBytes_wordOfBytes (b0 b1 b2 b3 : Byte) : wordBytes (wordOfBytes b0 b1 b2 b3) = [b0, b1, b2, b3] := by
  have hbyte {k : Nat} {b : Byte} (h : ∀ i < 8, (wordOfBytes b0 b1 b2 b3).getLsbD (k + i) = b.getLsbD i) :
      (wordOfBytes b0 b1 b2 b3).extractLsb' k 8 = b := by
    refine BitVec.eq_of_getLsbD_eq fun i hi => ?_
    rw [BitVec.getLsbD_extractLsb', h i hi, decide_eq_true hi, Bool.true_and]
  have hbit (j : Nat) : (wordOfBytes b0 b1 b2 b3).getLsbD j = if j < 8 then b3.getLsbD j else
      if j - 8 < 8 then b2.getLsbD (j - 8) else if j - 8 - 8 < 8 then b1.getLsbD (j - 8 - 8)
      else b0.getLsbD (j - 8 - 8 - 8) := by simp only [wordOfBytes, BitVec.getLsbD_append]
  rw [wordBytes, hbyte (b := b0), hbyte (b := b1), hbyte (b := b2), hbyte (b := b3)]
  all_goals
    intro i hi
    rw [hbit]
    grind

/-- A device that is inhibited and guarded takes an aligned access (R108). -/
theorem State.regionCheck_device {s : State} {k : Access} {m : Mapped} {n : Nat} (hdevice : s.allOf .device m.pa n)
    (hinhibited : m.inhibited = true) (hguarded : m.guarded = true) : s.regionCheck k m n true = .ok () s := by
  have hall : ∀ x ∈ s.kindsOf m.pa n, x = .device := fun x hx => by
    obtain ⟨i, hi, rfl⟩ := List.mem_map.1 hx
    exact hdevice i (List.mem_range.1 hi)
  have habsent := State.not_mem_kindsOf hdevice (k := .absent) (by decide)
  have hrom := State.not_mem_kindsOf hdevice (k := .rom) (by decide)
  rw [State.regionCheck, if_neg habsent, hinhibited, hguarded, if_neg (by simp), decide_eq_true hall, if_neg (by simp),
    if_neg fun h => hrom h.1]

theorem State.toDevice_device {s : State} {m : Mapped} {n : Nat} (hdevice : s.allOf .device m.pa n) (hn : 0 < n) :
    s.toDevice m n = true :=
  decide_eq_true (List.mem_map.2 ⟨0, List.mem_range.2 hn, hdevice 0 hn⟩)

section
variable {s : State} {ea : Word} {n : Nat} {m : Mapped} (hpart : ea.toNat % 4096 + n ≤ 4096) (hwatch : s.unwatched)
  (hse : s.msrSe = false)
include hpart hwatch hse

/-- A load from RAM through a mapping: its entry is marked, and the bytes are those of memory. -/
theorem State.load_ram (hmap : s.translate .load ea = .mapped m) (hram : s.allOf .ram m.pa n)
    (hold : s.unmixed m.pa n m.attr) (convert : BitVec 64 → Word) (rD : Reg) :
    s.load ea n convert rD = .next ((s.touch .load m.pte).setX rD
      (convert (beValue ((s.touch .load m.pte).mem.readBytes m.pa n)))).ended := by
  have hread := State.memRead_of_mapped hpart (State.dataCheck_mapped hmap hwatch) (State.regionCheck_ram hram)
  rw [s.touch_frame] at hread ⊢
  obtain ⟨hloaded, hstate⟩ := State.loaded_plain (s := { s with mem := (s.touch .load m.pte).mem }) hram hold
  rw [hloaded, hstate] at hread
  exact State.load_of_read hread hse convert rD

/-- A store to RAM through a mapping. -/
theorem State.store_ram (hmap : s.translate .store ea = .mapped m) (hram : s.allOf .ram m.pa n) (v : Word) :
    s.store ea n v = .next ((s.touch .store m.pte).storePhys m (beBytes n (v.setWidth 64))).ended := by
  have hwrite := State.memWrite_of_mapped hpart (State.dataCheck_mapped hmap hwatch) (State.regionCheck_ram hram)
    (v.setWidth 64)
  rw [State.afterStore_ram] at hwrite
  · have hmsr : ((s.touch .store m.pte).storePhys m (beBytes n (v.setWidth 64))).msr = s.msr :=
      (State.storePhys_msr ..).trans (s.touch_msr ..)
    exact State.store_of_write hwrite ((congrArg (·.getLsbD 10) hmsr).trans hse)
  · rw [s.touch_frame, beBytes_length]
    exact hram

end

section
variable {s : State} {ea : Word} {m : Mapped} (hpart : ea.toNat % 4096 + 4 ≤ 4096) (hwatch : s.unwatched)
  (hse : s.msrSe = false) (haligned : ea.toNat % 4 = 0) (hdevice : s.allOf .device m.pa 4)
  (hinhibited : m.inhibited = true) (hguarded : m.guarded = true) (hpte : m.pte = none)
include hpart hwatch hse haligned hdevice hinhibited hguarded hpte

/-- A device is read once. -/
theorem State.load_device (hmap : s.translate .load ea = .mapped m) (rD : Reg) :
    ∃ w, s.load ea 4 zeroExtended rD =
      .next (({ s with bus := ⟨false, m.pa, wordBytes w⟩ :: s.bus } : State).setX rD w).ended := by
  have hread := State.memRead_of_mapped hpart (State.dataCheck_mapped hmap hwatch)
    (alignedTo_of_mod haligned ▸ State.regionCheck_device hdevice hinhibited hguarded)
  rw [hpte, State.touch_none, State.afterLoad, State.toDevice_device hdevice (by decide), if_pos rfl] at hread
  obtain ⟨b0, b1, b2, b3, hbytes⟩ : ∃ b0 b1 b2 b3, s.loaded m 4 = [b0, b1, b2, b3] := ⟨_, _, _, _, rfl⟩
  refine ⟨wordOfBytes b0 b1 b2 b3, ?_⟩
  rw [hbytes] at hread
  rw [State.load_of_read hread hse, zeroExtended, beValue_four, wordBytes_wordOfBytes]

/-- A device is written once. -/
theorem State.store_device (hmap : s.translate .store ea = .mapped m) (v : Word) :
    s.store ea 4 v = .next ({ s with bus := ⟨true, m.pa, wordBytes v⟩ :: s.bus } : State).ended := by
  have hwrite := State.memWrite_of_mapped hpart (State.dataCheck_mapped hmap hwatch)
    (alignedTo_of_mod haligned ▸ State.regionCheck_device hdevice hinhibited hguarded) (v.setWidth 64)
  rw [hpte, State.touch_none, beBytes_four, State.afterStore,
    if_pos (show s.toDevice m (wordBytes v).length = true from State.toDevice_device hdevice (Nat.succ_pos 3))]
    at hwrite
  exact State.store_of_write hwrite hse

end

/-! ### Attributes and protection (R108, R117) -/

section
variable (w : Word)

theorem attr_of_wimg {pa : Word} {pte : Option Word} :
    (⟨pa, w.extractLsb' 3 4, pte⟩ : Mapped).attr = w.extractLsb' 5 2 := by
  refine BitVec.eq_of_getLsbD_eq fun i hi => ?_
  simp only [Mapped.attr, BitVec.getLsbD_extractLsb']
  grind

theorem inhibited_of_wimg {pa : Word} {pte : Option Word} :
    (⟨pa, w.extractLsb' 3 4, pte⟩ : Mapped).inhibited = w.getLsbD 5 := by
  simp only [Mapped.inhibited, BitVec.getLsbD_extractLsb']
  rfl

theorem guarded_of_wimg {pa : Word} {pte : Option Word} :
    (⟨pa, w.extractLsb' 3 4, pte⟩ : Mapped).guarded = w.getLsbD 3 := by
  simp only [Mapped.guarded, BitVec.getLsbD_extractLsb']
  rfl

end

theorem pageAllows_load (key : Bool) (pp : BitVec 2) : pageAllows key pp .load = true ↔ ¬(key = true ∧ pp = 0) := by
  decide +revert

theorem pageAllows_store (key : Bool) (pp : BitVec 2) :
    pageAllows key pp .store = true ↔ ¬(pp = 3 ∨ (key = true ∧ pp ≠ 2)) := by
  decide +revert

/-- The offset in the smallest block is kept (R113). -/
theorem Bat.physical_low (b : Bat) (ea : Word) {i : Nat} (hi : i < 17) :
    (b.physical ea).getLsbD i = ea.getLsbD i := by
  simp only [Bat.physical, BitVec.getLsbD_append, BitVec.getLsbD_extractLsb', if_pos hi, decide_eq_true hi]
  simp

/-! ### Accesses to RAM through a page (R118) -/

section
variable {s : State} {ea pa a : Word} {wimg : BitVec 4} (hpart : ea.toNat % 4096 + 4 ≤ 4096) (hwatch : s.unwatched)
  (hse : s.msrSe = false) (hram : s.allOf .ram pa 4)
include hpart hwatch hse hram

/-- A load sets R in the page's entry at `a`. -/
theorem State.load_page (hmap : s.translate .load ea = .mapped ⟨pa, wimg, some (a + 4)⟩)
    (hold : s.unmixed pa 4 (⟨pa, wimg, some (a + 4)⟩ : Mapped).attr) (rD : Reg) :
    ∃ t, s.load ea 4 zeroExtended rD = .next t ∧
      t = ({ s with mem := t.mem } : State).ended.setX rD (t.wordAt pa) ∧
      ∀ x, t.mem.read x = if x = byteAt a 6 then s.mem.read x ||| 0x01 else s.mem.read x := by
  have href : byteAt (a + 4) 2 = byteAt a 6 := byteAt_add a 4 2
  have hload := State.load_ram hpart hwatch hse hmap hram hold zeroExtended rD
  rw [zeroExtended_readBytes_four] at hload
  refine ⟨_, hload, rfl, fun x => ?_⟩
  refine (s.read_touch .load (a + 4) x).trans ?_
  rw [href]
  simp

/-- A store sets R and C there. -/
theorem State.store_page (hmap : s.translate .store ea = .mapped ⟨pa, wimg, some (a + 4)⟩) (v : Word) :
    ∃ t, s.store ea 4 v = .next t ∧
      t = ({ s with mem := t.mem, stale := t.stale, dirty := t.dirty, tables := t.tables } : State).ended ∧
      (∀ i (h : i < 4), t.byte pa i = (wordBytes v)[i]) ∧
      ∀ x, (∀ i < 4, x ≠ byteAt pa i) → t.mem.read x =
        if x = byteAt a 6 then s.mem.read x ||| 0x01 else
        if x = byteAt a 7 then s.mem.read x ||| 0x80 else s.mem.read x := by
  have href : byteAt (a + 4) 2 = byteAt a 6 := byteAt_add a 4 2
  have hchange : byteAt (a + 4) 3 = byteAt a 7 := byteAt_add a 4 3
  have hstore := State.store_ram hpart hwatch hse hmap hram v
  rw [beBytes_four] at hstore
  obtain ⟨hbytes, hothers, hframe⟩ := storeEnds_storePhys (s := s.touch .store (some (a + 4)))
    (m := ⟨pa, wimg, some (a + 4)⟩) (bs := wordBytes v) (by rw [← beBytes_four, beBytes_length]; decide)
  refine ⟨_, hstore, ?_, hbytes, fun x hx => ?_⟩
  · rfl
  · rw [hothers x hx, State.read_touch, href, hchange]
    simp

end

end Sys2Proof.Machine
end

section
/-! PROOFS. The family 20_memory.md: the obligation about data storage. -/

namespace Sys2Proof.Storage

open Sys2Proof.Machine Sys2Proof.Laws

/-- Settles O17: what the translation of the address gives, by a block or by the page's entry, decides the access. -/
theorem dataStorage : Obligations.DataStorage := by
  intro s rD rA d hile ea lwz stw dsi blocks seg sdr1 free
  have hlwz : lwz = s.load ea 4 zeroExtended rD := rfl
  have hstw : stw = s.store ea 4 (s.x rD) := rfl
  have hpart (hroom : ea.toNat % 4096 ≤ 4092) : ea.toNat % 4096 + 4 ≤ 4096 := Nat.add_le_add_right hroom 4
  have hwords : (wordBytes (s.x rD)).length ≤ 2 ^ 32 := by
    rw [← beBytes_four, beBytes_length]
    decide
  rw [hlwz, hstw]
  refine ⟨fun b hdr hblocks hwf => ?block, fun hdr hblocks hdirect hready => ?page,
    fun hdr hmatch htranslating harmed => ?breakpoint⟩
  case block =>
    intro pa
    have hload : s.translate .load ea = b.translate .load ea := State.translate_block (k := .load) hdr hblocks
    have hstore : s.translate .store ea = b.translate .store ea := State.translate_block (k := .store) hdr hblocks
    have hmapped (hpp : b.lower.extractLsb' 0 2 ≠ 0) :
        s.translate .load ea = .mapped ⟨pa, b.lower.extractLsb' 3 4, none⟩ :=
      hload.trans (Bat.translate_mapped hwf nofun fun h => h.elim hpp nofun)
    have hmapped' (hpp : b.lower.extractLsb' 0 2 = 2) :
        s.translate .store ea = .mapped ⟨pa, b.lower.extractLsb' 3 4, none⟩ :=
      hstore.trans (Bat.translate_mapped hwf nofun (by simp [hpp]))
    refine ⟨fun hpp => ?_, fun hpp => ?_, fun i hi => b.physical_low ea hi,
      fun hpp ⟨hse, hwatch, hroom⟩ hram hold => ?_, fun hpp ⟨hse, hwatch, hroom⟩ hram => ?_,
      fun hinhibited hguarded ⟨hse, hwatch, hroom⟩ haligned hdevice => ⟨fun hpp => ?_, fun hpp => ?_⟩⟩
    · exact State.load_dsi hile
        (State.dataCheck_protection (hload.trans (Bat.translate_protected hwf nofun (.inl hpp)))) _ _
    · exact State.store_dsi hile
        (State.dataCheck_protection (hstore.trans (Bat.translate_protected hwf nofun (.inr ⟨rfl, hpp⟩)))) _
    · rw [State.load_ram (hpart hroom) hwatch hse (hmapped hpp) hram (by rwa [attr_of_wimg]),
        State.touch_none, zeroExtended_readBytes_four]
    · rw [State.store_ram (hpart hroom) hwatch hse (hmapped' hpp) hram, State.touch_none, beBytes_four]
      exact ⟨_, rfl, storeEnds_storePhys (m := ⟨pa, b.lower.extractLsb' 3 4, none⟩) hwords⟩
    · exact State.load_device (m := ⟨pa, b.lower.extractLsb' 3 4, none⟩) (hpart hroom) hwatch hse haligned hdevice
        (by rwa [inhibited_of_wimg]) (by rwa [guarded_of_wimg]) rfl (hmapped hpp) rD
    · exact State.store_device (m := ⟨pa, b.lower.extractLsb' 3 4, none⟩) (hpart hroom) hwatch hse haligned hdevice
        (by rwa [inhibited_of_wimg]) (by rwa [guarded_of_wimg]) rfl (hmapped' hpp) _
  case page =>
    have hload : s.translate .load ea = s.translatePaged .load ea := State.translate_page (k := .load) hdr hblocks
    have hstore : s.translate .store ea = s.translatePaged .store ea := State.translate_page (k := .store) hdr hblocks
    refine ⟨fun hnone => ⟨?_, ?_⟩, fun a honly => ?entry⟩
    · exact State.load_dsi hile (State.dataCheck_pageFault
        (hload.trans (State.translatePaged_missing (k := .load) rfl hdirect rfl nofun hready hnone))) _ _
    · exact State.store_dsi hile (State.dataCheck_pageFault
        (hstore.trans (State.translatePaged_missing (k := .store) rfl hdirect rfl nofun hready hnone))) _
    case entry =>
      intro w1 pa pp key
      have hload' : s.translate .load ea =
          if pageAllows key pp .load then .mapped ⟨pa, w1.extractLsb' 3 4, some (a + 4)⟩
          else .protection (w1.extractLsb' 3 4) :=
        hload.trans
          ((State.translatePaged_found (k := .load) rfl hdirect rfl nofun hready honly).trans (if_neg nofun))
      have hstore' : s.translate .store ea =
          if pageAllows key pp .store then .mapped ⟨pa, w1.extractLsb' 3 4, some (a + 4)⟩
          else .protection (w1.extractLsb' 3 4) :=
        hstore.trans
          ((State.translatePaged_found (k := .store) rfl hdirect rfl nofun hready honly).trans (if_neg nofun))
      refine ⟨fun hrefused => ?_, fun hrefused => ?_,
        fun hallowed ⟨hse, hwatch, hroom⟩ hram hold => ?_, fun hallowed ⟨hse, hwatch, hroom⟩ hram => ?_⟩
      · rw [if_neg fun h => (pageAllows_load key pp).1 h hrefused] at hload'
        exact State.load_dsi hile (State.dataCheck_protection hload') _ _
      · rw [if_neg fun h => (pageAllows_store key pp).1 h hrefused] at hstore'
        exact State.store_dsi hile (State.dataCheck_protection hstore') _
      · rw [if_pos ((pageAllows_load key pp).2 hallowed)] at hload'
        exact State.load_page (hpart hroom) hwatch hse hram hload' (by rwa [attr_of_wimg]) rD
      · rw [if_pos ((pageAllows_store key pp).2 hallowed)] at hstore'
        exact State.store_page (hpart hroom) hwatch hse hram hstore' _
  case breakpoint =>
    have hmapped : s.translate .load ea = .mapped (realMode .load ea) := State.translate_real (k := .load) hdr ea
    refine State.load_dsi hile (State.dataCheck_breakpoint hmapped ?_) _ _
    simp only [State.dabrMatches, hmatch, htranslating, harmed, hdr]
    simp

end Sys2Proof.Storage
end

section
/-! PROOFS. The family 30_encoding.md: what the subfields of a word read as, and which words the lookups refuse. -/

namespace Sys2Proof

/-! ### Subfields of the five-bit fields (R151) -/

theorem fieldCrfD_eq (w : Word) : fieldCrfD w = (fieldD w).extractLsb' 2 3 := by
  ext i hi
  simp [fieldCrfD, fieldD, show 2 + i < 5 by omega, ← Nat.add_assoc]

theorem bitL_eq (w : Word) : bitL w = (fieldD w)[0] := by
  simp [bitL, fieldD]

theorem fieldCrfS_eq (w : Word) : fieldCrfS w = (fieldA w).extractLsb' 2 3 := by
  ext i hi
  simp [fieldCrfS, fieldA, show 2 + i < 5 by omega, ← Nat.add_assoc]

theorem fieldSr_eq (w : Word) : fieldSr w = (fieldA w).extractLsb' 0 4 := by
  ext i hi
  simp [fieldSr, fieldA, show i < 5 by omega]

theorem fieldImm_eq (w : Word) : fieldImm w = (fieldB w).extractLsb' 1 4 := by
  ext i hi
  simp [fieldImm, fieldB, show 1 + i < 5 by omega, ← Nat.add_assoc]

/-- crfD and crfS: above two reserved bits. -/
@[simp] theorem extractLsb'_crf (crf : CrField) : (crf ++ 0#2).extractLsb' 2 3 = crf :=
  BitVec.extractLsb'_append_eq_left

/-- SR: below a reserved bit. -/
@[simp] theorem extractLsb'_sr (sr : BitVec 4) : (0#1 ++ sr).extractLsb' 0 4 = sr :=
  BitVec.extractLsb'_append_eq_right

/-- IMM: above a reserved bit. -/
@[simp] theorem extractLsb'_imm (imm : BitVec 4) : (imm ++ 0#1).extractLsb' 1 4 = imm :=
  BitVec.extractLsb'_append_eq_left

/-- crfD of a compare: above a reserved bit and L. -/
@[simp] theorem extractLsb'_crfD_l (crfD : CrField) (l : Bool) :
    (crfD ++ 0#1 ++ BitVec.ofBool l).extractLsb' 2 3 = crfD := by
  decide +revert

/-- L of a compare: below crfD and a reserved bit. -/
@[simp] theorem getElem_crfD_l (crfD : CrField) (l : Bool) : (crfD ++ 0#1 ++ BitVec.ofBool l)[0] = l := by
  decide +revert

/-! ### The middle field of the XFX-form (R158, R165 (j)) -/

@[simp] theorem swapHalves_swapHalves (n : BitVec 10) : swapHalves (swapHalves n) = n := by
  ext i hi
  simp [swapHalves]
  grind

@[simp] theorem fieldSpr_xfxForm (op : BitVec 6) (d : BitVec 5) (mid xo : BitVec 10) :
    fieldSpr (xfxForm op d mid xo) = swapHalves mid := by
  have hlow : (xfxForm op d mid xo).extractLsb' 11 5 = mid.extractLsb' 0 5 := by
    ext i hi; simp [xfxForm, put]; interval_cases i <;> simp
  have hhigh : (xfxForm op d mid xo).extractLsb' 16 5 = mid.extractLsb' 5 5 := by
    ext i hi; simp [xfxForm, put]; interval_cases i <;> simp
  rw [fieldSpr, hlow, hhigh, swapHalves]

@[simp] theorem fieldCrm_xfxForm (op : BitVec 6) (d : BitVec 5) (mid xo : BitVec 10) :
    fieldCrm (xfxForm op d mid xo) = mid.extractLsb' 1 8 := by
  simp only [fieldCrm]; ext i hi; simp [xfxForm, put]; interval_cases i <;> simp

/-- CRM: between two reserved bits. -/
@[simp] theorem extractLsb'_crm (crm : BitVec 8) : (0#1 ++ crm ++ 0#1).extractLsb' 1 8 = crm := by
  decide +revert

/-! ### The lookup of each primary opcode (R166, R171 to R175) -/

section
variable {w : Word}

theorem decode_of_opcd_4 (h : opcd w = 4) : decode w = decode4 w := by rw [decode, h]; rfl
theorem decode_of_opcd_17 (h : opcd w = 17) : decode w = if bit1 w then some .sc else none := by rw [decode, h]; rfl
theorem decode_of_opcd_19 (h : opcd w = 19) : decode w = decode19 w := by rw [decode, h]; rfl
theorem decode_of_opcd_31 (h : opcd w = 31) : decode w = decode31 w := by rw [decode, h]; rfl
theorem decode_of_opcd_59 (h : opcd w = 59) : decode w = decode59 w := by rw [decode, h]; rfl
theorem decode_of_opcd_63 (h : opcd w = 63) : decode w = decode63 w := by rw [decode, h]; rfl

/-- The primary opcodes that have no row (R182, R183). -/
theorem decode_eq_none_of_opcd (h : opcd w ∈ [2, 30, 58, 62] ∨ opcd w ∈ [0, 1, 5, 6, 9, 22]) :
    decode w = none := by
  unfold decode
  split
  pick_goal -1
  · rfl
  all_goals
    rename_i hop
    rw [hop] at h
    exact absurd h (by decide)

/-- The extended opcodes of primary opcode 19 (R171). -/
def xo10Codes19 : List Nat := [0, 16, 33, 50, 129, 150, 193, 225, 257, 289, 417, 449, 528]

theorem decode19_eq_none (h : xo10 w ∉ xo10Codes19) : decode19 w = none := by
  unfold decode19
  split
  pick_goal -1
  · rfl
  all_goals exact absurd (Eq.symm ‹_›) (ne_of_mem_of_not_mem (by decide) h)

/-- The ten-bit extended opcodes of primary opcode 31 (R172). -/
def xo10Codes31 : List Nat :=
  [0, 4, 19, 20, 23, 24, 26, 28, 32, 54, 55, 60, 83, 86, 87, 119, 124, 144, 146, 150, 151, 183, 210, 215, 242, 246,
    247, 278, 279, 284, 306, 310, 311, 316, 339, 343, 370, 371, 375, 407, 412, 438, 439, 444, 467, 470, 476, 512, 533,
    534, 535, 536, 566, 567, 595, 597, 598, 599, 631, 659, 661, 662, 663, 695, 725, 727, 759, 790, 792, 824, 854, 918,
    922, 954, 982, 983, 1014]

/-- The nine-bit extended opcodes of primary opcode 31 (R172). -/
def xo9Codes31 : List Nat := [8, 10, 11, 40, 75, 104, 136, 138, 200, 202, 232, 234, 235, 266, 459, 491]

theorem decode31_eq_decode31Xo (h : xo10 w ∉ xo10Codes31) : decode31 w = decode31Xo w := by
  unfold decode31
  split
  pick_goal -1
  · rfl
  all_goals exact absurd (Eq.symm ‹_›) (ne_of_mem_of_not_mem (by decide) h)

theorem decode31Xo_eq_none (h : xo9 w ∉ xo9Codes31) : decode31Xo w = none := by
  unfold decode31Xo
  split
  pick_goal -1
  · rfl
  all_goals exact absurd (Eq.symm ‹_›) (ne_of_mem_of_not_mem (by decide) h)

/-- The five-bit extended opcodes of primary opcode 59 (R173). -/
def xo5Codes59 : List Nat := [18, 20, 21, 22, 24, 25, 28, 29, 30, 31]

theorem decode59_eq_none (h : xo5 w ∉ xo5Codes59) : decode59 w = none := by
  unfold decode59
  split
  pick_goal -1
  · rfl
  all_goals exact absurd (Eq.symm ‹_›) (ne_of_mem_of_not_mem (by decide) h)

/-- The five-bit extended opcodes of primary opcode 63 (R174). -/
def xo5Codes63 : List Nat := [18, 20, 21, 22, 23, 25, 26, 28, 29, 30, 31]

/-- The ten-bit extended opcodes of primary opcode 63 (R174). -/
def xo10Codes63 : List Nat := [0, 12, 14, 15, 32, 38, 40, 64, 70, 72, 134, 136, 264, 583, 711]

theorem decode63_eq_none (h5 : xo5 w ∉ xo5Codes63) (h10 : xo10 w ∉ xo10Codes63) : decode63 w = none := by
  unfold decode63
  split
  pick_goal -1
  · split
    pick_goal -1
    · rfl
    all_goals exact absurd (Eq.symm ‹_›) (ne_of_mem_of_not_mem (by decide) h10)
  all_goals exact absurd (Eq.symm ‹_›) (ne_of_mem_of_not_mem (by decide) h5)

/-- The five-bit extended opcodes of primary opcode 4 (R175). -/
def xo5Codes4 : List Nat := [10, 11, 12, 13, 14, 15, 18, 20, 21, 23, 24, 25, 26, 28, 29, 30, 31]

/-- The six-bit extended opcodes of primary opcode 4 (R175). -/
def xo6Codes4 : List Nat := [6, 7, 38, 39]

/-- The ten-bit extended opcodes of primary opcode 4 (R175). -/
def xo10Codes4 : List Nat := [0, 32, 40, 64, 72, 96, 136, 264, 528, 560, 592, 624, 1014]

theorem decode4_eq_none (h5 : xo5 w ∉ xo5Codes4) (h6 : xo6 w ∉ xo6Codes4) (h10 : xo10 w ∉ xo10Codes4) :
    decode4 w = none := by
  unfold decode4
  split
  pick_goal -1
  · split
    pick_goal -1
    · split
      pick_goal -1
      · rfl
      all_goals exact absurd (Eq.symm ‹_›) (ne_of_mem_of_not_mem (by decide) h10)
    all_goals exact absurd (Eq.symm ‹_›) (ne_of_mem_of_not_mem (by decide) h6)
  all_goals exact absurd (Eq.symm ‹_›) (ne_of_mem_of_not_mem (by decide) h5)

end

/-! ### Round trip (R166, R184, R185) -/

/-- An XO-form word is looked up by its XO9 where OE and XO9 together make no ten-bit code. -/
theorem decode_xoForm (d a b : BitVec 5) (oe : Bool) {xo : BitVec 9} (rc : Bool)
    (hxo : ∀ oe, (BitVec.ofBool oe ++ xo).toNat ∉ xo10Codes31) :
    decode (xoForm 31 d a b oe xo rc) = decode31Xo (xoForm 31 d a b oe xo rc) :=
  (decode_of_opcd_31 (opcd_xoForm ..)).trans (decode31_eq_decode31Xo (xo10_xoForm 31 d a b oe xo rc ▸ hxo oe))

/-- No operand bit is dropped: in each form the lookup finds the instruction's row, and the row's fields read as the
operands. -/
theorem decode_encode (i : Instr) : decode (encode i) = some i := by
  cases i with
  | addi | addic | addic_rc | addis | subfic | mulli | andi_rc | andis_rc | ori | oris | xori | xoris | cmpi | cmpli
  | lbz | lbzu | stb | stbu | lhz | lhzu | lha | lhau | sth | sthu | lwz | lwzu | stw | stwu | lmw | stmw | lfd | lfdu
  | lfs | lfsu | stfd | stfdu | stfs | stfsu | twi =>
    change decode (dForm _ _ _ _) = _
    rw [decode, opcd_dForm]
    change some _ = some _
    simp [fieldCrfD_eq, bitL_eq]
  | b =>
    change decode (iForm _ _ _ _) = _
    rw [decode, opcd_iForm]
    change some _ = some _
    simp
  | bc =>
    change decode (bForm _ _ _ _ _ _) = _
    rw [decode, opcd_bForm]
    change some _ = some _
    simp
  | rlwimi | rlwinm | rlwnm =>
    change decode (mForm _ _ _ _ _ _ _) = _
    rw [decode, opcd_mForm]
    change some _ = some _
    simp
  | psq_l | psq_lu | psq_st | psq_stu =>
    change decode (dqForm _ _ _ _ _ _) = _
    rw [decode, opcd_dqForm]
    change some _ = some _
    simp
  | sc => rfl
  | bclr | bcctr | crand | crandc | creqv | crnand | crnor | cror | crorc | crxor | mcrf | isync | rfi =>
    change decode (xForm 19 _ _ _ _ _) = _
    rw [decode_of_opcd_19 (opcd_xForm ..), decode19, xo10_xForm]
    change some _ = some _
    simp [fieldCrfD_eq, fieldCrfS_eq]
  | and | andc | or | orc | xor | nand | nor | eqv | slw | srw | sraw | srawi | cmp | cmpl | lbzx | lbzux | stbx | stbux
  | lhzx | lhzux | lhax | lhaux | sthx | sthux | lhbrx | sthbrx | lwzx | lwzux | stwx | stwux | lwbrx | stwbrx | lswi
  | lswx | stswi | stswx | lfdx | lfdux | lfsx | lfsux | stfdx | stfdux | stfsx | stfsux | stfiwx | dcbf | dcbi | dcbst
  | dcbt | dcbtst | dcbz | icbi | mfcr | mtmsr | mfmsr | sync | eieio | tlbie | tlbia | tlbsync | mtsr | mfsr | mtsrin
  | mfsrin | tw | extsb | extsh | lwarx | cntlzw | eciwx | ecowx | mcrxr =>
    change decode (xForm 31 _ _ _ _ _) = _
    rw [decode_of_opcd_31 (opcd_xForm ..), decode31, xo10_xForm]
    change some _ = some _
    simp [fieldCrfD_eq, bitL_eq, fieldSr_eq]
  | stwcx_rc rS rA rB =>
    change decode (xForm 31 _ _ _ _ _) = _
    rw [decode_of_opcd_31 (opcd_xForm ..), decode31, xo10_xForm]
    change (if bit0 (xForm 31 rS rA rB 150 true) then some _ else none) = some _
    simp
  | mtspr | mfspr | mtcrf | mftb =>
    change decode (xfxForm 31 _ _ _) = _
    rw [decode_of_opcd_31 (opcd_xfxForm ..), decode31, xo10_xfxForm]
    change some _ = some _
    simp
  | add | addc | adde | addme | addze | subf | subfc | subfe | subfme | subfze | neg | mulhw | mulhwu | mullw | divw
  | divwu =>
    change decode (xoForm 31 _ _ _ _ _ _) = _
    rw [decode_xoForm _ _ _ _ _ (by decide), decode31Xo, xo9_xoForm]
    change some _ = some _
    simp
  | fadds | fsubs | fmuls | fdivs | fmadds | fmsubs | fnmadds | fnmsubs | fres | fsqrts =>
    change decode (aForm 59 _ _ _ _ _ _) = _
    rw [decode_of_opcd_59 (opcd_aForm ..), decode59, xo5_aForm]
    change some _ = some _
    simp
  | fadd | fsub | fmul | fdiv | fmadd | fmsub | fnmadd | fnmsub | frsqrte | fsel | fsqrt =>
    change decode (aForm 63 _ _ _ _ _ _) = _
    rw [decode_of_opcd_63 (opcd_aForm ..), decode63, xo5_aForm]
    change some _ = some _
    simp
  | fabs | fnabs | fneg | frsp | fctiw | fctiwz | fcmpo | fcmpu | fmr | mcrfs | mffs | mtfsb0 | mtfsb1 | mtfsfi =>
    change decode (xForm 63 _ _ _ _ _) = _
    rw [decode_of_opcd_63 (opcd_xForm ..), decode63, xo5_xForm, xo10_xForm]
    change some _ = some _
    simp [fieldCrfD_eq, fieldCrfS_eq, fieldImm_eq]
  | mtfsf =>
    change decode (xflForm 63 _ _ _ _) = _
    rw [decode_of_opcd_63 (opcd_xflForm ..), decode63, xo5_xflForm, xo10_xflForm]
    change some _ = some _
    simp
  | ps_add | ps_sub | ps_mul | ps_div | ps_madd | ps_madds0 | ps_madds1 | ps_msub | ps_nmadd | ps_nmsub | ps_res
  | ps_rsqrte | ps_sel | ps_sum0 | ps_sum1 | ps_muls0 | ps_muls1 =>
    change decode (aForm 4 _ _ _ _ _ _) = _
    rw [decode_of_opcd_4 (opcd_aForm ..), decode4, xo5_aForm]
    change some _ = some _
    simp
  | psq_lx | psq_lux | psq_stx | psq_stux =>
    change decode (xqForm 4 _ _ _ _ _ _) = _
    rw [decode_of_opcd_4 (opcd_xqForm ..), decode4, xo5_xqForm, xo6_xqForm]
    change some _ = some _
    simp
  | ps_abs | ps_neg | ps_nabs | ps_mr | ps_merge00 | ps_merge01 | ps_merge10 | ps_merge11 | ps_cmpu0 | ps_cmpo0
  | ps_cmpu1 | ps_cmpo1 | dcbz_l =>
    change decode (xForm 4 _ _ _ _ _) = _
    rw [decode_of_opcd_4 (opcd_xForm ..), decode4, xo5_xForm, xo6_xForm, xo10_xForm]
    change some _ = some _
    simp [fieldCrfD_eq]

/-- The word of an instruction with no forbidden field value is accepted as that instruction. -/
theorem classify_encode {i : Instr} (h : i.wellFormed = true) : classify (encode i) = .instr i := by
  simp [classify, decode_encode, h]

theorem classify_of_decode_none {w : Word} (h : decode w = none) : classify w = .illegal := by
  rw [classify, h]

end Sys2Proof

namespace Sys2Proof.Machine

/-- A word no instruction has raises the illegal-instruction exception at its own address (R182, R183). -/
theorem execWord_of_decode_none {w : Word} {s : State} (h : decode w = none) (hile : s.msrIle = false) :
    execWord w s = .next (s.entered .program s.pc 0x00080000) := by
  rw [execWord, classify_of_decode_none h]
  exact raiseProgram_of_ile hile .illegalInstruction

theorem wellFormed_of_isSupplement {i : Instr} (h : isSupplement i = true) : i.wellFormed = true := by
  cases i with
  | extsb | extsh | lwarx | stwcx_rc | cntlzw | eciwx | ecowx | mcrxr | dcbz_l => rfl
  | _ => cases h

/-- Without `SupplementEnabled` an instruction of the supplement is refused (R740). -/
theorem execWord_encode_supplement {i : Instr} {s : State} (h : isSupplement i = true)
    (hoff : s.params.supplement = false) : execWord (encode i) s = .refused .supplementDisabled := by
  rw [execWord, classify_encode (wellFormed_of_isSupplement h)]
  exact if_pos (by simp [h, hoff])

end Sys2Proof.Machine

/-! ### The obligations of 30_encoding.md -/

namespace Sys2Proof.Encoding

open Sys2Proof.Machine

/-- Settles O1: each field of the encoding reads as the operand it was laid out from. -/
theorem decodeEncode : Obligations.DecodeEncode :=
  fun i => ⟨decode_encode i, classify_encode⟩

/-- Settles O2: no lookup finds such a word; a word of the supplement is accepted, and then refused. -/
theorem illegalOpcodes : Obligations.IllegalOpcodes := by
  refine ⟨fun w s hile hw => execWord_of_decode_none ?_ hile, fun _ _ => execWord_encode_supplement⟩
  rcases hw with hop | hop | ⟨hop, hbit⟩ | ⟨hop, h5, h6, h10⟩ | ⟨hop, h10⟩ | ⟨hop, h10, h9⟩ | ⟨hop, h5⟩ |
    ⟨hop, h5, h10⟩
  · exact decode_eq_none_of_opcd (.inl hop)
  · exact decode_eq_none_of_opcd (.inr hop)
  · exact (decode_of_opcd_17 hop).trans (if_neg (Bool.not_eq_true _ ▸ hbit))
  · exact (decode_of_opcd_4 hop).trans (decode4_eq_none h5 h6 h10)
  · exact (decode_of_opcd_19 hop).trans (decode19_eq_none h10)
  · exact (decode_of_opcd_31 hop).trans ((decode31_eq_decode31Xo h10).trans (decode31Xo_eq_none h9))
  · exact (decode_of_opcd_59 hop).trans (decode59_eq_none h5)
  · exact (decode_of_opcd_63 hop).trans (decode63_eq_none h5 h10)

end Sys2Proof.Encoding
end

section
/-! PROOFS. The family 40_integer_arithmetic.md: the words the spec writes out, the immediate additions, the
multiplications and the divisions. -/

namespace Sys2Proof.Machine

/-! ### Words and their instructions -/

/-- A word that encodes an instruction with no forbidden field value is accepted as that instruction. -/
theorem classify_of_encode_eq {w : Word} {i : Instr} (hw : encode i = w) (h : i.wellFormed = true) :
    classify w = .instr i :=
  hw ▸ classify_encode h

/-! ### Results with OE = 0 -/

/-- With OE = 0 the overflow plays no part. -/
theorem ArithEnds.without_oe {s t : State} {rD : Reg} {r : Word} {rc ca ov ov' : Bool}
    (h : ArithEnds s t rD r false ov rc ca) : ArithEnds s t rD r false ov' rc ca :=
  h

/-- With tracing off an instruction that writes one general register and records nothing completes. -/
theorem retire_setX {s : State} (h : s.msrSe = false) (rD : Reg) (r : Word) :
    ∃ t, retire (s.setX rD r) = .next t ∧ ArithEnds s t rD r false false false s.ca :=
  retire_arith h rD r false false false

/-- SIMM in the upper halfword (R207). -/
theorem shifted32_eq (v : BitVec 16) : shifted32 v = BitVec.ofNat 32 (v.toNat * 65536) := by
  have hv := v.isLt
  have happend : (v ++ 0#16).toNat = v.toNat * 65536 :=
    (BitVec.toNat_append v 0#16).trans ((Nat.or_zero _).trans (Nat.shiftLeft_eq ..))
  refine BitVec.eq_of_toNat_eq ?_
  rw [shifted32, happend, BitVec.toNat_ofNat]
  omega

/-- A carrying addition with OE = 0 completes with the sum and its carry (R205, R206). -/
theorem retire_sum {s : State} (h : s.msrSe = false) (rD : Reg) (a b : Word) (rc : Bool) :
    ∃ t, retire (s.addedCarrying rD a b false false rc) = .next t ∧
      ArithEnds s t rD (a + b) false false rc (decide (2 ^ 32 ≤ a.toNat + b.toNat)) := by
  obtain ⟨t, ht, hends⟩ := retire_sumCarrying h rD a b false false rc (BitVec.add_zero _) (add_zero _) .rfl
  exact ⟨t, ht, hends.without_oe⟩

/-- A carrying subtraction with OE = 0 completes with the difference and no borrow in CA (R213). -/
theorem retire_difference {s : State} (h : s.msrSe = false) (rD : Reg) (a b : Word) (rc : Bool) :
    ∃ t, retire (s.addedCarrying rD (~~~a) b true false rc) = .next t ∧
      ArithEnds s t rD (b - a) false false rc (decide (a.toNat ≤ b.toNat)) := by
  obtain ⟨t, ht, hends⟩ :=
    retire_differenceCarrying h rD a b true false rc (sub_add_cancel _ _) (sub_add_cancel _ _) Nat.lt_succ_iff
  exact ⟨t, ht, hends.without_oe⟩

/-! ### Products -/

/-- The low word of the exact signed product is the product of words (R219). -/
theorem ofInt_signedProduct (a b : Word) : BitVec.ofInt 32 (signedProduct a b) = a * b := by
  rw [signedProduct, BitVec.ofInt_mul, BitVec.ofInt_toInt, BitVec.ofInt_toInt]

/-- The high word of a signed doubleword (R217). -/
theorem highWord_ofInt (p : Int) : (BitVec.ofInt 64 p).extractLsb' 32 32 = BitVec.ofInt 32 (p / 2 ^ 32) := by
  refine BitVec.eq_of_toNat_eq ?_
  rw [BitVec.extractLsb'_toNat, BitVec.toNat_ofInt, BitVec.toNat_ofInt, Nat.shiftRight_eq_div_pow]
  omega

/-- The high word of an unsigned doubleword (R218). -/
theorem highWord_ofNat (p : Nat) : (BitVec.ofNat 64 p).extractLsb' 32 32 = BitVec.ofNat 32 (p / 2 ^ 32) := by
  refine BitVec.eq_of_toNat_eq ?_
  rw [BitVec.extractLsb'_toNat, BitVec.toNat_ofNat, BitVec.toNat_ofNat, Nat.shiftRight_eq_div_pow]
  omega

/-! ### Quotients -/

/-- The operands for which `divw` is undefined, as R221 writes them. -/
theorem divwUndefined_iff (a b : Word) :
    divwUndefined a b = true ↔ b = 0 ∨ (a = 0x80000000 ∧ b = 0xFFFFFFFF) := by
  simp [divwUndefined]

/-- With tracing off a division whose quotient is undefined completes with one draw as its result (R221, R222). -/
theorem retire_undefinedQuotient {s : State} (h : s.msrSe = false) (rD : Reg) (oe rc : Bool) :
    ∃ t q, retire (s.drawn.arith rD (s.free.setWidth 32) true oe rc) = .next t ∧
      ArithEnds { s with draws := s.draws + 1 } t rD q oe true rc s.ca := by
  obtain ⟨t, ht, hends⟩ := retire_arith (s := s.drawn) h rD (s.free.setWidth 32) true oe rc
  exact ⟨t, _, ht, hends⟩

/-- The truncated quotient of two signed words fits a word but for -2^31 / -1. -/
theorem toInt_ofInt_tdiv {a b : Word} (h : ¬(a = 0x80000000 ∧ b = 0xFFFFFFFF)) :
    (BitVec.ofInt 32 (a.toInt.tdiv b.toInt)).toInt = a.toInt.tdiv b.toInt := by
  have hne : a ≠ BitVec.intMin 32 ∨ b ≠ -1#32 := not_and_or.mp h
  rw [BitVec.toInt_ofInt, ← BitVec.toInt_sdiv, BitVec.toInt_sdiv_of_ne_or_ne a b hne]

/-- Division that truncates toward zero leaves a remainder smaller than the divisor, with the dividend's sign (R221). -/
theorem exists_tdiv_remainder (a : Int) {b : Int} (hb : b ≠ 0) :
    ∃ m, a = a.tdiv b * b + m ∧ |m| < |b| ∧ (m = 0 ∨ m.sign = a.sign) := by
  refine ⟨a.tmod b, (Int.tdiv_mul_add_tmod a b).symm, ?_, ?_⟩
  · rw [Int.abs_eq_natAbs, Int.abs_eq_natAbs, Int.natAbs_tmod]
    exact_mod_cast Nat.mod_lt _ (Int.natAbs_pos.2 hb)
  · by_cases hdvd : b ∣ a
    · exact .inl (Int.tmod_eq_zero_of_dvd hdvd)
    · exact .inr ((Int.sign_tmod a b).trans (if_neg hdvd))

end Sys2Proof.Machine

/-! ### The obligations of 40_integer_arithmetic.md -/

namespace Sys2Proof.IntegerArithmetic

open Sys2Proof.Machine

/-- Settles O3: each word is the encoding of its instruction, which has no forbidden field value. -/
theorem specWordsDecode : Obligations.SpecWordsDecode := by
  refine ⟨?_, ?_, ?_, ?_, ?_, ?_, ?_, ?_, ?_, ?_, ?_, ?_, ?_, ?_, ?_⟩ <;>
    exact classify_of_encode_eq (by decide) (by decide)

/-- Settles O23: `addi` and `addis` only write rD; the others are a carrying sum or difference with OE = 0. -/
theorem immediateArithmetic : Obligations.ImmediateArithmetic := by
  intro rD rA simm s hs a a0 v
  simp only [exec_addi, execAddi, exec_addis, execAddis, exec_addic, execAddic, exec_addic_rc, execAddicRc, exec_subfic,
    execSubfic, shifted32_eq]
  refine ⟨?addi, ?addis, ?addic, ?addic_rc, ?subfic⟩
  case addi => exact retire_setX hs rD (a0 + v)
  case addis => exact retire_setX hs rD (a0 + _)
  case addic => exact retire_sum hs rD a v false
  case addic_rc => exact retire_sum hs rD a v true
  case subfic => exact retire_difference hs rD a v false

/-- Settles O24: each multiplication writes a word of the exact product. -/
theorem multiply : Obligations.Multiply := by
  intro rD rA rB simm oe rc s hs a b
  simp only [exec_mulhw, execMulhw, exec_mulhwu, execMulhwu, exec_mullw, execMullw, exec_mulli, execMulli,
    highWord_ofInt, highWord_ofNat, ofInt_signedProduct]
  refine ⟨?mulhw, ?mulhwu, ?mullw, ?mulli⟩
  case mulhw => exact retire_arith hs ..
  case mulhwu => exact retire_arith hs ..
  case mullw => exact retire_arith hs rD (a * b) (outside32 (a.toInt * b.toInt)) oe rc
  case mulli => exact retire_setX hs ..

/-- Settles O25: outside the undefined operands the quotient fits a word and is exact; on them it is a draw. -/
theorem divide : Obligations.Divide := by
  intro rD rA rB oe rc s hs a b
  simp only [exec_divw, execDivw, exec_divwu, execDivwu, divwUndefined_iff]
  refine ⟨?divw, ?divw_undefined, ?divwu, ?divwu_zero⟩
  case divw =>
    rintro ⟨hb, hfits⟩
    rw [if_neg (not_or.2 ⟨hb, hfits⟩)]
    obtain ⟨t, ht, hends⟩ := retire_arith hs rD (BitVec.ofInt 32 (a.toInt.tdiv b.toInt)) false oe rc
    have hbInt : b.toInt ≠ 0 := fun h => hb (BitVec.toInt_inj.1 h)
    refine ⟨t, _, ht, hends, ?_⟩
    rw [toInt_ofInt_tdiv hfits]
    exact exists_tdiv_remainder a.toInt hbInt
  case divw_undefined =>
    intro hundefined
    rw [if_pos hundefined]
    exact retire_undefinedQuotient hs rD oe rc
  case divwu =>
    intro hb
    have hquotient : BitVec.ofNat 32 (a.toNat / b.toNat) = a / b := BitVec.udiv_def.symm
    rw [if_neg hb, hquotient]
    exact retire_arith hs ..
  case divwu_zero =>
    intro hb
    rw [if_pos hb]
    exact retire_undefinedQuotient hs rD oe rc

end Sys2Proof.IntegerArithmetic
end

section
/-! PROOFS. The family 41_logical_shift_rotate.md: the logical instructions, the shifts, the sign extensions and the
zero count. -/

namespace Sys2Proof.Machine

/-! ### Immediates -/

/-- UIMM below 16 zeros (R165 (c)). -/
theorem uimm32_eq (u : BitVec 16) : uimm32 u = 0#16 ++ u :=
  BitVec.setWidth_eq_append (by decide)

/-! ### Shifts by a register -/

/-- The shift amount is the register's word modulo 64 (R270). -/
theorem shiftAmount_eq (b : Word) : shiftAmount b = b.toNat % 64 := by
  rw [shiftAmount, BitVec.extractLsb'_toNat, Nat.shiftRight_zero]

/-- A left shift multiplies, modulo 2^32 (R270). -/
theorem shiftLeft_eq_ofNat (v : Word) (n : Nat) : v <<< n = BitVec.ofNat 32 (v.toNat * 2 ^ n) := by
  refine BitVec.eq_of_toNat_eq ?_
  rw [BitVec.toNat_shiftLeft, BitVec.toNat_ofNat, Nat.shiftLeft_eq]

/-- An unsigned right shift is the quotient (R271). -/
theorem ushiftRight_eq_ofNat (v : Word) (n : Nat) : v >>> n = BitVec.ofNat 32 (v.toNat / 2 ^ n) := by
  rw [← Nat.shiftRight_eq_div_pow, ← BitVec.toNat_ushiftRight, BitVec.ofNat_toNat, BitVec.setWidth_eq]

/-! ### Algebraic shifts -/

/-- An algebraic right shift is the signed quotient rounded down (R272, R273). -/
theorem sshiftRight_eq_ofInt (v : Word) (n : Nat) : v.sshiftRight n = BitVec.ofInt 32 (v.toInt / 2 ^ n) := by
  rw [BitVec.sshiftRight_eq, Int.shiftRight_eq_div_pow]
  norm_cast

/-- The bits a right shift by `n` drops: those below bit `n`. -/
theorem getLsbD_and_not_ones_shiftLeft (v : Word) (n i : Nat) :
    (v &&& ~~~(0xFFFFFFFF#32 <<< n)).getLsbD i = (decide (i < n) && v.getLsbD i) := by
  have hones : (0xFFFFFFFF#32) = BitVec.ofNat 32 (2 ^ 32 - 1) := rfl
  have hout : 32 ≤ i → v.getLsbD i = false := BitVec.getLsbD_of_ge v i
  rw [BitVec.getLsbD_and, BitVec.getLsbD_not, BitVec.getLsbD_shiftLeft, hones, getLsbD_lowOnes]
  grind

/-- A word sign-extended or truncated to `n` bits is 0 where 2^n divides its signed value. -/
theorem signExtend_eq_zero_iff (v : Word) (n : Nat) : v.signExtend n = 0#n ↔ v.toInt % 2 ^ n = 0 := by
  have hnonneg : 0 ≤ v.toInt % 2 ^ n := Int.emod_nonneg _ (by positivity)
  have hnat : (v.signExtend n).toNat = (v.toInt % 2 ^ n).toNat := by
    rw [BitVec.signExtend, BitVec.toNat_ofInt]
    norm_cast
  rw [← BitVec.toNat_inj, hnat, BitVec.toNat_zero]
  omega

/-- The bits a right shift by `n` drops are all 0 where 2^n divides the signed value. -/
theorem and_not_ones_shiftLeft_eq_zero_iff (v : Word) (n : Nat) :
    v &&& ~~~(0xFFFFFFFF#32 <<< n) = 0#32 ↔ v.toInt % 2 ^ n = 0 := by
  have hmsb : v.msb = v.getLsbD 31 := v.msb_eq_getLsbD_last
  rw [← signExtend_eq_zero_iff, BitVec.zero_iff_eq_false, BitVec.zero_iff_eq_false]
  simp only [getLsbD_and_not_ones_shiftLeft, BitVec.getLsbD_signExtend, hmsb]
  grind

/-- CA of an algebraic right shift: a negative word loses ones (R272, R273). -/
theorem shiftRightAlgebraic_carry (v : Word) (n : Nat) :
    (shiftRightAlgebraic v n).2 = decide (v.toInt < 0 ∧ v.toInt % 2 ^ n ≠ 0) := by
  have hlost := not_congr (and_not_ones_shiftLeft_eq_zero_iff v n)
  rw [Bool.decide_and, ← BitVec.msb_eq_toInt]
  exact congrArg (v.msb && ·) (decide_eq_decide.2 hlost)

/-- With tracing off an algebraic right shift completes, and writes CA beside rA and CR0. -/
theorem retire_shiftedAlgebraic {s : State} (h : s.msrSe = false) (rS rA : Reg) (n : Nat) (rc : Bool) :
    ∃ t, retire (s.shiftedAlgebraic rS rA n rc) = .next t ∧
      ArithEnds s t rA (BitVec.ofInt 32 ((s.x rS).toInt / 2 ^ n)) false false rc
        (decide ((s.x rS).toInt < 0 ∧ (s.x rS).toInt % 2 ^ n ≠ 0)) := by
  obtain ⟨t, ht, hends, -⟩ :=
    retire_logic (s := s.setCa (shiftRightAlgebraic (s.x rS) n).2) h rA ((s.x rS).sshiftRight n) rc
  rw [State.ca_setCa, shiftRightAlgebraic_carry, sshiftRight_eq_ofInt] at hends
  exact ⟨t, ht, hends.of_setCa⟩

/-! ### Sign extensions -/

/-- The sign extension of a word's low bits is its residue nearest 0 (R741, R742). -/
theorem signExtend_setWidth_eq_ofInt (v : Word) (n : Nat) :
    (v.setWidth n).signExtend 32 = BitVec.ofInt 32 (Int.bmod v.toNat (2 ^ n)) :=
  congrArg (BitVec.ofInt 32) (BitVec.toInt_setWidth v)

/-! ### The zero count (R745) -/

theorem leadingZeros_le (v : Word) (n : Nat) : leadingZeros v n ≤ n := by
  induction n with
  | zero => exact le_rfl
  | succ n ih =>
    rw [leadingZeros]
    split <;> omega

/-- The bits the count passes are 0. -/
theorem getLsbD_of_lt_leadingZeros (v : Word) (n : Nat) {i : Nat} (hi : i < leadingZeros v n) :
    v.getLsbD (n - 1 - i) = false := by
  induction n generalizing i with
  | zero => cases hi
  | succ n ih =>
    rw [leadingZeros] at hi
    split at hi
    next => cases hi
    next htop =>
      cases i with
      | zero => exact Bool.eq_false_of_not_eq_true htop
      | succ i =>
        rw [show n + 1 - 1 - (i + 1) = n - 1 - i by omega]
        exact ih (Nat.lt_of_succ_lt_succ hi)

/-- The bit the count stops at is 1. -/
theorem getLsbD_leadingZeros (v : Word) (n : Nat) (h : leadingZeros v n < n) :
    v.getLsbD (n - 1 - leadingZeros v n) = true := by
  induction n with
  | zero => cases h
  | succ n ih =>
    rw [leadingZeros] at h ⊢
    split at h
    next htop => rwa [if_pos htop]
    next htop =>
      rw [if_neg htop, show n + 1 - 1 - (leadingZeros v n + 1) = n - 1 - leadingZeros v n by omega]
      exact ih (Nat.lt_of_succ_lt_succ h)

end Sys2Proof.Machine

/-! ### The obligations of 41_logical_shift_rotate.md -/

namespace Sys2Proof.LogicalShift

open Sys2Proof.Machine

/-- Settles O27: the logical shifts are a product and a quotient of the unsigned value, the algebraic ones a quotient of
the signed value with its own CA. -/
theorem shifts : Obligations.Shifts := by
  intro rS rA rB sh rc s hs v n lost
  simp only [exec_slw, execSlw, exec_srw, execSrw, exec_sraw, execSraw, exec_srawi, execSrawi, exec_extsb, execExtsb,
    exec_extsh, execExtsh, exec_cntlzw, execCntlzw, shiftAmount_eq, shiftLeft_eq_ofNat, ushiftRight_eq_ofNat,
    signExtend_setWidth_eq_ofInt]
  refine ⟨?slw, ?srw, ?sraw, ?srawi, ?extsb, ?extsh, ?cntlzw⟩
  case slw => exact retire_logic hs ..
  case srw => exact retire_logic hs ..
  case sraw => exact retire_shiftedAlgebraic hs rS rA n rc
  case srawi => exact retire_shiftedAlgebraic hs rS rA sh.toNat rc
  case extsb => exact retire_logic hs ..
  case extsh => exact retire_logic hs ..
  case cntlzw =>
    obtain ⟨t, ht, hends⟩ := retire_logic hs rA (BitVec.ofNat 32 (leadingZeros v 32)) rc
    exact ⟨t, leadingZeros v 32, leadingZeros_le v 32, ht, hends, fun _ => getLsbD_of_lt_leadingZeros v 32,
      getLsbD_leadingZeros v 32⟩

/-- Settles O26: each logical instruction is the one write to rA, recorded where it records. -/
theorem logical : Obligations.Logical := by
  intro rS rA rB u rc s hs v b low high
  simp only [exec_and, execAnd, exec_andc, execAndc, exec_or, execOr, exec_orc, execOrc, exec_xor, execXor, exec_nand,
    execNand, exec_nor, execNor, exec_eqv, execEqv, exec_andi_rc, execAndiRc, exec_andis_rc, execAndisRc, exec_ori,
    execOri, exec_oris, execOris, exec_xori, execXori, exec_xoris, execXoris, uimm32_eq]
  refine ⟨?_, ?_, ?_, ?_, ?_, ?_, ?_, ?_, ?_, ?_, ?_, ?_, ?_, ?_⟩ <;> exact retire_logic hs ..

end Sys2Proof.LogicalShift
end

section
/-! PROOFS. The family 42_compare_branch.md: the compares and the branches. -/

namespace Sys2Proof.Machine

/-! ### Compares -/

/-- UIMM as an unsigned number (R165 (c)). -/
theorem toNat_uimm32 (u : BitVec 16) : (uimm32 u).toNat = u.toNat :=
  BitVec.toNat_setWidth_of_le (by decide)

/-- SIMM as a signed number (R165 (a)). -/
theorem toInt_simm32 (v : BitVec 16) : (simm32 v).toInt = v.toInt :=
  BitVec.toInt_signExtend_of_le (by decide)

/-- The field a signed compare gives, by the signed numbers alone (R300). -/
theorem signedCompare_eq (a b : Word) (so : Bool) :
    signedCompare a b so =
      crBits (decide (a.toInt < b.toInt)) (decide (b.toInt < a.toInt)) (decide (a.toInt = b.toInt)) so :=
  congrArg (crBits _ _ · so) (decide_eq_decide.2 BitVec.toInt_inj.symm)

/-- The field an unsigned compare gives, by the unsigned numbers alone (R300). -/
theorem unsignedCompare_eq (a b : Word) (so : Bool) :
    unsignedCompare a b so =
      crBits (decide (a.toNat < b.toNat)) (decide (b.toNat < a.toNat)) (decide (a.toNat = b.toNat)) so :=
  congrArg (crBits _ _ · so) (decide_eq_decide.2 BitVec.toNat_inj.symm)

/-- With tracing off an instruction that writes one CR field completes. -/
theorem retire_setCrf {s : State} (h : s.msrSe = false) (f : CrField) (v : BitVec 4) :
    ∃ t, retire (s.setCrf f v) = .next t ∧ FieldEnds s t f v :=
  ⟨_, retire_untraced h, fieldEnds_setCrf s f v⟩

/-! ### Branches -/

/-- What BO asks of the count: nothing, or CTR after the decrement 0 or not 0 as BO[1] says (R311). -/
theorem State.ctrOk_iff (s : State) (bo : BitVec 5) :
    s.ctrOk bo = true ↔
      bo.getLsbD 2 = true ∨ (if bo.getLsbD 1 then s.ctrAfter bo = 0 else s.ctrAfter bo ≠ 0) := by
  rw [State.ctrOk, Bool.or_eq_true]
  cases bo.getLsbD 1 <;> simp

/-- What BO asks of the condition: nothing, or the CR bit equal to BO[3] (R311). -/
theorem State.condOk_iff (s : State) (bo : BitVec 5) (bi : CrBit) :
    s.condOk bo bi = true ↔ bo.getLsbD 4 = true ∨ s.cr.getLsbD (31 - bi.toNat) = bo.getLsbD 3 := by
  rw [State.condOk, Bool.or_eq_true, beq_iff_eq, State.crBit]

/-- With tracing off a branch that depends on `c` goes to its target or to the next instruction, and leaves the rest
(R311, R314). -/
theorem retireBranch_if {s : State} (h : s.msrSe = false) (h' : s.msrBe = false) (target next : Word) {c : Bool}
    {p : Prop} (hc : c = true ↔ p) :
    ∃ t, retireBranch (if c then target else next) s = .next t ∧ (p → t.pc = target) ∧ (¬p → t.pc = next) ∧
      t = { s with pc := t.pc } :=
  ⟨_, retireBranch_untraced _ h h', fun hp => if_pos (hc.2 hp), fun hp => if_neg (mt hc.1 hp), rfl⟩

/-- With tracing off a branch that counts goes to its target where both tests hold; CTR and LR are written either way
(R311). -/
theorem State.branchIf_ends {s : State} (h : s.msrSe = false) (h' : s.msrBe = false) (bo : BitVec 5) (bi : CrBit)
    (target : Word) (lk : Bool) {counted holds : Prop} (hcount : s.ctrOk bo = true ↔ counted)
    (hcond : s.condOk bo bi = true ↔ holds) :
    ∃ t, s.branchIf bo bi target lk = .next t ∧ (counted ∧ holds → t.pc = target) ∧
      (¬(counted ∧ holds) → t.pc = s.pc + 4) ∧
      t = { s with pc := t.pc, ctr := s.ctrAfter bo, lr := s.lrAfter lk } :=
  retireBranch_if (s := { s with ctr := s.ctrAfter bo, lr := s.lrAfter lk }) h h' target (s.pc + 4)
    ((Bool.and_eq_true_iff ..).trans (and_congr hcount hcond))

end Sys2Proof.Machine

/-! ### The obligations of 42_compare_branch.md -/

namespace Sys2Proof.CompareBranch

open Sys2Proof.Machine

/-- Settles O29: each compare is the one write to its CR field; an extended immediate has the number of its 16 bits. -/
theorem compares : Obligations.Compares := by
  intro f rA rB v s hs a b i
  simp only [exec_cmp, execCmp, exec_cmpi, execCmpi, exec_cmpl, execCmpl, exec_cmpli, execCmpli]
  refine ⟨?cmp, ?cmpi, ?cmpl, ?cmpli⟩
  case cmp => exact retire_setCrf hs f (signedCompare a b s.so)
  case cmpi =>
    rw [signedCompare_eq, toInt_simm32]
    exact retire_setCrf hs ..
  case cmpl => exact retire_setCrf hs f (unsignedCompare a b s.so)
  case cmpli =>
    rw [unsignedCompare_eq, toNat_uimm32]
    exact retire_setCrf hs ..

/-- Settles O30: `bc` and `bclr` are the counting branch with their own target, `bcctr` a branch on the condition
alone. -/
theorem branches : Obligations.Branches := by
  intro li bo bi bd aa lk s hs hb link count counted holds dest
  have hcount : s.ctrOk bo = true ↔ counted := s.ctrOk_iff bo
  have hcond : s.condOk bo bi = true ↔ holds := s.condOk_iff bo bi
  simp only [exec_b, execB, exec_bc, execBc, exec_bclr, execBclr, exec_bcctr, execBcctr]
  refine ⟨?b, ?bc, ?bclr, ?bcctr⟩
  case b => exact retireBranch_untraced (s := { s with lr := s.lrAfter lk }) (s.branchTarget aa (liExt li)) hs hb
  case bc => exact State.branchIf_ends hs hb bo bi (s.branchTarget aa (bdExt bd)) lk hcount hcond
  case bclr => exact State.branchIf_ends hs hb bo bi (wordTarget s.lr) lk hcount hcond
  case bcctr =>
    intro _
    exact retireBranch_if (s := { s with lr := s.lrAfter lk }) hs hb (wordTarget s.ctr) (s.pc + 4) hcond

end Sys2Proof.CompareBranch
end

section
/-! PROOFS. The family 43_load_store.md: the multiple words and the strings (R395 to R400). -/

namespace Sys2Proof.Machine

/-! ### Parts of a plain access -/

/-- What follows the first `k` bytes of a plain access. -/
theorem State.plainData_drop {s : State} {ea : Word} {n : Nat} (h : s.plainData ea n) (k : Nat) :
    s.plainData (ea + BitVec.ofNat 32 k) (n - k) := by
  obtain ⟨hdr, hdabr, hram⟩ := h
  refine ⟨hdr, hdabr, fun i hi => ?_⟩
  rw [byteAt_add]
  exact hram _ (by omega)

theorem State.plainLoad_drop {s : State} {ea : Word} {n : Nat} (h : s.plainLoad ea n) (k : Nat) :
    s.plainLoad (ea + BitVec.ofNat 32 k) (n - k) := by
  refine ⟨State.plainData_drop h.1 k, fun e he i hi hw => ?_⟩
  rw [byteAt_add] at hw
  exact h.2 e he _ (by omega) hw

/-- The first `m` bytes of a plain access. -/
theorem State.plainData_take {s : State} {ea : Word} {n m : Nat} (h : s.plainData ea n) (hm : m ≤ n) :
    s.plainData ea m := by
  obtain ⟨hdr, hdabr, hram⟩ := h
  exact ⟨hdr, hdabr, fun i hi => hram i (by omega)⟩

theorem State.plainLoad_take {s : State} {ea : Word} {n m : Nat} (h : s.plainLoad ea n) (hm : m ≤ n) :
    s.plainLoad ea m :=
  ⟨State.plainData_take h.1 hm, fun e he i hi => h.2 e he i (by omega)⟩

/-- The address of word `j + 1` is that of word `j` after the first. -/
theorem add_four_mul_succ (ea : Word) (j : Nat) :
    ea + BitVec.ofNat 32 (4 * (j + 1)) = ea + 4 + BitVec.ofNat 32 (4 * j) := by
  rw [Nat.mul_succ, Nat.add_comm, BitVec.ofNat_add, add_assoc]
  rfl

/-! ### Registers in a row -/

/-- The register after `j` others from `r` on is `j` registers after `r`. -/
theorem reg_add_sub_toNat (r : Reg) {j : Nat} (hj : j < 32) : (r + BitVec.ofNat 5 j - r).toNat = j := by
  rw [add_sub_cancel_left, BitVec.toNat_ofNat]
  exact Nat.mod_eq_of_lt hj

/-- Seen from the next register, every other register is one nearer. -/
theorem reg_sub_toNat_succ {q r : Reg} (h : q ≠ r) : (q - r).toNat = (q - (r + 1)).toNat + 1 := by
  bv_omega

/-- The registers from `r` to r31 are those whose number is at least that of `r`. -/
theorem reg_sub_toNat_lt_iff (q r : Reg) : (q - r).toNat < 32 - r.toNat ↔ r.toNat ≤ q.toNat := by
  bv_omega

/-- `t` is `s` after the `n` registers from `r` on, r31 being followed by r0, took the words `w 0`, `w 1`, …. -/
def RegsLoaded (s t : State) (r : Reg) (n : Nat) (w : Nat → Word) : Prop :=
  t = { s with gpr := t.gpr } ∧ ∀ q : Reg, t.x q = if (q - r).toNat < n then w (q - r).toNat else s.x q

theorem RegsLoaded.none (s : State) (r : Reg) (w : Nat → Word) : RegsLoaded s s r 0 w :=
  ⟨rfl, fun _ => rfl⟩

/-- One register, and then those after it. -/
theorem RegsLoaded.cons {s t : State} {r : Reg} {n : Nat} {w : Nat → Word} (hn : n < 32)
    (h : RegsLoaded (s.setX r (w 0)) t (r + 1) n (fun j => w (j + 1))) : RegsLoaded s t r (n + 1) w := by
  obtain ⟨hframe, hregs⟩ := h
  refine ⟨hframe, fun q => ?_⟩
  by_cases hq : q = r
  · subst hq
    have hlast : (q - (q + 1)).toNat = 31 := by bv_omega
    rw [hregs, hlast, if_neg (by omega), State.x_setX_same, sub_self]
    rfl
  · rw [hregs, State.x_setX_other s _ hq, reg_sub_toNat_succ hq]
    simp only [Nat.add_lt_add_iff_right]

/-- With tracing off an instruction that loaded registers completes. -/
theorem RegsLoaded.retire {s t : State} {r : Reg} {n : Nat} {w : Nat → Word} (h : RegsLoaded s t r n w)
    (hse : s.msrSe = false) :
    Machine.retire t = .next t.ended ∧ t.ended = { s with gpr := t.ended.gpr, pc := s.pc + 4 } := by
  obtain ⟨hframe, -⟩ := h
  refine ⟨retire_untraced ?_, ?_⟩
  · rw [hframe]
    exact hse
  · rw [hframe]
    rfl

/-! ### Bytes in a row -/

/-- `t` is `s` after the bytes `bs` were stored from `ea` on, but for pc: nothing else changes but the record of what the
caches and the TLB may hold. -/
def BytesStored (s t : State) (ea : Word) (bs : List Byte) : Prop :=
  t.mem = s.mem.writeBytes ea bs ∧
  t = { s with mem := t.mem, stale := t.stale, dirty := t.dirty, tables := t.tables }

theorem BytesStored.nil (s : State) (ea : Word) : BytesStored s s ea [] := ⟨rfl, rfl⟩

theorem BytesStored.append {s t u : State} {ea : Word} {bs cs : List Byte} (h : BytesStored s t ea bs)
    (h' : BytesStored t u (ea + BitVec.ofNat 32 bs.length) cs) : BytesStored s u ea (bs ++ cs) := by
  obtain ⟨hmem, hframe⟩ := h
  obtain ⟨hmem', hframe'⟩ := h'
  exact ⟨by rw [hmem', hmem, Memory.writeBytes_append], State.store_frame_trans hframe hframe'⟩

section
variable {s t : State} {ea : Word} {bs : List Byte} (h : BytesStored s t ea bs)
include h

theorem BytesStored.x (q : Reg) : t.x q = s.x q := by
  rw [h.2]
  rfl

theorem BytesStored.plainData {pa : Word} {n : Nat} (hplain : s.plainData pa n) : t.plainData pa n := by
  rw [h.2]
  exact hplain

/-- With tracing off an instruction that stored bytes completes. -/
theorem BytesStored.retire (hl : bs.length ≤ 2 ^ 32) (hse : s.msrSe = false) :
    Machine.retire t = .next t.ended ∧ StoreEnds s t.ended ea bs := by
  obtain ⟨hmem, hframe⟩ := h
  refine ⟨retire_untraced ?_, storeEnds_of_writeBytes hl hmem hframe⟩
  rw [hframe]
  exact hse

end

theorem State.memWrite_plainData {s : State} {ea : Word} {n : Nat} (h : s.plainData ea n) (v : BitVec 64) :
    ∃ t, s.memWrite ea n v = .ok () t ∧ BytesStored s t ea (beBytes n v) := by
  obtain ⟨hdr, hdabr, hram⟩ := h
  exact State.memWrite_plain v hdr hdabr hram

/-! ### Multiple words (R395, R396) -/

theorem loadWords_plain {n : Nat} (hn : n ≤ 32) (r : Reg) {ea : Word} {s : State} (h : s.plainLoad ea (4 * n)) :
    ∃ t, loadWords n r ea s = .ok () t ∧ RegsLoaded s t r n fun j => s.wordAt (ea + BitVec.ofNat 32 (4 * j)) := by
  induction n generalizing r ea s with
  | zero => exact ⟨s, rfl, .none ..⟩
  | succ n ih =>
    have hrest : s.plainLoad (ea + 4) (4 * n) := State.plainLoad_drop h 4
    obtain ⟨t, ht, hloaded⟩ := ih (by omega) (r + 1) (s := s.setX r (s.wordAt ea)) hrest
    refine ⟨t, ?_, .cons hn ?_⟩
    · rw [loadWords, State.memRead_plainLoad (State.plainLoad_take h (by omega)), Res.bind_ok,
        zeroExtended_readBytes_four, ht]
    · simp only [add_four_mul_succ, Nat.mul_zero, BitVec.add_zero]
      exact hloaded

theorem storeWords_plain (n : Nat) (r : Reg) {ea : Word} {s : State} (h : s.plainData ea (4 * n)) :
    ∃ t, storeWords n r ea s = .ok () t ∧
      BytesStored s t ea ((List.range n).flatMap fun k => wordBytes (s.x (r + BitVec.ofNat 5 k))) := by
  induction n generalizing r ea s with
  | zero => exact ⟨s, rfl, .nil ..⟩
  | succ n ih =>
    obtain ⟨t, ht, hfirst⟩ := State.memWrite_plainData (State.plainData_take (m := 4) h (by omega)) ((s.x r).setWidth 64)
    rw [beBytes_four] at hfirst
    obtain ⟨u, hu, hrest⟩ := ih (r + 1) (hfirst.plainData (State.plainData_drop h 4))
    refine ⟨u, ?_, ?_⟩
    · rw [storeWords, ht, Res.bind_ok]
      exact hu
    · have hnext (k : Nat) : r + BitVec.ofNat 5 (k + 1) = r + 1 + BitVec.ofNat 5 k := by
        rw [Nat.add_comm, BitVec.ofNat_add, add_assoc]
        rfl
      simp only [List.range_succ_eq_map, List.flatMap_cons, List.flatMap_map, Nat.succ_eq_add_one, hnext,
        BitVec.add_zero]
      simp only [hfirst.x] at hrest
      exact hfirst.append hrest

theorem length_flatMap_wordBytes (n : Nat) (w : Nat → Word) :
    ((List.range n).flatMap fun k => wordBytes (w k)).length = 4 * n := by
  simp [wordBytes, Nat.mul_comm]

/-! ### Strings (R397 to R400) -/

/-- Bytes 0 at the end shift the value to the left. -/
theorem beValue_append_zeros (bs : List Byte) (k : Nat) :
    beValue (bs ++ List.replicate k 0) = beValue bs <<< (8 * k) := by
  induction k with
  | zero => simp
  | succ k ih =>
    rw [List.replicate_succ', ← List.append_assoc, beValue, List.foldl_append, ← beValue, ih]
    simp [Nat.mul_succ, BitVec.shiftLeft_add]

/-- A packed register holds the bytes from the left, and bytes 0 after them. -/
theorem wordBytes_packLeft {bs : List Byte} (h : bs.length ≤ 4) :
    wordBytes (packLeft bs) = bs ++ List.replicate (4 - bs.length) 0 := by
  have hpadded : packLeft bs = (beValue (bs ++ List.replicate (4 - bs.length) 0)).setWidth 32 := by
    rw [beValue_append_zeros, packLeft]
    exact (BitVec.setWidth_shiftLeft_of_le (by decide)).symm
  have hlen : (bs ++ List.replicate (4 - bs.length) (0 : Byte)).length = 4 := by
    rw [List.length_append, List.length_replicate]
    omega
  obtain ⟨b0, b1, b2, b3, hbytes⟩ := List.length_eq_four.1 hlen
  rw [hpadded, hbytes, beValue_four, wordBytes_wordOfBytes]

/-- The byte `b` of a word, counted from the most significant. -/
theorem extractLsb'_eq_wordBytes_getD (v : Word) {b : Nat} (hb : b < 4) :
    v.extractLsb' (24 - 8 * b) 8 = (wordBytes v).getD b 0 := by
  match b, hb with
  | 0, _ | 1, _ | 2, _ | 3, _ => rfl

/-- The bytes of a register packed with `k` bytes of memory. -/
theorem packLeft_readBytes_byte (s : State) (ea : Word) {k b : Nat} (hk : k ≤ 4) (hb : b < 4) :
    (packLeft (s.mem.readBytes ea k)).extractLsb' (24 - 8 * b) 8 = if b < k then s.byte ea b else 0 := by
  have hlen : (s.mem.readBytes ea k).length = k := by simp [Memory.readBytes]
  rw [extractLsb'_eq_wordBytes_getD _ hb, wordBytes_packLeft (by omega)]
  split
  · rw [List.getD_append _ _ _ _ (by omega), List.getD_eq_getElem _ _ (by omega)]
    simp [Memory.readBytes, State.byte]
  · rw [List.getD_append_right _ _ _ _ (by omega)]
    simp

theorem readEach_plain (n : Nat) {ea : Word} {s : State} (h : s.plainLoad ea n) :
    readEach n ea s = .ok (s.mem.readBytes ea n) s := by
  induction n generalizing ea with
  | zero => rfl
  | succ n ih =>
    have hrest : s.plainLoad (ea + 1) n := State.plainLoad_drop h 1
    have hbyte : (beValue (s.mem.readBytes ea 1)).setWidth 8 = s.byte ea 0 := by
      rw [show s.mem.readBytes ea 1 = [s.byte ea 0] from rfl, beValue_one,
        BitVec.setWidth_setWidth_of_le _ (by decide), BitVec.setWidth_eq]
    rw [readEach, State.memRead_plainLoad (State.plainLoad_take h (by omega)), Res.bind_ok, ih hrest, Res.bind_ok,
      hbyte, Nat.add_comm n 1, Memory.readBytes_append]
    rfl

theorem loadString_plain {count : Nat} (hcount : count ≤ 32) {bytes : Nat} (r : Reg) {ea : Word} {s : State}
    (h : s.plainLoad ea bytes) :
    ∃ t, loadString count bytes r ea s = .ok () t ∧ RegsLoaded s t r count fun j =>
      packLeft (s.mem.readBytes (ea + BitVec.ofNat 32 (4 * j)) (min 4 (bytes - 4 * j))) := by
  induction count generalizing bytes r ea s with
  | zero => exact ⟨s, rfl, .none ..⟩
  | succ count ih =>
    have hrest : s.plainLoad (ea + 4) (bytes - 4) := State.plainLoad_drop h 4
    obtain ⟨t, ht, hloaded⟩ := ih (by omega) (r + 1)
      (s := s.setX r (packLeft (s.mem.readBytes ea (min 4 bytes)))) hrest
    refine ⟨t, ?_, .cons hcount ?_⟩
    · rw [loadString, readEach_plain _ (State.plainLoad_take h (by omega)), Res.bind_ok, ht]
    · have hleft (j : Nat) : bytes - 4 * (j + 1) = bytes - 4 - 4 * j := by omega
      simp only [add_four_mul_succ, hleft, Nat.mul_zero, BitVec.add_zero, Nat.sub_zero]
      exact hloaded

theorem writeEach_plain (bs : List Byte) {ea : Word} {s : State} (h : s.plainData ea bs.length) :
    ∃ t, writeEach bs ea s = .ok () t ∧ BytesStored s t ea bs := by
  induction bs generalizing ea s with
  | nil => exact ⟨s, rfl, .nil ..⟩
  | cons b bs ih =>
    obtain ⟨t, ht, hfirst⟩ := State.memWrite_plainData (State.plainData_take (m := 1) h (by simp)) (b.setWidth 64)
    have hbyte : beBytes 1 (b.setWidth 64) = [b] := by
      simp [beBytes, BitVec.extractLsb'_setWidth_of_le]
    rw [hbyte] at hfirst
    obtain ⟨u, hu, hrest⟩ := ih (hfirst.plainData (State.plainData_drop h 1))
    refine ⟨u, ?_, hfirst.append hrest⟩
    rw [writeEach, ht, Res.bind_ok]
    exact hu

/-- `t` is `s` after the `m` bytes from `ea` on were loaded as a string into the registers from `r` on. -/
def StringLoaded (s t : State) (r : Reg) (ea : Word) (m : Nat) : Prop :=
  t = { s with gpr := t.gpr, pc := s.pc + 4 } ∧
  (∀ q : Reg, (m + 3) / 4 ≤ (q - r).toNat → t.x q = s.x q) ∧
  (∀ j < (m + 3) / 4, ∀ b < 4, (t.x (r + BitVec.ofNat 5 j)).extractLsb' (24 - 8 * b) 8 =
    if 4 * j + b < m then s.byte ea (4 * j + b) else 0)

theorem loadString_retires {s : State} (hse : s.msrSe = false) (r : Reg) {ea : Word} {m : Nat} (hm : stringRegs m ≤ 32)
    (h : s.plainLoad ea m) :
    ∃ t, (loadString (stringRegs m) m r ea s).finish (fun _ s => retire s) = .next t ∧ StringLoaded s t r ea m := by
  obtain ⟨t, ht, hloaded⟩ := loadString_plain hm r h
  obtain ⟨hretire, hframe⟩ := hloaded.retire hse
  obtain ⟨-, hregs⟩ := hloaded
  rw [ht, Res.finish_ok]
  refine ⟨t.ended, hretire, hframe, fun q hq => (hregs q).trans (if_neg (not_lt.2 hq)), fun j hj b hb => ?_⟩
  have hword : t.ended.x (r + BitVec.ofNat 5 j) =
      packLeft (s.mem.readBytes (ea + BitVec.ofNat 32 (4 * j)) (min 4 (m - 4 * j))) := by
    refine (hregs _).trans ?_
    rw [reg_add_sub_toNat r (lt_of_lt_of_le hj hm)]
    exact if_pos hj
  rw [hword, packLeft_readBytes_byte s _ (min_le_left ..) hb, State.byte, byteAt_add]
  exact if_congr (by omega) rfl rfl

theorem writeEach_retires {s : State} (hse : s.msrSe = false) {bs : List Byte} (hl : bs.length ≤ 2 ^ 32) {ea : Word}
    (h : s.plainData ea bs.length) :
    ∃ t, (writeEach bs ea s).finish (fun _ s => retire s) = .next t ∧ StoreEnds s t ea bs := by
  obtain ⟨t, ht, hstored⟩ := writeEach_plain bs h
  rw [ht]
  exact ⟨t.ended, hstored.retire hl hse⟩

theorem State.stringBytes_length (s : State) (r : Reg) (m : Nat) : (s.stringBytes r m).length = m := by
  simp [State.stringBytes]

theorem stringCount_le (nb : BitVec 5) : stringCount nb ≤ 32 := by
  rw [stringCount]
  split <;> omega

theorem State.xerCount_lt (s : State) : s.xerCount < 128 := (s.xer.extractLsb' 0 7).isLt

/-- A register that the range does not reach is not in it. -/
theorem inLoadRange_eq_false {r q : Reg} {count : Nat} (h : count ≤ (q - r).toNat) : inLoadRange r q count = false :=
  decide_eq_false (not_lt.2 h)

end Sys2Proof.Machine

/-! ### The obligations of 43_load_store.md -/

namespace Sys2Proof.LoadStore

open Sys2Proof.Machine

/-- Settles O33: the words of a plain access, one register after another. -/
theorem multipleWords : Obligations.MultipleWords := by
  intro rD rA d s hse ea hplain haligned
  rw [exec_lmw, execLmw, exec_stmw, execStmw, show s.eaD rA d = ea from rfl, State.wordAligned_of_mod haligned,
    State.wordAligned_of_mod haligned]
  refine ⟨fun _ hunmixed => ?lmw, ?stmw⟩
  case lmw =>
    obtain ⟨t, ht, hloaded⟩ := loadWords_plain (Nat.sub_le ..) rD ⟨hplain, hunmixed⟩
    obtain ⟨hretire, hframe⟩ := hloaded.retire hse
    obtain ⟨-, hregs⟩ := hloaded
    rw [ht]
    refine ⟨t.ended, hretire, hframe, fun q => (hregs q).trans ?_⟩
    simp only [reg_sub_toNat_lt_iff]
    split
    · rw [BitVec.toNat_sub_of_le (BitVec.le_def.2 ‹_›)]
    · rfl
  case stmw =>
    obtain ⟨t, ht, hstored⟩ := storeWords_plain (32 - rD.toNat) rD hplain
    rw [ht]
    refine ⟨t.ended, hstored.retire ?_ hse⟩
    rw [length_flatMap_wordBytes]
    omega

/-- Settles O34: a string moves byte by byte; each register packs its bytes from the left. -/
theorem strings : Obligations.Strings := by
  intro rD rA rB nb s hse base n k loaded outgoing
  have hn : n ≤ 32 := stringCount_le nb
  have hk : k < 128 := s.xerCount_lt
  rw [exec_lswi, exec_lswx, exec_stswi, exec_stswx]
  refine ⟨fun h _ => ?lswi, fun hk0 h hA hB => ?lswx, fun hk0 => ?lswxNone, fun h => ?stswi, fun h => ?stswx⟩
  case lswi => exact loadString_retires hse rD (show (n + 3) / 4 ≤ 32 by omega) h
  case lswx =>
    have hrange : (inLoadRange rD rA (stringRegs k) || inLoadRange rD rB (stringRegs k)) = false := by
      rw [inLoadRange_eq_false (count := stringRegs k) hA, inLoadRange_eq_false (count := stringRegs k) hB]
      rfl
    rw [execLswx, show s.xerCount = k from rfl]
    rw [if_neg hk0, hrange]
    exact loadString_retires hse rD (show (k + 3) / 4 ≤ 32 by omega) h
  case lswxNone =>
    rw [execLswx, show s.xerCount = k from rfl, hk0]
    exact ⟨s.free.setWidth 32, retire_untraced hse⟩
  case stswi =>
    have hlen : (s.stringBytes rD n).length = n := s.stringBytes_length rD n
    exact writeEach_retires hse (bs := s.stringBytes rD n) (by omega) (hlen.symm ▸ h)
  case stswx =>
    have hlen : (s.stringBytes rD k).length = k := s.stringBytes_length rD k
    exact writeEach_retires hse (bs := s.stringBytes rD k) (by omega) (hlen.symm ▸ h)

end Sys2Proof.LoadStore
end

section
/-! PROOFS. The family 44_fp_numerics.md: what a lane holds (R420). -/

namespace Sys2Proof.Machine

/-! ### The fields and the value -/

/-- The sign of what a lane holds, where it is not a NaN. -/
theorem unpack_neg {v : Lane} (h : unpack v ≠ .nan) : (unpack v).neg = v.getLsbD 63 := by
  unfold unpack at h ⊢
  dsimp only at h ⊢
  split
  case isTrue hexp =>
    rw [if_pos hexp] at h
    split
    case isTrue => rfl
    case isFalse hfrac => exact absurd (if_neg hfrac) h
  case isFalse =>
    split
    case isTrue => split <;> rfl
    case isFalse => rfl

/-- A lane holds a zero where both fields are 0. -/
theorem exists_unpack_zero_iff (v : Lane) : (∃ neg, unpack v = .zero neg) ↔ expField v = 0 ∧ fracField v = 0 := by
  unfold unpack
  split
  case isTrue hexp => split <;> simp [hexp]
  case isFalse =>
    split
    case isTrue hzero => split <;> simp_all
    case isFalse hzero => simp [hzero]

/-- The significand and the exponent of a number that is not a zero: the first bit of the significand is at place 52, or
the exponent is the least. -/
theorem unpack_finite_bounds {v : Lane} {neg : Bool} {m : Nat} {e : Int} (h : unpack v = .finite neg m e) :
    m ≠ 0 ∧ m < 2 ^ 53 ∧ -1074 ≤ e ∧ e ≤ 971 ∧ (e = -1074 ∨ 2 ^ 52 ≤ m) := by
  have hfrac := fracField_lt v
  have hexp := expField_lt v
  unfold unpack at h
  dsimp only at h
  split at h
  case isTrue => split at h <;> cases h
  case isFalse =>
    split at h
    case isTrue =>
      split at h
      case isTrue => cases h
      case isFalse hne =>
        cases h
        exact ⟨hne, by omega, le_refl _, by decide, .inl rfl⟩
    case isFalse =>
      cases h
      exact ⟨by omega, by omega, by omega, by omega, .inr (by omega)⟩

/-- A lane by its fields. -/
theorem layout_fields (v : Lane) : layout (v.getLsbD 63) (expField v) (fracField v) = v := by
  refine BitVec.eq_of_toNat_eq ?_
  rw [layout_toNat (expField_lt v) (fracField_lt v), sign_toNat, expField_eq, fracField_eq]
  have := v.isLt
  omega

theorem eq_layout_of_zero {v : Lane} {neg : Bool} (h : unpack v = .zero neg) : v = layout neg 0 0 := by
  obtain ⟨hexp, hfrac⟩ := (exists_unpack_zero_iff v).1 ⟨neg, h⟩
  have hneg : (unpack v).neg = v.getLsbD 63 := unpack_neg (by simp [h])
  rw [h] at hneg
  conv_lhs => rw [← layout_fields v, hexp, hfrac, ← hneg]
  rfl

theorem isNan_eq_false {v : Lane} (h : unpack v ≠ .nan) : isNan v = false :=
  Bool.eq_false_iff.2 fun hnan => h ((isNan_iff v).1 hnan)

theorem isSnan_eq_false {v : Lane} (h : unpack v ≠ .nan) : isSnan v = false := by
  rw [isSnan, isNan_eq_false h, Bool.false_and]

end Sys2Proof.Machine
end

section
/-! PROOFS. The family 44_fp_numerics.md: exact values and the exact operations on them (R427 (5)). -/

namespace Sys2Proof.Machine

/-! ### Values -/

/-- The number a value is; 0 for zeros, infinities and NaNs. -/
def Fp.value : Fp → ℚ
  | .finite neg mant exp => (if neg then -1 else 1) * mant * (2 : ℚ) ^ exp
  | _ => 0

/-- The value is a number other than an infinity, with a significand that is not 0 unless it is a zero. -/
def Fp.IsNumber : Fp → Prop
  | .zero _ => True
  | .finite _ mant _ => mant ≠ 0
  | .inf _ | .nan => False

theorem laneValue_eq (v : Lane) : laneValue v = (unpack v).value := by
  unfold laneValue
  cases unpack v <;> rfl

theorem isFinite_iff (v : Lane) : isFinite v = true ↔ (unpack v).IsNumber := by
  unfold isFinite
  cases hu : unpack v with
  | zero | inf | nan => simp [Fp.IsNumber]
  | finite neg m e => exact ⟨fun _ => (unpack_finite_bounds hu).1, fun _ => rfl⟩

theorem Fp.IsNumber.ne_nan {x : Fp} (h : x.IsNumber) : x ≠ .nan := by
  rintro rfl
  exact h

theorem Fp.value_eq_signedMant (neg : Bool) (m : Nat) (e : Int) :
    (Fp.finite neg m e).value = (signedMant neg m : ℚ) * 2 ^ e := by
  cases neg <;> simp [Fp.value, signedMant]

theorem Fp.abs_value_finite (neg : Bool) (m : Nat) (e : Int) : |(Fp.finite neg m e).value| = m * 2 ^ e := by
  cases neg <;> simp [Fp.value]

/-- A finite value that is not a zero is below 0 where its sign says so. -/
theorem Fp.value_finite_neg_iff {neg : Bool} {m : Nat} (hm : m ≠ 0) (e : Int) :
    (Fp.finite neg m e).value < 0 ↔ neg = true := by
  have hpos : (0 : ℚ) < m * 2 ^ e := by positivity
  cases neg
  · simp only [Fp.value, Bool.false_eq_true, if_false, one_mul, iff_false, not_lt]
    exact hpos.le
  · simpa [Fp.value] using hpos

theorem Fp.value_finite_ne_zero {neg : Bool} {m : Nat} (hm : m ≠ 0) (e : Int) : (Fp.finite neg m e).value ≠ 0 := by
  rw [← abs_ne_zero, Fp.abs_value_finite]
  positivity

/-- A number is 0 where it is a zero. -/
theorem Fp.IsNumber.value_eq_zero_iff {x : Fp} (h : x.IsNumber) : x.value = 0 ↔ ∃ neg, x = .zero neg := by
  cases x with
  | zero neg => simp [Fp.value]
  | finite neg m e => simpa using Fp.value_finite_ne_zero h e
  | inf | nan => exact h.elim

/-- A number that is not 0 is finite. -/
theorem Fp.IsNumber.exists_finite {x : Fp} (h : x.IsNumber) (hx : x.value ≠ 0) :
    ∃ m e, m ≠ 0 ∧ x = .finite (decide (x.value < 0)) m e := by
  cases x with
  | zero neg => exact absurd rfl hx
  | finite neg m e =>
    have hneg : decide ((Fp.finite neg m e).value < 0) = neg := by simp [Fp.value_finite_neg_iff h e]
    exact ⟨m, e, h, by rw [hneg]⟩
  | inf | nan => exact h.elim

/-! ### Negation -/

theorem Fp.negate_value (x : Fp) : x.negate.value = -x.value := by
  cases x with
  | finite neg m e => cases neg <;> simp [Fp.negate, Fp.value]
  | zero | inf | nan => simp [Fp.negate, Fp.value]

theorem Fp.IsNumber.negate {x : Fp} (h : x.IsNumber) : x.negate.IsNumber := by cases x <;> exact h

/-! ### Sums -/

/-- A significand moved to a smaller exponent. -/
theorem scaled_zpow (m : Int) {e e' : Int} (h : e' ≤ e) : ((m * 2 ^ (e - e').toNat : Int) : ℚ) * 2 ^ e' = m * 2 ^ e := by
  have hexp : e = ((e - e').toNat : Int) + e' := by omega
  conv_rhs => rw [hexp, zpow_add₀ (by norm_num), zpow_natCast]
  push_cast
  ring

theorem signedFinite_isNumber (rn : BitVec 2) (v : Int) (e : Int) : (signedFinite rn v e).IsNumber := by
  unfold signedFinite
  split
  · trivial
  · exact Int.natAbs_ne_zero.2 ‹_›

theorem signedMant_natAbs (v : Int) : signedMant (decide (v < 0)) v.natAbs = v := by
  unfold signedMant
  split
  case isTrue h => have := of_decide_eq_true h; omega
  case isFalse h => have := of_decide_eq_false (Bool.eq_false_of_not_eq_true h); omega

theorem signedFinite_value (rn : BitVec 2) (v : Int) (e : Int) : (signedFinite rn v e).value = v * 2 ^ e := by
  unfold signedFinite
  split
  · simp_all [Fp.value]
  · rw [Fp.value_eq_signedMant, signedMant_natAbs]

theorem signedMant_mul (neg : Bool) (m k : Nat) : signedMant neg (m * k) = signedMant neg m * k := by
  cases neg <;> simp [signedMant]

theorem Fp.add_zero_zero (rn : BitVec 2) (a b : Bool) :
    (Fp.zero a).add rn (.zero b) = .zero (if a = b then a else decide (rn = 3)) := (apply_ite Fp.zero ..).symm

theorem Fp.add_finite_finite (rn : BitVec 2) (n1 n2 : Bool) (m1 m2 : Nat) (e1 e2 : Int) :
    (Fp.finite n1 m1 e1).add rn (.finite n2 m2 e2) = signedFinite rn (signedMant n1 (m1 * 2 ^ (e1 - min e1 e2).toNat) +
      signedMant n2 (m2 * 2 ^ (e2 - min e1 e2).toNat)) (min e1 e2) := rfl

/-- The exact sum of two numbers is their sum. -/
theorem Fp.add_spec (rn : BitVec 2) {x y : Fp} (hx : x.IsNumber) (hy : y.IsNumber) :
    (x.add rn y).IsNumber ∧ (x.add rn y).value = x.value + y.value := by
  cases x with
  | inf | nan => exact hx.elim
  | zero a =>
    cases y with
    | inf | nan => exact hy.elim
    | zero b =>
      rw [Fp.add_zero_zero]
      exact ⟨trivial, (add_zero _).symm⟩
    | finite => exact ⟨hy, (zero_add _).symm⟩
  | finite n1 m1 e1 =>
    cases y with
    | inf | nan => exact hy.elim
    | zero b => exact ⟨hx, (add_zero _).symm⟩
    | finite n2 m2 e2 =>
      refine ⟨signedFinite_isNumber .., (signedFinite_value ..).trans ?_⟩
      rw [signedMant_mul, signedMant_mul, Int.cast_add, add_mul, Fp.value_eq_signedMant, Fp.value_eq_signedMant]
      push_cast
      rw [← scaled_zpow _ (min_le_left e1 e2), ← scaled_zpow _ (min_le_right e1 e2)]
      push_cast
      rfl

/-- The sign of an exact sum that is 0 (R426). -/
theorem Fp.add_eq_zero (rn : BitVec 2) {x y : Fp} (hx : x.IsNumber) (hy : y.IsNumber) (h : x.value + y.value = 0) :
    x.add rn y = .zero (if x.neg = y.neg then x.neg else decide (rn = 3)) := by
  cases x with
  | inf | nan => exact hx.elim
  | zero a =>
    cases y with
    | inf | nan => exact hy.elim
    | zero b => exact Fp.add_zero_zero ..
    | finite n m e => exact absurd ((zero_add _).symm.trans h) (Fp.value_finite_ne_zero hy e)
  | finite n1 m1 e1 =>
    cases y with
    | inf | nan => exact hy.elim
    | zero b => exact absurd ((add_zero _).symm.trans h) (Fp.value_finite_ne_zero hx e1)
    | finite n2 m2 e2 =>
      have hne : n1 ≠ n2 := by
        rintro rfl
        have h1 := Fp.value_finite_neg_iff (neg := n1) hx e1
        have h2 := Fp.value_finite_neg_iff (neg := n1) hy e2
        have h0 := Fp.value_finite_ne_zero (neg := n1) hx e1
        cases n1 with
        | true => linarith [h1.2 rfl, h2.2 rfl]
        | false =>
          have hpos : 0 ≤ (Fp.finite false m1 e1).value := not_lt.1 fun hlt => by simpa using h1.1 hlt
          have hpos' : 0 ≤ (Fp.finite false m2 e2).value := not_lt.1 fun hlt => by simpa using h2.1 hlt
          exact h0 (by linarith)
      obtain ⟨hnumber, hsum⟩ := Fp.add_spec rn hx hy
      rw [h, Fp.add_finite_finite] at hsum
      rw [if_neg (show (Fp.finite n1 m1 e1).neg ≠ (Fp.finite n2 m2 e2).neg from hne), Fp.add_finite_finite]
      generalize signedMant n1 _ + signedMant n2 _ = v at hsum
      unfold signedFinite at hsum ⊢
      by_cases hzero : v = 0
      · rw [if_pos hzero]
        rfl
      · rw [if_neg hzero] at hsum
        exact absurd hsum (Fp.value_finite_ne_zero (Int.natAbs_ne_zero.2 hzero) _)

/-! ### Products -/

/-- The exact product of two numbers is their product, with the product of their signs. -/
theorem Fp.mul_spec {x y : Fp} (hx : x.IsNumber) (hy : y.IsNumber) :
    (x.mul y).IsNumber ∧ (x.mul y).value = x.value * y.value ∧ (x.mul y).neg = (x.neg ^^ y.neg) := by
  cases x with
  | inf | nan => exact hx.elim
  | zero a =>
    cases y with
    | inf | nan => exact hy.elim
    | zero b => exact ⟨trivial, (zero_mul _).symm, rfl⟩
    | finite => exact ⟨trivial, (zero_mul _).symm, rfl⟩
  | finite n1 m1 e1 =>
    cases y with
    | inf | nan => exact hy.elim
    | zero b => exact ⟨trivial, (mul_zero _).symm, rfl⟩
    | finite n2 m2 e2 =>
      refine ⟨Nat.mul_ne_zero hx hy, ?_, rfl⟩
      change (if (n1 ^^ n2) = true then (-1 : ℚ) else 1) * ((m1 * m2 : Nat) : ℚ) * 2 ^ (e1 + e2) =
        (if n1 = true then -1 else 1) * m1 * 2 ^ e1 * ((if n2 = true then -1 else 1) * m2 * 2 ^ e2)
      have hsign : (if (n1 ^^ n2) = true then (-1 : ℚ) else 1) =
          (if n1 = true then -1 else 1) * (if n2 = true then -1 else 1) := by cases n1 <;> cases n2 <;> simp
      rw [hsign, zpow_add₀ (by norm_num)]
      push_cast
      ring

/-! ### Order -/

/-- `Fp.lt` orders numbers by their values. -/
theorem Fp.lt_spec {x y : Fp} (hx : x.IsNumber) (hy : y.IsNumber) : x.lt y = decide (x.value < y.value) := by
  obtain ⟨hnumber, hvalue⟩ := Fp.add_spec 0 hx hy.negate
  have hlt : x.lt y = match x.add 0 y.negate with
      | .finite neg _ _ => neg
      | _ => false := by
    cases x with
    | inf | nan => exact hx.elim
    | zero | finite => cases y with
      | inf | nan => exact hy.elim
      | zero | finite => rfl
  rw [Fp.negate_value, ← sub_eq_add_neg] at hvalue
  have hneg : x.value < y.value ↔ (x.add 0 y.negate).value < 0 := by rw [hvalue, sub_neg]
  rw [hlt, Bool.eq_iff_iff, decide_eq_true_iff, hneg]
  generalize x.add 0 y.negate = z at hnumber
  cases z with
  | finite neg m e => exact (Fp.value_finite_neg_iff hnumber e).symm
  | zero => simp [Fp.value]
  | inf | nan => exact hnumber.elim

end Sys2Proof.Machine
end

section
/-! PROOFS. The family 44_fp_numerics.md: rounding a magnitude to the multiples of a unit (R426). -/

namespace Sys2Proof.Machine

section
variable {K : Type} [Field K] [LinearOrder K] [IsStrictOrderedRing K]

/-! ### Magnitudes and signs -/

/-- A magnitude with its sign. -/
def signed (neg : Bool) (x : K) : K := if neg then -x else x

omit [LinearOrder K] [IsStrictOrderedRing K] in
@[simp] theorem signed_true (x : K) : signed true x = -x := rfl
omit [LinearOrder K] [IsStrictOrderedRing K] in
@[simp] theorem signed_false (x : K) : signed false x = x := rfl

theorem abs_signed (neg : Bool) {x : K} (hx : 0 ≤ x) : |signed neg x| = x := by cases neg <;> simp [abs_of_nonneg hx]

omit [IsStrictOrderedRing K] in
theorem abs_signed_sub (neg : Bool) (x y : K) : |signed neg x - signed neg y| = |x - y| := by
  cases neg
  · rfl
  · rw [signed_true, signed_true, neg_sub_neg, abs_sub_comm]

/-- `mant * 2 ^ exp`, and less than a unit more if `sticky`, is the magnitude `x`. -/
structure Approximates (x : K) (mant : Nat) (exp : Int) (sticky : Bool) : Prop where
  lower : (mant : K) * 2 ^ exp ≤ x
  upper : x < (mant + 1) * 2 ^ exp
  exact_iff : x = mant * 2 ^ exp ↔ sticky = false

theorem Approximates.exact (mant : Nat) (exp : Int) : Approximates ((mant : K) * 2 ^ exp) mant exp false where
  lower := le_refl _
  upper := mul_lt_mul_of_pos_right (lt_add_one _) (by positivity)
  exact_iff := by simp

/-- A magnitude in a smaller unit. -/
theorem Approximates.rescale {x : K} {mant : Nat} {exp q : Int} (h : Approximates x mant exp false) (hq : q ≤ exp) :
    Approximates x (mant * 2 ^ (exp - q).toNat) q false := by
  have hx : x = ((mant * 2 ^ (exp - q).toNat : Nat) : K) * 2 ^ q := by
    have hexp : exp = ((exp - q).toNat : Int) + q := by omega
    rw [h.exact_iff.2 rfl]
    conv_lhs => rw [hexp, zpow_add₀ (by norm_num), zpow_natCast]
    push_cast
    ring
  rw [hx]
  exact .exact ..

/-! ### `roundAt` -/

/-- `n` units are the magnitude `x` rounded under RN, with FR and FI (R426 (3)). -/
structure RoundedTo (rn : BitVec 2) (neg : Bool) (x u : K) (n : Nat) (fr fi : Bool) : Prop where
  near : |n * u - x| < u
  fi_iff : fi = true ↔ n * u ≠ x
  fr_iff : fr = true ↔ x < n * u
  nearest : rn = 0 → 2 * |n * u - x| ≤ u ∧ (2 * |n * u - x| = u → n % 2 = 0)
  towardZero : rn = 1 → n * u ≤ x
  up : rn = 2 → if neg then n * u ≤ x else x ≤ n * u
  down : rn = 3 → if neg then x ≤ n * u else n * u ≤ x

theorem roundingModes (rn : BitVec 2) : rn = 0 ∨ rn = 1 ∨ rn = 2 ∨ rn = 3 := by revert rn; decide

section
variable {x u : K} {k : Nat} {inexact above tie : Bool} (hlow : k * u ≤ x) (hhigh : x < k * u + u)
  (hinexact : inexact = true ↔ k * u ≠ x) (habove : above = true ↔ 2 * (k * u) + u < 2 * x)
  (htie : tie = true ↔ 2 * x = 2 * (k * u) + u) (rn : BitVec 2) (neg : Bool)
include hlow hhigh hinexact habove htie

/-- A magnitude between `k` and `k + 1` units goes down where `roundsUp` does not say up. -/
theorem roundedTo_down (h : roundsUp rn neg (decide (k % 2 = 1)) inexact above tie = false) :
    RoundedTo rn neg x u k false inexact := by
  have habs : |k * u - x| = x - k * u := by rw [abs_sub_comm, abs_of_nonneg (by linarith)]
  have hexact : inexact = false → k * u = x := fun hno => not_not.1 fun hne => by simp [hinexact.2 hne] at hno
  refine ⟨by rw [habs]; linarith, hinexact, by simpa using hlow, fun hrn => ?_, fun _ => hlow, fun hrn => ?_, fun hrn => ?_⟩
  · subst hrn
    obtain ⟨hna, hnt⟩ := Bool.or_eq_false_iff.1 h
    have hle : 2 * x ≤ 2 * (k * u) + u := not_lt.1 fun hlt => by simp [habove.2 hlt] at hna
    rw [habs]
    refine ⟨by linarith, fun heq => ?_⟩
    rw [htie.2 (by linarith), Bool.true_and, decide_eq_false_iff_not] at hnt
    omega
  · subst hrn
    cases neg with
    | true => exact hlow
    | false => exact (hexact (by simpa [roundsUp] using h)).ge
  · subst hrn
    cases neg with
    | true => exact (hexact (by simpa [roundsUp] using h)).ge
    | false => exact hlow

/-- A magnitude between `k` and `k + 1` units goes up where `roundsUp` says so. -/
theorem roundedTo_up (h : roundsUp rn neg (decide (k % 2 = 1)) inexact above tie = true) :
    RoundedTo rn neg x u (k + 1) true inexact := by
  have hu : 0 < u := by linarith
  have hnext : ((k + 1 : Nat) : K) * u = k * u + u := by push_cast; ring
  have habs : |k * u + u - x| = k * u + u - x := abs_of_nonneg (by linarith)
  have hlt : k * u < x := by
    obtain rfl | rfl | rfl | rfl := roundingModes rn
    · obtain ha | ht := Bool.or_eq_true_iff.1 h
      · linarith [habove.1 ha]
      · linarith [htie.1 (Bool.and_eq_true_iff.1 ht).1]
    · cases h
    · exact lt_of_le_of_ne hlow (hinexact.1 (Bool.and_eq_true_iff.1 h).1)
    · exact lt_of_le_of_ne hlow (hinexact.1 (Bool.and_eq_true_iff.1 h).1)
  have hfi : inexact = true := hinexact.2 hlt.ne
  refine ⟨?_, ?_, ?_, fun hrn => ?_, fun hrn => ?_, fun hrn => ?_, fun hrn => ?_⟩
  · rw [hnext, habs]
    linarith
  · rw [hnext, hfi]
    exact ⟨fun _ => hhigh.ne', fun _ => rfl⟩
  · rw [hnext]
    exact ⟨fun _ => hhigh, fun _ => rfl⟩
  · subst hrn
    rw [hnext, habs]
    obtain ha | ht := Bool.or_eq_true_iff.1 h
    · have hover := habove.1 ha
      exact ⟨by linarith, fun heq => by linarith⟩
    · obtain ⟨ht, hodd⟩ := Bool.and_eq_true_iff.1 ht
      have hhalf := htie.1 ht
      exact ⟨by linarith, fun _ => by have := of_decide_eq_true hodd; omega⟩
  · subst hrn
    cases h
  · subst hrn
    rw [hnext]
    cases neg with
    | true => simp [roundsUp] at h
    | false => exact hhigh.le
  · subst hrn
    rw [hnext]
    cases neg with
    | true => exact hhigh.le
    | false => simp [roundsUp] at h

end

/-- Where a magnitude of `R` parts and `d` more stands among the halves of the unit of `P` parts. -/
theorem position_in_unit {w d : K} {R P : Nat} {sticky : Bool} (hw : 0 < w) (hd : 0 ≤ d) (hdw : d < w) (hR : R < P)
    (hexact : d = 0 ↔ sticky = false) (heven : sticky = true → P % 2 = 0) :
    (0 ≤ R * w + d ∧ R * w + d < P * w) ∧ ((decide (2 * R ≠ 0) || sticky) = true ↔ R * w + d ≠ 0) ∧
    ((decide (P < 2 * R) || (decide (2 * R = P) && sticky)) = true ↔ P * w < 2 * (R * w + d)) ∧
    ((decide (2 * R = P) && !sticky) = true ↔ 2 * (R * w + d) = P * w) := by
  have hscale : ∀ {a b : Nat}, a ≤ b → (a : K) * w ≤ b * w := fun h => mul_le_mul_of_nonneg_right (Nat.cast_le.2 h) hw.le
  have hscale' : ∀ {a b : Nat}, a < b → (a : K) * w < b * w := fun h => mul_lt_mul_of_pos_right (Nat.cast_lt.2 h) hw
  have hnext := hscale (Nat.succ_le_of_lt hR)
  have hpos : (0 : K) ≤ R * w := by positivity
  push_cast [add_mul] at hnext
  have hlow : 2 * R < P → 2 * (R * w + d) < P * w := fun hlt => by
    cases sticky with
    | true =>
      have hle := hscale (show 2 * R + 2 ≤ P by have := heven rfl; omega)
      push_cast [add_mul] at hle
      linarith
    | false =>
      have hle := hscale' hlt
      push_cast [hexact.2 rfl] at hle ⊢
      linarith
  have hhigh : P < 2 * R → P * w < 2 * (R * w + d) := fun hlt => by
    have hle := hscale' hlt
    push_cast at hle
    linarith
  have hhalf : 2 * R = P → P * w = 2 * (R * w) := fun heq => by rw [← heq]; push_cast; ring
  have hd0 : sticky = true ↔ 0 < d := by
    rw [← not_iff_not, Bool.not_eq_true, ← hexact, not_lt]
    exact ⟨fun h => h.le, fun h => le_antisymm h hd⟩
  refine ⟨⟨by positivity, by linarith⟩, ?_, ?_, ?_⟩
  · rw [Bool.or_eq_true_iff, decide_eq_true_iff, hd0]
    constructor
    · rintro (h | h)
      · have : (0 : K) < R * w := by have : R ≠ 0 := by omega
                                     positivity
        linarith
      · linarith
    · intro h
      by_contra hno
      obtain ⟨hR0, hd1⟩ := not_or.1 hno
      refine h ?_
      rw [show R = 0 by omega, le_antisymm (not_lt.1 hd1) hd]
      simp
  · rw [Bool.or_eq_true_iff, Bool.and_eq_true_iff, decide_eq_true_iff, decide_eq_true_iff, hd0]
    obtain hlt | heq | hgt := lt_trichotomy (2 * R) P
    · exact ⟨fun h => by omega, fun h => absurd h (hlow hlt).le.not_gt⟩
    · rw [hhalf heq]
      exact ⟨fun h => by have := (h.resolve_left (by omega)).2; linarith, fun h => .inr ⟨heq, by linarith⟩⟩
    · exact ⟨fun _ => hhigh hgt, fun _ => .inl hgt⟩
  · rw [Bool.and_eq_true_iff, decide_eq_true_iff, Bool.not_eq_true', ← hexact]
    obtain hlt | heq | hgt := lt_trichotomy (2 * R) P
    · exact ⟨fun h => by omega, fun h => absurd h (hlow hlt).ne⟩
    · rw [hhalf heq]
      exact ⟨fun h => by rw [h.2, add_zero], fun h => ⟨heq, by linarith⟩⟩
    · exact ⟨fun h => by omega, fun h => absurd h (hhigh hgt).ne'⟩

/-- Rounding a significand in parts of which `2 ^ up` make the unit `2 ^ q`. -/
theorem Approximates.roundedTo {x : K} {m up : Nat} {q : Int} {sticky : Bool} (h : Approximates x m (q - up) sticky)
    (hup : sticky = true → up ≠ 0) (rn : BitVec 2) (neg : Bool) {inexact : Bool} {fr : Bool}
    (hinexact : inexact = (decide (2 * (m % 2 ^ up) ≠ 0) || sticky))
    (hfr : fr = roundsUp rn neg (decide (m / 2 ^ up % 2 = 1)) inexact
      (decide (2 ^ up < 2 * (m % 2 ^ up)) || (decide (2 * (m % 2 ^ up) = 2 ^ up) && sticky))
      (decide (2 * (m % 2 ^ up) = 2 ^ up) && !sticky)) :
    RoundedTo rn neg x (2 ^ q) (if fr then m / 2 ^ up + 1 else m / 2 ^ up) fr inexact := by
  obtain ⟨hlower, hupper, hexact⟩ := h
  have hw : (0 : K) < 2 ^ (q - up : Int) := by positivity
  have hq : (2 : K) ^ q = ((2 ^ up : Nat) : K) * 2 ^ (q - up : Int) := by
    conv_lhs => rw [show q = (up : Int) + (q - up) by ring, zpow_add₀ (by norm_num), zpow_natCast]
    push_cast
    rfl
  have hm : (m : K) = ((m / 2 ^ up : Nat) : K) * ((2 ^ up : Nat) : K) + ((m % 2 ^ up : Nat) : K) := by
    exact_mod_cast (Nat.div_add_mod' m (2 ^ up)).symm
  have heven : sticky = true → 2 ^ up % 2 = 0 := fun hs => by
    obtain ⟨j, hj⟩ := Nat.exists_eq_succ_of_ne_zero (hup hs)
    rw [hj, pow_succ, Nat.mul_mod_left]
  have hmw : (m : K) * 2 ^ (q - up : Int) = ((m / 2 ^ up : Nat) : K) * 2 ^ q + ((m % 2 ^ up : Nat) : K) * 2 ^ (q - up : Int) := by
    rw [hq, hm]
    push_cast
    ring
  generalize hk : m / 2 ^ up = k at *
  generalize hR : m % 2 ^ up = R at *
  have hRP : R < 2 ^ up := by rw [← hR]; exact Nat.mod_lt _ (by positivity)
  obtain ⟨⟨h0, h1⟩, h2, h3, h4⟩ := position_in_unit (d := x - m * 2 ^ (q - up : Int)) (sticky := sticky) hw (by linarith)
    (by linarith) hRP (by rw [← hexact, sub_eq_zero]) heven
  have hx : (R : K) * 2 ^ (q - up : Int) + (x - m * 2 ^ (q - up : Int)) = x - k * 2 ^ q := by rw [hmw]; ring
  rw [hx] at h0 h1 h2 h3 h4
  rw [← hq] at h1 h3 h4
  rw [← hinexact] at h2
  have hinexact' : inexact = true ↔ (k : K) * 2 ^ q ≠ x := by rw [h2, sub_ne_zero, ne_comm]
  cases fr with
  | false =>
    exact roundedTo_down (by linarith) (by linarith) hinexact' (h3.trans ⟨fun h => by linarith, fun h => by linarith⟩)
      (h4.trans ⟨fun h => by linarith, fun h => by linarith⟩) rn neg hfr.symm
  | true =>
    exact roundedTo_up (by linarith) (by linarith) hinexact' (h3.trans ⟨fun h => by linarith, fun h => by linarith⟩)
      (h4.trans ⟨fun h => by linarith, fun h => by linarith⟩) rn neg hfr.symm

/-- `roundAt` rounds the magnitude to units of `2 ^ q`. -/
theorem roundAt_roundedTo {x : K} {mant : Nat} {exp q : Int} {sticky : Bool} (h : Approximates x mant exp sticky)
    (hq : sticky = true → exp < q) (rn : BitVec 2) (neg : Bool) :
    RoundedTo rn neg x (2 ^ q) (roundAt rn neg mant exp sticky q).n (roundAt rn neg mant exp sticky q).fr
      (roundAt rn neg mant exp sticky q).fi := by
  have hm : Approximates x (mant * 2 ^ (exp - q).toNat) (q - (q - exp).toNat) sticky := by
    obtain hle | hlt := le_or_gt q exp
    · have hs : sticky = false := Bool.eq_false_iff.2 fun hs => absurd (hq hs) hle.not_gt
      rw [show q - ((q - exp).toNat : Int) = q by omega]
      subst hs
      exact h.rescale hle
    · rw [show q - ((q - exp).toNat : Int) = exp by omega, show (exp - q).toNat = 0 by omega, pow_zero, mul_one]
      exact h
  exact hm.roundedTo (fun hs => by have := hq hs; omega) rn neg rfl rfl

/-! ### The best of the candidates -/

/-- `y` is a number of units, or is nearer to 0 than a number of units that the magnitude `x` reaches. -/
def Candidate (u x y : K) : Prop := (∃ j : Int, y = j * u) ∨ ∃ k : Nat, |y| < k * u ∧ k * u ≤ x

omit [IsStrictOrderedRing K] in
theorem Candidate.neg {u x y : K} (h : Candidate u x y) : Candidate u x (-y) := by
  obtain ⟨j, hj⟩ | ⟨k, hk⟩ := h
  · exact .inl ⟨-j, by rw [hj]; push_cast; ring⟩
  · exact .inr ⟨k, by rwa [abs_neg]⟩

omit [IsStrictOrderedRing K] in
theorem Candidate.signed {u x y : K} (h : Candidate u x y) (neg : Bool) : Candidate u x (signed neg y) := by
  cases neg with
  | true => exact h.neg
  | false => exact h

omit [IsStrictOrderedRing K] in
theorem Candidate.abs {u x y : K} (h : Candidate u x y) : Candidate u x |y| := by
  obtain habs | habs := abs_choice y
  · rwa [habs]
  · rw [habs]
    exact h.neg

section
variable {rn : BitVec 2} {neg fr fi : Bool} {x u y : K} {n : Nat} (h : RoundedTo rn neg x u n fr fi)
include h

theorem RoundedTo.unit_pos : 0 < u := (abs_nonneg _).trans_lt h.near

/-- A candidate not above the magnitude is not above what it was rounded to. -/
theorem RoundedTo.le_of_le (hy : Candidate u x y) (hyx : y ≤ x) : y ≤ n * u := by
  have hu := h.unit_pos
  have hnear : x < n * u + u := by linarith [(abs_lt.1 h.near).1]
  have hunits : ∀ j : Int, j * u ≤ x → (j : K) * u ≤ n * u := fun j hj => by
    have hlt : (j : K) < ((n + 1 : Int) : K) := by
      refine lt_of_mul_lt_mul_right ?_ hu.le
      push_cast
      linarith
    refine mul_le_mul_of_nonneg_right ?_ hu.le
    exact_mod_cast Int.lt_add_one_iff.1 (Int.cast_lt.1 hlt)
  obtain ⟨j, rfl⟩ | ⟨k, hk, hkx⟩ := hy
  · exact hunits j hyx
  · have hkn := hunits k (by exact_mod_cast hkx)
    push_cast at hkn
    linarith [le_abs_self y]

/-- A candidate not below the magnitude is not below what it was rounded to. -/
theorem RoundedTo.ge_of_ge (hy : Candidate u x y) (hyx : x ≤ y) : n * u ≤ y := by
  have hu := h.unit_pos
  have hnear : n * u < x + u := by linarith [(abs_lt.1 h.near).2]
  obtain ⟨j, rfl⟩ | ⟨k, hk, hkx⟩ := hy
  · have hlt : ((n : Int) : K) < ((j + 1 : Int) : K) := by
      refine lt_of_mul_lt_mul_right ?_ hu.le
      push_cast
      linarith
    refine mul_le_mul_of_nonneg_right ?_ hu.le
    exact_mod_cast Int.lt_add_one_iff.1 (Int.cast_lt.1 hlt)
  · linarith [le_abs_self y]

/-- Up: the smallest candidate not below. -/
theorem RoundedTo.best_up (hrn : rn = 2) : signed neg x ≤ signed neg (n * u) ∧
    ∀ y, Candidate u x y → signed neg x ≤ y → signed neg (n * u) ≤ y := by
  have hup := h.up hrn
  cases neg with
  | true => exact ⟨neg_le_neg hup, fun _ hy hyx => neg_le.1 (h.le_of_le hy.neg (neg_le.1 hyx))⟩
  | false => exact ⟨hup, fun _ hy hyx => h.ge_of_ge hy hyx⟩

/-- Down: the largest candidate not above. -/
theorem RoundedTo.best_down (hrn : rn = 3) : signed neg (n * u) ≤ signed neg x ∧
    ∀ y, Candidate u x y → y ≤ signed neg x → y ≤ signed neg (n * u) := by
  have hdown := h.down hrn
  cases neg with
  | true => exact ⟨neg_le_neg hdown, fun _ hy hyx => le_neg.1 (h.ge_of_ge hy.neg (le_neg.1 hyx))⟩
  | false => exact ⟨hdown, fun _ hy hyx => h.le_of_le hy hyx⟩

/-- To nearest: no number of units is nearer, and another is as near only at an even number of units. -/
theorem RoundedTo.nearest_units (hrn : rn = 0) (j : Int) :
    |n * u - x| ≤ |j * u - x| ∧ (|n * u - x| = |j * u - x| → (j : K) * u ≠ n * u → n % 2 = 0) := by
  obtain ⟨hhalf, heven⟩ := h.nearest hrn
  by_cases hj : j = n
  · subst hj
    exact ⟨by push_cast; exact le_refl _, fun _ hne => absurd (by push_cast; rfl) hne⟩
  · have hu := h.unit_pos
    have hone : (1 : K) ≤ |(j : K) - n| := by
      exact_mod_cast Int.one_le_abs (sub_ne_zero.2 hj)
    have hgap : u ≤ |j * u - n * u| := by
      rw [← sub_mul, abs_mul, abs_of_pos hu]
      exact le_mul_of_one_le_left hu.le hone
    have htriangle : |j * u - n * u| ≤ |j * u - x| + |n * u - x| := by
      rw [abs_sub_comm ((n : K) * u) x]
      exact abs_sub_le _ _ _
    exact ⟨by linarith, fun heq _ => heven (by linarith)⟩

/-- To nearest: no candidate is nearer, and another is as near only at an even number of units. -/
theorem RoundedTo.best_nearest (hrn : rn = 0) (hy : Candidate u x y) :
    |signed neg (n * u) - signed neg x| ≤ |y - signed neg x| ∧
      (|signed neg (n * u) - signed neg x| = |y - signed neg x| → y ≠ signed neg (n * u) → n % 2 = 0) := by
  have hinvolutive : ∀ w : K, Machine.signed neg (Machine.signed neg w) = w := fun w => by cases neg <;> simp
  obtain ⟨w, hw⟩ : ∃ w, y = Machine.signed neg w := ⟨Machine.signed neg y, (hinvolutive y).symm⟩
  have hcandidate : Candidate u x w := by
    have := hy.signed neg
    rwa [hw, hinvolutive] at this
  rw [hw, abs_signed_sub, abs_signed_sub]
  obtain ⟨j, rfl⟩ | ⟨k, hk, hkx⟩ := hcandidate
  · obtain ⟨hle, heven⟩ := h.nearest_units hrn j
    exact ⟨hle, fun heq hne => heven heq fun hsame => hne (by rw [hsame])⟩
  · have hle := (h.nearest_units hrn k).1
    have hlt : |((k : Int) : K) * u - x| < |w - x| := by
      push_cast
      rw [abs_of_nonpos (by linarith), abs_of_neg (by linarith [le_abs_self w])]
      linarith [le_abs_self w]
    exact ⟨(hle.trans_lt hlt).le, fun heq => absurd heq (hle.trans_lt hlt).ne⟩

end

end

end Sys2Proof.Machine
end

section
/-! PROOFS. The family 44_fp_numerics.md: the template of the operations (R427 to R435). -/

namespace Sys2Proof.Machine

/-! ### Invalid operations and NaNs -/

/-- The outcome of an invalid operation or a NaN operand: not rounded, and not written where VE enables what it raises;
else a NaN (R427 (2), R428, R435). -/
structure FpOut.NanOutcome (v raised : Word) (r : Lane) (o : FpOut) : Prop where
  fr : o.fr = false
  fi : o.fi = false
  frOpen : o.frOpen = false
  raised_eq : o.raised = raised
  writes_eq : o.writes = (decide (raised = 0) || !veOf v)
  result : o.writes = true → o.result = r ∧ o.fprf = classNan

theorem resolve_vx (v : Word) {vx : Word} (h : vx ≠ 0) (nan : Option Lane) (rest : FpOut) :
    (resolve v vx nan rest).NanOutcome v vx ((nan.map quiet).getD defaultNan) := by
  rw [show resolve v vx nan rest = if veOf v then .suppressed vx else .exact vx ((nan.map quiet).getD defaultNan) classNan
    from if_pos h]
  cases hve : veOf v with
  | true => exact ⟨rfl, rfl, rfl, rfl, by rw [decide_eq_false h, hve]; rfl, fun hw => by cases hw⟩
  | false => exact ⟨rfl, rfl, rfl, rfl, by simp [hve, FpOut.exact], fun _ => ⟨rfl, rfl⟩⟩

/-- A NaN operand. -/
theorem resolve_nan (v vx : Word) (n : Lane) (rest : FpOut) : (resolve v vx (some n) rest).NanOutcome v vx (quiet n) := by
  by_cases h : vx = 0
  · subst h
    exact ⟨rfl, rfl, rfl, rfl, rfl, fun _ => ⟨rfl, rfl⟩⟩
  · exact resolve_vx v h (some n) rest

theorem resolve_none (v : Word) (rest : FpOut) : resolve v 0 none rest = rest := rfl

/-- No operand is a NaN. -/
theorem snanBits_eq_zero {vs : List Lane} (h : ∀ w ∈ vs, unpack w ≠ .nan) : snanBits vs = 0 := by
  have hany : vs.any isSnan = false := List.any_eq_false.2 fun w hw => by simp [isSnan_eq_false (h w hw)]
  rw [snanBits, hany]
  rfl

theorem snanBits_or {vs : List Lane} (h : ∀ w ∈ vs, unpack w ≠ .nan) (bits : Word) : snanBits vs ||| bits = bits := by
  rw [snanBits_eq_zero h]
  exact BitVec.zero_or

theorem find?_isNan_eq_none {vs : List Lane} (h : ∀ w ∈ vs, unpack w ≠ .nan) : vs.find? isNan = none :=
  List.find?_eq_none.2 fun w hw => by simp [isNan_eq_false (h w hw)]

theorem exists_nan_of_find? {vs : List Lane} {n : Lane} (h : vs.find? isNan = some n) : ∃ w ∈ vs, unpack w = .nan :=
  ⟨n, List.mem_of_find?_eq_some h, (isNan_iff n).1 (List.find?_some h)⟩

theorem isiBits_of_isNumber {x : Fp} (h : x.IsNumber) (y : Fp) : isiBits x y = 0 := by
  cases x with
  | zero | finite => rfl
  | inf | nan => exact h.elim

theorem imzBits_of_isNumber {x y : Fp} (hx : x.IsNumber) (hy : y.IsNumber) : imzBits x y = 0 := by
  cases x with
  | inf | nan => exact hx.elim
  | zero | finite => cases y with
    | inf | nan => exact hy.elim
    | zero | finite => rfl

/-! ### The operations on operands that are not NaNs -/

section
variable (p : Precision) (v : Word) {a b c : Lane}

theorem fpAdd_eq (ha : unpack a ≠ .nan) (hb : unpack b ≠ .nan) : fpAdd p v a b =
    resolve v (isiBits (unpack a) (unpack b)) none (deliver p v ((unpack a).add (rnOf v) (unpack b)) false) := by
  have hall : ∀ w ∈ [a, b], unpack w ≠ .nan := by simpa using ⟨ha, hb⟩
  rw [fpAdd, snanBits_or hall, find?_isNan_eq_none hall]

theorem fpSub_eq (ha : unpack a ≠ .nan) (hb : unpack b ≠ .nan) : fpSub p v a b =
    resolve v (isiBits (unpack a) (unpack b).negate) none
      (deliver p v ((unpack a).add (rnOf v) (unpack b).negate) false) := by
  have hall : ∀ w ∈ [a, b], unpack w ≠ .nan := by simpa using ⟨ha, hb⟩
  rw [fpSub, snanBits_or hall, find?_isNan_eq_none hall]

theorem fpMul_eq (ha : unpack a ≠ .nan) (hc : unpack c ≠ .nan) : fpMul p v a c =
    resolve v (imzBits (unpack a) (unpack c)) none (deliver p v ((unpack a).mul (unpack c)) false) := by
  have hall : ∀ w ∈ [a, c], unpack w ≠ .nan := by simpa using ⟨ha, hc⟩
  rw [fpMul, snanBits_or hall, find?_isNan_eq_none hall]

/-- What the division gives where no condition of R428 holds. -/
def dividedOut (p : Precision) (v : Word) (x y : Fp) : FpOut :=
  match x, y with
  | .finite na _ _, .zero nb => zeroDivide v (na ^^ nb)
  | x, y => deliver p v (x.div y).1 (x.div y).2

theorem fpDiv_eq (ha : unpack a ≠ .nan) (hb : unpack b ≠ .nan) : fpDiv p v a b =
    resolve v (divBits (unpack a) (unpack b)) none (dividedOut p v (unpack a) (unpack b)) := by
  have hall : ∀ w ∈ [a, b], unpack w ≠ .nan := by simpa using ⟨ha, hb⟩
  rw [fpDiv, snanBits_or hall, find?_isNan_eq_none hall]
  rfl

theorem fpMulAdd_eq (sub : Bool) (ha : unpack a ≠ .nan) (hc : unpack c ≠ .nan) (hb : unpack b ≠ .nan) :
    fpMulAdd p v sub a c b = resolve v
      (imzBits (unpack a) (unpack c) ||| isiBits ((unpack a).mul (unpack c)) ((unpack b).negateIf sub)) none
      (deliver p v (((unpack a).mul (unpack c)).add (rnOf v) ((unpack b).negateIf sub)) false) := by
  have hall : ∀ w ∈ [a, b, c], unpack w ≠ .nan := by simpa using ⟨ha, hb, hc⟩
  rw [fpMulAdd, snanBits_or hall, find?_isNan_eq_none hall]

/-- The square root's own invalid condition (R428): a negative number or -infinity. -/
def sqrtBits : Fp → Word
  | .inf true | .finite true _ _ => vxsqrtBit
  | _ => 0

theorem fpSqrt_eq (ha : unpack a ≠ .nan) : fpSqrt p v a = resolve v (sqrtBits (unpack a)) none
      (deliver p v (unpack a).sqrt.1 (unpack a).sqrt.2) := by
  have hall : ∀ w ∈ [a], unpack w ≠ .nan := by simpa using ha
  rw [fpSqrt, snanBits_or hall, find?_isNan_eq_none hall]
  rfl

theorem fpRoundSingle_eq (ha : unpack a ≠ .nan) : fpRoundSingle v a = deliver single v (unpack a) false := by
  have hall : ∀ w ∈ [a], unpack w ≠ .nan := by simpa using ha
  rw [fpRoundSingle, snanBits_eq_zero hall, find?_isNan_eq_none hall, isNan_eq_false ha]
  rfl

end

end Sys2Proof.Machine
end

section
/-! PROOFS. The family 44_fp_numerics.md: the floating-point moves (R437, R487 to R492, R500). -/

namespace Sys2Proof.Machine

/-! ### The sign of a lane -/

theorem getLsbD_signBit {j : Nat} (hj : j < 64) : (0x8000000000000000 : Lane).getLsbD j = decide (j = 63) := by
  revert j
  decide

theorem getLsbD_withSign (v : Lane) (neg : Bool) {j : Nat} (hj : j < 64) :
    (withSign v neg).getLsbD j = if j = 63 then neg else v.getLsbD j := by
  rw [withSign, BitVec.getLsbD_append, BitVec.getLsbD_extractLsb', BitVec.getLsbD_ofBool, Nat.zero_add]
  by_cases h : j = 63
  · simp [h]
  · simp [h, show j < 63 by omega]

theorem withSign_false (v : Lane) : withSign v false = v &&& 0x7FFFFFFFFFFFFFFF := by
  have hmask : ∀ j < 64, (0x7FFFFFFFFFFFFFFF : Lane).getLsbD j = !decide (j = 63) := by decide
  refine BitVec.eq_of_getLsbD_eq fun j hj => ?_
  rw [getLsbD_withSign v _ hj, BitVec.getLsbD_and, hmask j hj]
  split <;> simp_all

theorem withSign_true (v : Lane) : withSign v true = v ||| 0x8000000000000000 := by
  refine BitVec.eq_of_getLsbD_eq fun j hj => ?_
  rw [getLsbD_withSign v _ hj, BitVec.getLsbD_or, getLsbD_signBit hj]
  split <;> simp_all

/-- A lane without its sign is 0 where both fields are. -/
theorem magnitude_eq_zero_iff (v : Lane) : v &&& 0x7FFFFFFFFFFFFFFF = 0 ↔ expField v = 0 ∧ fracField v = 0 := by
  have hand : (v &&& 0x7FFFFFFFFFFFFFFF).toNat = v.toNat % 2 ^ 63 := by
    rw [BitVec.toNat_and, ← Nat.and_two_pow_sub_one_eq_mod]
    rfl
  rw [← BitVec.toNat_inj, hand, expField_eq, fracField_eq, show (0 : Lane).toNat = 0 from rfl]
  omega

/-- `fsel` takes its first choice where the sign is clear or the number is a zero (R492). -/
theorem selectsFirst_iff (v : Lane) : selectsFirst v = true ↔
    isNan v = false ∧ (v.getLsbD 63 = false ∨ v &&& 0x7FFFFFFFFFFFFFFF = 0) := by
  rw [magnitude_eq_zero_iff, ← exists_unpack_zero_iff, Bool.eq_false_iff, ne_eq, isNan_iff, selectsFirst]
  cases hu : unpack v with
  | nan => simp
  | zero neg => simp
  | finite neg m e | inf neg =>
    have hneg : v.getLsbD 63 = neg := by rw [← unpack_neg (by simp [hu]), hu]; rfl
    rw [hneg]
    simp

/-! ### Completed moves -/

/-- A move of lane 0 completes and changes nothing else. -/
theorem setF0_moveEnds {s : State} (hfp : s.msrFp = true) (hse : s.msrSe = false) (frD : FReg) (rc : Bool) (v : Lane) :
    ∃ t, withFp s ((s.setF0 frD v).finishMove rc) = .next t ∧ FpMoveEnds s t frD rc v (s.f1 frD) := by
  have heq := (s.setF0 frD v).recordCr1If_eq rc
  refine ⟨_, (withFp_of_on hfp).trans (State.finishMove_untraced (s := s.setF0 frD v) hse rc), ?_, ?_, ?_,
    fpEnds_recorded rc rfl (fun r hr => ⟨State.f0_setF0_other _ _ hr, rfl⟩) rfl⟩
  · rw [heq]
    exact State.f0_setF0_same ..
  · rw [heq]
    rfl
  · exact State.recordCr1If_fpscr ..

end Sys2Proof.Machine

namespace Sys2Proof.FpNumerics

open Sys2Proof.Machine

/-- Settles O38: each is a move of lane 0; the signs by their bits. -/
theorem fpMoves : Obligations.FpMoves := by
  intro frD frA frB frC rc s hfp hse a b old
  have moves := fun v => setF0_moveEnds hfp hse frD rc v
  refine ⟨moves _, moves _, ?_, ?_, ?_⟩
  · rw [← withSign_false]
    exact moves _
  · rw [← withSign_true]
    exact moves _
  · simp only [← selectsFirst_iff]
    exact moves _

end Sys2Proof.FpNumerics
end

section
/-! PROOFS. The family 44_fp_numerics.md: the floating-point and paired compares (R498, R499, R705 to R708). -/

namespace Sys2Proof.Machine

/-! ### Order -/

theorem laneLess_eq_lt {a b : Lane} (ha : unpack a ≠ .nan) (hb : unpack b ≠ .nan) :
    laneLess a b = (unpack a).lt (unpack b) := by
  have hnumbers : (unpack a).IsNumber → (unpack b).IsNumber → decide (laneValue a < laneValue b) =
      (unpack a).lt (unpack b) := fun hx hy => by rw [Fp.lt_spec hx hy, laneValue_eq, laneValue_eq]
  unfold laneLess
  cases hu : unpack a with
  | nan => exact absurd hu ha
  | inf x => cases hw : unpack b with
    | nan => exact absurd hw hb
    | inf | zero | finite => rfl
  | zero | finite => cases hw : unpack b with
    | nan => exact absurd hw hb
    | inf => rfl
    | zero | finite =>
      have hlt := hnumbers ((isFinite_iff a).1 (by rw [isFinite, hu])) ((isFinite_iff b).1 (by rw [isFinite, hw]))
      rw [hu, hw] at hlt
      exact hlt

/-- Of two lanes at most one is the smaller. -/
theorem laneLess_asymm {a b : Lane} (h : laneLess a b = true) : laneLess b a = false := by
  have hvalues : decide (laneValue a < laneValue b) = true → decide (laneValue b < laneValue a) = false := fun hlt =>
    decide_eq_false (of_decide_eq_true hlt).le.not_gt
  revert h
  unfold laneLess
  cases unpack a with
  | inf x => cases unpack b with
    | inf y => cases x <;> cases y <;> simp
    | zero | finite | nan => cases x <;> simp
  | zero | finite | nan => cases unpack b with
    | inf y => cases y <;> simp
    | zero | finite | nan => exact hvalues

/-- The model's comparison is the order of what the lanes hold. -/
theorem fpCompare_eq (a b : Lane) : fpCompare a b = laneOrder a b := by
  unfold fpCompare laneOrder
  split
  case isTrue => rfl
  case isFalse h =>
    obtain ⟨ha, hb⟩ := not_or.1 fun hor => h (Bool.or_eq_true_iff.2 hor)
    rw [isNan_iff] at ha hb
    rw [← laneLess_eq_lt ha hb, ← laneLess_eq_lt hb ha]
    cases hlt : laneLess a b with
    | true => rw [laneLess_asymm hlt]; rfl
    | false => cases laneLess b a <;> rfl

/-! ### FPSCR after a compare -/

/-- FPSCR with FPCC replaced, as `State.compareLanes` writes it. -/
def withFpcc (v : Word) (c : BitVec 4) : Word := (v &&& (0xFFFF0FFF : Word)) ||| ((c.setWidth 32 : Word) <<< 12)

theorem State.compareLanes_eq (s : State) (f : CrField) (a b : Lane) (raised : Word) : s.compareLanes f a b raised =
    ({ s with fpscr := raiseBits (withFpcc s.fpscr (laneOrder a b)) raised }.setCrf f (laneOrder a b)).finishFp false := by
  rw [← fpCompare_eq]
  rfl

theorem getLsbD_withFpcc (v : Word) (c : BitVec 4) {j : Nat} (hj : j < 32) :
    (withFpcc v c).getLsbD j = if 12 ≤ j ∧ j < 16 then c.getLsbD (j - 12) else v.getLsbD j := by
  have hmask : ∀ k < 32, (0xFFFF0FFF : Word).getLsbD k = !decide (12 ≤ k ∧ k < 16) := by decide
  have hc : 4 ≤ j - 12 → c.getLsbD (j - 12) = false := BitVec.getLsbD_of_ge _ _
  rw [withFpcc, BitVec.getLsbD_or, BitVec.getLsbD_and, hmask j hj, BitVec.getLsbD_shiftLeft, BitVec.getLsbD_setWidth]
  grind

/-- FPSCR after a compare that raised exception bits: FPCC is the result, these bits accumulate, and FX is set where one
of them was 0. -/
structure Compared (v w : Word) (c : BitVec 4) (raised : Word) : Prop where
  fpcc : w.extractLsb' 12 4 = c
  kept : w &&& 0x000700FF = v &&& 0x000700FF
  exceptions : w &&& 0x1FF80700 = (v ||| raised) &&& 0x1FF80700
  fx : w.getLsbD 31 = (v.getLsbD 31 || decide (raised &&& ~~~v ≠ 0))

theorem compared_raiseBits (v : Word) (c : BitVec 4) {raised : Word} (hraised : raised &&& exceptionBits = raised) :
    Compared v (raiseBits (withFpcc v c) raised) c raised := by
  have hplace : ∀ j < 32, 12 ≤ j ∧ j < 16 ∨ (0x000700FF : Word).getLsbD j = true →
      j < 31 ∧ j ≠ 30 ∧ j ≠ 29 ∧ j ≠ 11 ∧ exceptionBits.getLsbD j = false := by decide
  have hkeep : ∀ j < 32, (0x000700FF : Word).getLsbD j = true → ¬(12 ≤ j ∧ j < 16) := by decide
  have hbit := fun (j : Nat) (hj : j < 32) (h : 12 ≤ j ∧ j < 16 ∨ (0x000700FF : Word).getLsbD j = true) =>
    have ⟨h31, h30, h29, h11, hexc⟩ := hplace j hj h
    (raiseBits_getLsbD (withFpcc v c) raised h31 h30 h29 h11).trans
      (by rw [hexc, Bool.and_false, Bool.or_false, getLsbD_withFpcc v c hj])
  refine ⟨BitVec.eq_of_getLsbD_eq fun i hi => ?_, and_mask_congr fun j hj hm => ?_, and_mask_congr fun j hj hm => ?_, ?_⟩
  · rw [BitVec.getLsbD_extractLsb', hbit _ (by omega) (.inl (by omega)), if_pos (by omega), Nat.add_sub_cancel_left]
    simp [hi]
  · rw [hbit j hj (.inr hm), if_neg (hkeep j hj hm)]
  · obtain ⟨h31, h30, h29, hout⟩ := exceptionBits_place j hj hm
    have hexc : exceptionBits.getLsbD j = true := hm
    rw [raiseBits_getLsbD _ _ h31 h30 h29 (by omega), hexc, Bool.and_true, getLsbD_withFpcc v c hj, if_neg (by omega),
      BitVec.getLsbD_or]
  · have hnew : raised &&& exceptionBits &&& ~~~(withFpcc v c) = raised &&& ~~~v := by
      rw [hraised]
      refine BitVec.eq_of_getLsbD_eq fun j hj => ?_
      rw [BitVec.getLsbD_and, BitVec.getLsbD_and, BitVec.getLsbD_not, BitVec.getLsbD_not, getLsbD_withFpcc v c hj]
      split
      case isTrue hin =>
        have hno : raised.getLsbD j = false := by
          rw [← hraised, BitVec.getLsbD_and, (hplace j hj (.inl hin)).2.2.2.2, Bool.and_false]
        rw [hno, Bool.false_and, Bool.false_and]
      case isFalse => rfl
    rw [raiseBits_getLsbD_fx, hnew, getLsbD_withFpcc v c (by decide), if_neg (by decide)]

/-! ### The exception bits of a compare -/

/-- What a compare raises (R498, R499): VXSNAN for a signalling NaN, and for the ordered forms VXVC for a NaN, unless a
signalling one meets VE = 1. -/
def comparedBits (ve ordered : Bool) (a b : Lane) : Word :=
  (if isSnan a || isSnan b then 0x01000000 else 0) |||
    (if ordered && (isNan a || isNan b) && !((isSnan a || isSnan b) && ve) then 0x00080000 else 0)

theorem unorderedBits_eq (ve : Bool) (a b : Lane) : unorderedBits a b = comparedBits ve false a b := by
  have hany : [a, b].any isSnan = (isSnan a || isSnan b) := by simp
  unfold unorderedBits snanBits comparedBits
  rw [hany]
  exact (BitVec.or_zero ..).symm

theorem orderedBits_eq (v : Word) (a b : Lane) : orderedBits v a b = comparedBits (v.getLsbD 7) true a b := by
  have hve : veOf v = v.getLsbD 7 := rfl
  have hnan : ∀ x, isSnan x = true → isNan x = true := fun x h => (Bool.and_eq_true_iff.1 h).1
  unfold orderedBits comparedBits
  rw [hve]
  by_cases h : (isSnan a || isSnan b) = true
  · have hor : (isNan a || isNan b) = true := (Bool.or_eq_true_iff.1 h).elim
      (fun ha => by rw [hnan a ha, Bool.true_or]) (fun hb => by rw [hnan b hb, Bool.or_true])
    rw [h, hor]
    cases v.getLsbD 7 <;> decide
  · rw [Bool.eq_false_of_not_eq_true h]
    simp [vxvcBit]

theorem comparedBits_exceptions (ve ordered : Bool) (a b : Lane) :
    comparedBits ve ordered a b &&& exceptionBits = comparedBits ve ordered a b := by
  unfold comparedBits
  generalize (isSnan a || isSnan b) = x, (isNan a || isNan b) = y
  revert ve ordered x y
  decide

/-! ### Completed compares -/

/-- `t` is `s` after a compare of `a` and `b` that used `n` free values. -/
structure CompareEnds (s t : State) (f : CrField) (n : Nat) (a b : Lane) (ordered : Bool) : Prop where
  frame : t = { s with cr := t.cr, fpscr := t.fpscr, draws := s.draws + n, pc := s.pc + 4 }
  field : t.crf f = laneOrder a b
  other : ∀ m, m ≠ f → t.crf m = s.crf m
  computed : t.fpscrComputed
  status : Compared s.fpscr t.fpscr (laneOrder a b) (comparedBits (s.fpscr.getLsbD 7) ordered a b)

section
variable {s : State} (hfe : s.msrFe = false) (hse : s.msrSe = false) (f : CrField) (n : Nat) (a b : Lane)
include hfe hse

theorem compareLanes_ends {ordered : Bool} {raised : Word}
    (hraised : raised = comparedBits (s.fpscr.getLsbD 7) ordered a b) :
    ∃ t, (s.drawnBy n).compareLanes f a b raised = .next t ∧ CompareEnds s t f n a b ordered := by
  rw [State.compareLanes_eq, hraised]
  generalize hs : ({ s.drawnBy n with fpscr := _ } : State) = u
  refine ⟨_, State.finishFp_untrapped (s := u.setCrf f (laneOrder a b)) (rc := false) (by rw [← hs]; exact hfe)
    (by rw [← hs]; exact hse), ?_, State.crf_setCrf_same .., fun m hm => ?_, ?_, ?_⟩
  · rw [← hs]
    rfl
  · exact (State.crf_setCrf_other u _ hm).trans (by rw [← hs]; rfl)
  · exact State.fpscrComputed_of_summarize (v := _) (by rw [← hs]; rfl)
  · rw [← hs]
    exact compared_raiseBits _ _ (comparedBits_exceptions ..)

theorem unordered_ends : ∃ t, (s.drawnBy n).compareLanes f a b (unorderedBits a b) = .next t ∧
    CompareEnds s t f n a b false :=
  compareLanes_ends hfe hse f n a b (unorderedBits_eq ..)

theorem ordered_ends : ∃ t, (s.drawnBy n).compareLanes f a b (orderedBits s.fpscr a b) = .next t ∧
    CompareEnds s t f n a b true :=
  compareLanes_ends hfe hse f n a b (orderedBits_eq ..)

end

theorem withPaired_of_on {s : State} {run : Out} (hpse : s.pse = true) (hfp : s.msrFp = true) :
    withPaired s run = run := (if_pos hpse).trans (withFp_of_on hfp)

/-- A ps0 that is single-representable is read as it is (D17). -/
theorem State.pairedF0_of_single {s : State} {r : FReg} (k : Nat) (h : singleRepresentable (s.f0 r) = true) :
    s.pairedF0 r k = s.f0 r := if_pos h

end Sys2Proof.Machine

namespace Sys2Proof.FpNumerics

open Sys2Proof.Machine

/-- Settles O39: each form compares two lanes; a ps0 that is not single-representable is read as a free value. -/
theorem fpCompares : Obligations.FpCompares := by
  intro f frA frB s hfp hfe hse ends reads
  have hends {t : State} {n : Nat} {a b : Lane} {ordered : Bool} (h : CompareEnds s t f n a b ordered) :
      ends t n a b ordered :=
    ⟨h.frame, h.field, h.other, h.status.fpcc, h.status.kept, h.computed, h.status.exceptions, h.status.fx⟩
  have unordered (n : Nat) (a b : Lane) {o : Out} (ho : o = (s.drawnBy n).compareLanes f a b (unorderedBits a b)) :
      ∃ t, o = .next t ∧ ends t n a b false :=
    have ⟨t, ht, h⟩ := unordered_ends hfe hse f n a b
    ⟨t, ho.trans ht, hends h⟩
  have ordered (n : Nat) (a b : Lane) {o : Out} (ho : o = (s.drawnBy n).compareLanes f a b (orderedBits s.fpscr a b)) :
      ∃ t, o = .next t ∧ ends t n a b true :=
    have ⟨t, ht, h⟩ := ordered_ends hfe hse f n a b
    ⟨t, ho.trans ht, hends h⟩
  refine ⟨unordered 0 _ _ (withFp_of_on hfp), ordered 0 _ _ (withFp_of_on hfp), fun hpse => ?unordered0,
    fun hpse => ?ordered0, fun hpse => unordered 0 _ _ (withPaired_of_on hpse hfp),
    fun hpse => ordered 0 _ _ (withPaired_of_on hpse hfp)⟩
  case unordered0 =>
    obtain ⟨t, ht, h⟩ := unordered 2 (s.pairedF0 frA 0) (s.pairedF0 frB 1) (withPaired_of_on hpse hfp)
    exact ⟨t, ht, _, _, State.pairedF0_of_single 0, State.pairedF0_of_single 1, h⟩
  case ordered0 =>
    obtain ⟨t, ht, h⟩ := ordered 2 (s.pairedF0 frA 0) (s.pairedF0 frB 1) (withPaired_of_on hpse hfp)
    exact ⟨t, ht, _, _, State.pairedF0_of_single 0, State.pairedF0_of_single 1, h⟩

end Sys2Proof.FpNumerics
end

section
/-! PROOFS. The family 44_fp_numerics.md: enabled floating-point exceptions (R434, R781). -/

namespace Sys2Proof.Machine

/-! ### The end with and without the enables -/

/-- Two outcomes of one instruction, `o` from `s` and `o'` from `s` with the enables off: both end the same work `w`, which
leaves MSR and pc. -/
def EndsAlike (s : State) (rc : Bool) (o o' : Out) : Prop :=
  ∃ w : State, w.msr = s.msr ∧ w.pc = s.pc ∧ o = w.finishFp rc ∧ o' = ({ w with msr := s.untrapped.msr } : State).finishFp rc

/-- Whether the target is written does not depend on the enables. -/
theorem EndsAlike.ite {s w v w' v' : State} {rc b : Bool} (hw : EndsAlike s rc (w.finishFp rc) (w'.finishFp rc))
    (hv : EndsAlike s rc (v.finishFp rc) (v'.finishFp rc)) :
    EndsAlike s rc ((if b then w else v).finishFp rc) ((if b then w' else v').finishFp rc) := by
  cases b with
  | true => exact hw
  | false => exact hv

theorem EndsAlike.of_untrapped {s w : State} {rc : Bool} (hmsr : w.msr = s.msr) (hpc : w.pc = s.pc) :
    EndsAlike s rc (w.finishFp rc) (({ w with msr := s.untrapped.msr } : State).finishFp rc) := ⟨w, hmsr, hpc, rfl, rfl⟩

section
variable (s : State) (frD frB : FReg) (rc : Bool)

theorem writeS_endsAlike {f : Word} (r : Lane) (draw : BitVec 64) :
    EndsAlike s rc ((({ s.drawnBy 3 with fpscr := f } : State).writeS frD r draw).finishFp rc)
      ((({ s.untrapped.drawnBy 3 with fpscr := f } : State).writeS frD r draw).finishFp rc) := by
  have hpse : ({ s.drawnBy 3 with fpscr := f } : State).pse = s.pse := rfl
  have hpse' : ({ s.untrapped.drawnBy 3 with fpscr := f } : State).pse = s.pse := rfl
  rw [State.writeS, State.writeS, hpse, hpse']
  exact .ite (.of_untrapped rfl rfl) (.of_untrapped rfl rfl)

theorem arithD_endsAlike (o : FpOut) : EndsAlike s rc (s.arithD frD rc o) (s.untrapped.arithD frD rc o) :=
  .ite (.of_untrapped rfl rfl) (.of_untrapped rfl rfl)

theorem arithS_endsAlike (operands : List Lane) (o : FpOut) :
    EndsAlike s rc (s.arithS frD rc operands o) (s.untrapped.arithS frD rc operands o) :=
  .ite (writeS_endsAlike s frD rc _ _) (.of_untrapped rfl rfl)

theorem convert_endsAlike (rn : BitVec 2) :
    EndsAlike s rc (s.convert frD frB rc rn) (s.untrapped.convert frD frB rc rn) :=
  .ite (.of_untrapped rfl rfl) (.of_untrapped rfl rfl)

variable {s} (hfp : s.msrFp = true) (hfp' : s.untrapped.msrFp = true)
include hfp hfp'

theorem fres_endsAlike : EndsAlike s rc (execFres frD frB rc s) (execFres frD frB rc s.untrapped) := by
  rw [execFres, execFres, withFp_of_on hfp, withFp_of_on hfp']
  exact .ite (writeS_endsAlike s frD rc _ _) (.of_untrapped rfl rfl)

theorem frsqrte_endsAlike : EndsAlike s rc (execFrsqrte frD frB rc s) (execFrsqrte frD frB rc s.untrapped) := by
  rw [execFrsqrte, execFrsqrte, withFp_of_on hfp, withFp_of_on hfp']
  exact .ite (.of_untrapped rfl rfl) (.of_untrapped rfl rfl)

/-- Each of the 23 instructions does the same work with the enables off. -/
theorem scalarArithmetic_endsAlike {i : Instr} (h : scalarArithmetic i = some (frD, rc))
    (hsqrt : isSquareRoot i = true → s.params.hasFsqrt = true) : EndsAlike s rc (exec i s) (exec i s.untrapped) := by
  have gate {o o' : Out} (ho : EndsAlike s rc o o') : EndsAlike s rc (withFp s o) (withFp s.untrapped o') := by
    rwa [withFp_of_on hfp, withFp_of_on hfp']
  cases i with
  | fadd | fsub | fmul | fdiv | fmadd | fmsub | fnmadd | fnmsub =>
    cases h
    exact gate (arithD_endsAlike ..)
  | fadds | fsubs | fmuls | fdivs | fmadds | fmsubs | fnmadds | fnmsubs | frsp =>
    cases h
    exact gate (arithS_endsAlike ..)
  | fsqrt =>
    cases h
    rw [exec_fsqrt, exec_fsqrt, execFsqrt, execFsqrt, withFsqrt_of_has (hsqrt rfl),
      withFsqrt_of_has (s := s.untrapped) (hsqrt rfl)]
    exact gate (arithD_endsAlike ..)
  | fsqrts =>
    cases h
    rw [exec_fsqrts, exec_fsqrts, execFsqrts, execFsqrts, withFsqrt_of_has (hsqrt rfl),
      withFsqrt_of_has (s := s.untrapped) (hsqrt rfl)]
    exact gate (arithS_endsAlike ..)
  | fctiw | fctiwz =>
    cases h
    exact gate (convert_endsAlike ..)
  | fres =>
    cases h
    exact fres_endsAlike _ _ _ hfp hfp'
  | frsqrte =>
    cases h
    exact frsqrte_endsAlike _ _ _ hfp hfp'
  | _ => cases h

end

/-! ### The bits of MSR without the enables -/

theorem State.untrapped_msr_getLsbD (s : State) {j : Nat} (h : (0xFFFFF0FF : Word).getLsbD j = true) :
    s.untrapped.msr.getLsbD j = s.msr.getLsbD j := by
  rw [State.untrapped, BitVec.getLsbD_and, h, Bool.and_true]

theorem State.untrapped_msr_cleared (s : State) {j : Nat} (h : (0xFFFFF0FF : Word).getLsbD j = false) :
    s.untrapped.msr.getLsbD j = false := by
  rw [State.untrapped, BitVec.getLsbD_and, h, Bool.and_false]

/-- What follows from ending the same work with the enables off, on, and with an enabled exception. -/
theorem EndsAlike.enabled {s : State} {rc : Bool} {o o' : Out} (h : EndsAlike s rc o o') (hfe : s.msrFe = true)
    (hile : s.msrIle = false) : ∃ u, o' = .next u ∧
      (u.fpscr.getLsbD 30 = true → o = .next (({ u with msr := s.msr } : State).entered .program s.pc 0x00100000)) ∧
      (u.fpscr.getLsbD 30 = false → s.msrSe = false → o = .next { u with msr := s.msr }) := by
  obtain ⟨w, hmsr, hpc, rfl, rfl⟩ := h
  have hoff : ({ w with msr := s.untrapped.msr } : State).msrFe = false := by
    change (s.untrapped.msr.getLsbD 11 || s.untrapped.msr.getLsbD 8) = false
    rw [s.untrapped_msr_cleared (by decide), s.untrapped_msr_cleared (by decide)]
    rfl
  have hend := State.finishFp_untrapped hoff (s.untrapped_msr_cleared (j := 10) (by decide)) rc
  have hrecord : ({ w with msr := s.untrapped.msr } : State).recordCr1If rc =
      { w.recordCr1If rc with msr := s.untrapped.msr } := by cases rc <;> rfl
  have hkept : (w.recordCr1If rc).msr = s.msr ∧ (w.recordCr1If rc).pc = s.pc := by
    rw [State.recordCr1If_eq]
    exact ⟨hmsr, hpc⟩
  obtain ⟨hmsr', hpc'⟩ := hkept
  have hfe' : w.msrFe = true := by rw [State.msrFe, hmsr]; exact hfe
  rw [hrecord] at hend
  refine ⟨_, hend, fun hfex => ?taken, fun hfex hse => ?ended⟩
  all_goals
    change (w.recordCr1If rc).fpscr.getLsbD 30 = _ at hfex
    rw [State.recordCr1If_fpscr] at hfex
    rw [State.finishFp, fexOf, hfex]
  case taken =>
    rw [hfe', Bool.and_self, if_pos rfl, raiseProgram,
      takeException_of_ile (by rw [State.msrIle, hmsr']; exact hile), hpc', ← hmsr']
    rfl
  case ended =>
    rw [Bool.false_and, if_neg Bool.false_ne_true, retire_untraced (by rw [State.msrSe, hmsr']; exact hse), ← hmsr']
    rfl

end Sys2Proof.Machine

namespace Sys2Proof.FpNumerics

open Sys2Proof.Machine

/-- Settles O13: the work is the same with the enables off; FEX after it decides. -/
theorem enabledFpException : Obligations.EnabledFpException := by
  intro i s frD rc hi hfp hfe hile _ hsqrt
  have hfp' : s.untrapped.msrFp = true := (s.untrapped_msr_getLsbD (j := 13) (by decide)).trans hfp
  exact (scalarArithmetic_endsAlike frD rc hfp hfp' hi hsqrt).enabled hfe hile

end Sys2Proof.FpNumerics
end

section
/-! PROOFS. The family 44_fp_numerics.md: the conversions to integer (R496, R497). -/

namespace Sys2Proof.Machine

/-! ### Integers -/

theorem laneValue_of_finite {v : Lane} {neg : Bool} {m : Nat} {e : Int} (h : unpack v = .finite neg m e) :
    laneValue v = signed neg (m * (2 : ℚ) ^ e) := by
  rw [laneValue_eq, h]
  cases neg <;> simp [Fp.value]

theorem signedMant_cast (neg : Bool) (n : Nat) : ((signedMant neg n : Int) : ℚ) = signed neg (n : ℚ) := by
  cases neg <;> simp [signedMant]

/-- What a magnitude rounds to in units of 1, with its sign, is the integer of R426 (3). -/
theorem RoundedTo.roundsTo {rn : BitVec 2} {neg fr fi : Bool} {x : ℚ} {n : Nat} (h : RoundedTo rn neg x 1 n fr fi)
    (hx : 0 ≤ x) : RoundsTo rn (signed neg x) (signedMant neg n) := by
  have hnear := abs_lt.1 h.near
  rw [mul_one] at hnear
  obtain ⟨hlow, hhigh⟩ := hnear
  refine ⟨fun hrn => ?nearest, fun hrn => ?towardZero, fun hrn => ?up, fun hrn => ?down⟩
  case nearest =>
    obtain ⟨hhalf, heven⟩ := h.nearest hrn
    rw [mul_one] at hhalf heven
    rw [signedMant_cast, abs_signed_sub]
    refine ⟨by linarith, fun heq => ?_⟩
    have := heven (by linarith)
    cases neg <;> simp only [signedMant] <;> grind
  case towardZero =>
    have hfloor : ⌊x⌋ = n := by
      have hle := h.towardZero hrn
      rw [mul_one] at hle
      exact Int.floor_eq_iff.2 ⟨by exact_mod_cast hle, by push_cast; linarith⟩
    cases neg with
    | true => exact (congrArg Neg.neg hfloor.symm).trans (truncated_neg_of_nonneg hx).symm
    | false => exact hfloor.symm.trans (truncated_of_nonneg hx).symm
  case up =>
    have hup := (h.best_up hrn).1
    rw [mul_one, ← signedMant_cast] at hup
    refine (Int.ceil_eq_iff.2 ⟨?_, hup⟩).symm
    rw [signedMant_cast]
    cases neg <;> simp only [signed_true, signed_false] <;> linarith
  case down =>
    have hdown := (h.best_down hrn).1
    rw [mul_one, ← signedMant_cast] at hdown
    refine (Int.floor_eq_iff.2 ⟨hdown, ?_⟩).symm
    rw [signedMant_cast]
    cases neg <;> simp only [signed_true, signed_false] <;> linarith

/-! ### What the conversion gives -/

/-- The outcome of a conversion with NI = 0, as `State.convert` takes it from the integer. -/
def State.conversionOut (s : State) (c : Converted) : FpOut where
  raised := c.raised
  result := (s.freeAt 1).extractLsb' 32 32 ++ c.value
  fprf := 0
  fr := c.fr
  fi := c.fi
  frOpen := false
  writes := !(veOf s.fpscr && decide (c.raised &&& vxBits ≠ 0))

/-- The outcome of a conversion in either mode. -/
def State.conversionInMode (s : State) (c : Converted) : FpOut :=
  s.inMode double conversionBits (s.freeAt 1) (s.conversionOut c)

theorem convert_targetEnds {s : State} (hfe : s.msrFe = false) (hse : s.msrSe = false) (frD frB : FReg) (rc : Bool)
    (rn : BitVec 2) : ∃ t, s.convert frD frB rc rn = .next t ∧
      let o := s.conversionInMode (convertToInteger rn (s.f0 frB))
      TargetEnds s t frD rc (raiseBits (setRounding s.fpscr o.fr o.fi (some (freeClass (s.freeAt 0)))) o.raised)
        (if o.writes then o.result else s.f0 frD) (s.f1 frD) :=
  writtenD_ends hfe hse frD rc (rounded_control ..) _ _

/-- A conversion completes, keeps the exception bits it cannot raise, and clears none. -/
theorem TargetEnds.conversion {s t : State} {frD : FReg} {rc : Bool} {rn : BitVec 2} {b r0 r1 : Lane} {fr fi : Bool}
    {p : Option (BitVec 5)} (h : TargetEnds s t frD rc
      (raiseBits (setRounding s.fpscr fr fi p) (s.conversionInMode (convertToInteger rn b)).raised) r0 r1) :
    t.fpscr &&& 0x1CF80600 = s.fpscr &&& 0x1CF80600 ∧ s.fpscr &&& 0x9FF80700 &&& ~~~t.fpscr = 0 := by
  have hraises : (s.conversionInMode (convertToInteger rn b)).raised &&& ~~~conversionBits = 0 :=
    State.inMode_raises (convertToInteger_raises rn b)
  have hplace : ∀ j < 32, (0x1CF80600 : Word).getLsbD j = true →
      exceptionBits.getLsbD j = true ∧ (~~~conversionBits).getLsbD j = true := by decide
  rw [h.fpscr]
  refine ⟨and_mask_congr fun j hj hm => ?_, rounded_kept ..⟩
  obtain ⟨hexc, hother⟩ := hplace j hj hm
  rw [rounded_exception _ _ _ _ _ hj hexc, BitVec.getLsbD_or, (and_eq_zero_iff_getLsbD _ _).1 hraises j hj hother,
    Bool.or_false]

/-- The low word of a doubleword made of two words. -/
theorem setWidth_append_low (a b : Word) : (a ++ b).setWidth 32 = b := by
  refine BitVec.eq_of_getLsbD_eq fun j hj => ?_
  rw [BitVec.getLsbD_setWidth, BitVec.getLsbD_append]
  simp [hj]

/-- A conversion that raises an invalid operation is not written with VE = 1. -/
theorem State.conversionOut_writes_of_vx (s : State) {c : Converted} (h : c.raised &&& vxBits ≠ 0) :
    (s.conversionOut c).writes = !veOf s.fpscr := by
  simp only [State.conversionOut, decide_eq_true h, Bool.and_true]

theorem State.conversionOut_writes (s : State) {c : Converted} (h : c.raised &&& vxBits = 0) :
    (s.conversionOut c).writes = true := by
  simp only [State.conversionOut, h, ne_eq, not_true_eq_false, decide_false, Bool.and_false, Bool.not_false]

theorem vxcviBit_or_and_vxBits (bits : Word) : (vxcviBit ||| bits) &&& vxBits ≠ 0 := by
  intro hzero
  have hbit := (and_eq_zero_iff_getLsbD _ _).1 hzero 8 (by decide) (by decide)
  rw [BitVec.getLsbD_or, show vxcviBit.getLsbD 8 = true by decide, Bool.true_or] at hbit
  cases hbit

/-- The integer is out of the range, or the operand is no number: the limit `w` (R496). -/
def AtLimit (s t : State) (frD : FReg) (w bits : Word) : Prop :=
  (if veOf s.fpscr then t.f0 frD = s.f0 frD else (t.f0 frD).setWidth 32 = w) ∧
    t.fpscr.getLsbD 17 = false ∧ t.fpscr.getLsbD 18 = false ∧ FpRaised s.fpscr t.fpscr (0x00000100 ||| bits)

/-- `t` is `s` after a conversion gave `c`. -/
structure ConvertEnds (s t : State) (frD : FReg) (c : Converted) : Prop where
  lane0 : t.f0 frD = if (s.conversionOut c).writes then (s.conversionOut c).result else s.f0 frD
  fr : t.fpscr.getLsbD 18 = c.fr
  fi : t.fpscr.getLsbD 17 = c.fi
  raised : FpRaised s.fpscr t.fpscr c.raised

section
variable {s t : State} {frD : FReg} {c : Converted} (h : ConvertEnds s t frD c)
include h

theorem ConvertEnds.atLimit {w bits : Word} (hc : c = ⟨w, vxcviBit ||| bits, false, false⟩) : AtLimit s t frD w bits := by
  subst hc
  refine ⟨?_, h.fi, h.fr, h.raised⟩
  rw [h.lane0, s.conversionOut_writes_of_vx (vxcviBit_or_and_vxBits bits)]
  cases veOf s.fpscr with
  | true => rfl
  | false => exact setWidth_append_low ..

/-- A conversion that raises no invalid operation leaves its integer in the low word. -/
theorem ConvertEnds.low (hc : c.raised &&& vxBits = 0) : (t.f0 frD).setWidth 32 = c.value := by
  rw [h.lane0, s.conversionOut_writes hc, if_pos rfl]
  exact setWidth_append_low ..

end

theorem TargetEnds.convertEnds {s t : State} {frD : FReg} {rc : Bool} {p : Option (BitVec 5)} {c : Converted} {r1 : Lane}
    (h : TargetEnds s t frD rc (raiseBits (setRounding s.fpscr c.fr c.fi p) c.raised)
      (if (s.conversionOut c).writes then (s.conversionOut c).result else s.f0 frD) r1) : ConvertEnds s t frD c where
  lane0 := h.lane0
  fr := by rw [h.fpscr, rounded_fr]
  fi := by rw [h.fpscr, rounded_fi]
  raised := by
    rw [h.fpscr]
    exact rounded_raised ..

theorem xxIf_and_vxBits (fi : Bool) : xxIf fi &&& vxBits = 0 := by revert fi; decide

theorem eq_decide_of_iff {b : Bool} {p : Prop} [Decidable p] (h : b = true ↔ p) : b = decide p :=
  Bool.eq_iff_iff.2 (h.trans decide_eq_true_iff.symm)

theorem convertToInteger_inf (rn : BitVec 2) {b : Lane} {neg : Bool} (h : unpack b = .inf neg) :
    convertToInteger rn b = ⟨if neg then 0x80000000 else 0x7FFFFFFF, vxcviBit, false, false⟩ := by
  rw [convertToInteger, h]

theorem convertToInteger_nan (rn : BitVec 2) {b : Lane} (h : isNan b = true) :
    convertToInteger rn b = ⟨0x80000000, vxcviBit ||| if isSnan b then vxsnanBit else 0, false, false⟩ := by
  rw [convertToInteger, (isNan_iff b).1 h]
  simp [snanBits]

/-- The integer of a finite operand. -/
theorem convertToInteger_finite {rn : BitVec 2} {b : Lane} (hb : isFinite b = true) :
    ∃ (n : Int) (fr fi : Bool), RoundsTo rn (laneValue b) n ∧ (fi = true ↔ (n : ℚ) ≠ laneValue b) ∧
      (fr = true ↔ |laneValue b| < |(n : ℚ)|) ∧ convertToInteger rn b =
        if 2 ^ 31 - 1 < n then ⟨0x7FFFFFFF, vxcviBit, false, false⟩
        else if n < -2 ^ 31 then ⟨0x80000000, vxcviBit, false, false⟩ else ⟨BitVec.ofInt 32 n, xxIf fi, fr, fi⟩ := by
  have hnumber := (isFinite_iff b).1 hb
  unfold convertToInteger
  cases hu : unpack b with
  | inf | nan => exact (hu ▸ hnumber).elim
  | zero neg =>
    have hzero : laneValue b = 0 := by rw [laneValue_eq, hu]; rfl
    rw [hzero]
    exact ⟨0, false, false, by simp [RoundsTo, truncated], by simp, by simp, rfl⟩
  | finite neg mant exp =>
    have hx : (0 : ℚ) ≤ mant * 2 ^ exp := by positivity
    have hround := roundAt_roundedTo (Approximates.exact (K := ℚ) mant exp) (q := 0) (fun h => by cases h) rn neg
    rw [zpow_zero] at hround
    have hfi := hround.fi_iff
    have hfr := hround.fr_iff
    rw [mul_one] at hfi hfr
    refine ⟨_, _, _, laneValue_of_finite hu ▸ hround.roundsTo hx, hfi.trans ?_, hfr.trans ?_, rfl⟩
    · rw [laneValue_of_finite hu, signedMant_cast, ne_eq, ne_eq, ← sub_eq_zero (b := signed neg _), ← abs_eq_zero,
        abs_signed_sub, abs_eq_zero, sub_eq_zero, roundToInteger]
    · rw [laneValue_of_finite hu, signedMant_cast, abs_signed neg hx, abs_signed neg (Nat.cast_nonneg _),
        roundToInteger]

end Sys2Proof.Machine

namespace Sys2Proof.FpNumerics

open Sys2Proof.Machine

/-- Settles O44: the integer is what rounding to units of 1 gives; a limit goes with VXCVI. -/
theorem fpConversions : Obligations.FpConversions := by
  intro frD frB rc s hfp hfe hse b z low raises limit converted ends
  have hconvert (rn : BitVec 2) {o : Out} (ho : o = withFp s (s.convert frD frB rc rn)) : ∃ t, o = .next t ∧ ends t rn := by
    obtain ⟨t, ht, hends⟩ := convert_targetEnds hfe hse frD frB rc rn
    obtain ⟨hkept, hnot⟩ := hends.conversion
    refine ⟨t, ho.trans ((withFp_of_on hfp).trans ht), hends.ends, hends.lane1, hkept, hnot, fun hni => ?_⟩
    have hmode : s.conversionInMode (convertToInteger rn b) = s.conversionOut (convertToInteger rn b) :=
      State.inMode_ieee hni ..
    rw [hmode] at hends
    have hc := hends.convertEnds
    refine ⟨fun hfinite => ?finite, fun neg hu => ?inf, fun hnan => ?nan⟩
    case finite =>
      obtain ⟨n, fr, fi, hround, hfi, hfr, heq⟩ := convertToInteger_finite (rn := rn) hfinite
      refine ⟨n, hround, fun hlow hhigh => ?_, fun hbig => ?_, fun hsmall => ?_⟩
      · rw [if_neg (by omega), if_neg (by omega)] at heq
        rw [heq] at hc
        refine ⟨hc.low (xxIf_and_vxBits fi), hc.fi.trans (eq_decide_of_iff hfi), hc.fr.trans (eq_decide_of_iff hfr), ?_⟩
        have hxx : xxIf fi = if (n : ℚ) ≠ z then xxBit else 0 := if_congr hfi rfl rfl
        exact hxx ▸ hc.raised
      · rw [if_pos (by omega)] at heq
        rw [heq] at hc
        exact hc.atLimit (bits := 0) rfl
      · rw [if_neg (by omega), if_pos (by omega)] at heq
        rw [heq] at hc
        exact hc.atLimit (bits := 0) rfl
    case inf =>
      rw [convertToInteger_inf rn hu] at hc
      exact hc.atLimit (bits := 0) rfl
    case nan =>
      rw [convertToInteger_nan rn hnan] at hc
      exact hc.atLimit rfl
  exact ⟨hconvert 1 rfl, hconvert (rnOf s.fpscr) rfl⟩

end Sys2Proof.FpNumerics
end

section
/-! PROOFS. The family 44_fp_numerics.md: NaN and infinite operands, invalid operations and zero divides (R427, R428,
R429, R435). -/

namespace Sys2Proof.Machine

/-! ### NaN operands -/

/-- The first NaN operand is the result of an operation that raises VXSNAN for a signalling one and `own` beside it. -/
def NanResult (v : Word) (vs : List Lane) (own : Word) (image : Lane → Lane) (o : FpOut) : Prop :=
  ∀ n, vs.find? isNan = some n → o.NanOutcome v (snanBits vs ||| own) (image n)

theorem nanResult_resolve (v : Word) {vs : List Lane} {bits own : Word} (rest : FpOut)
    (h : (∃ w ∈ vs, unpack w = .nan) → bits = snanBits vs ||| own) :
    NanResult v vs own quiet (resolve v bits (vs.find? isNan) rest) := by
  intro n hn
  rw [hn, h (exists_nan_of_find? hn)]
  exact resolve_nan ..

theorem Fp.mul_eq_inf {x y : Fp} {s : Bool} (h : x.mul y = .inf s) : x ≠ .nan ∧ y ≠ .nan := by
  constructor
  · rintro rfl
    cases h
  · rintro rfl
    cases x <;> cases h

theorem isiBits_ne_zero {x y : Fp} (h : isiBits x y ≠ 0) : (∃ s, x = .inf s) ∧ ∃ s, y = .inf s := by
  cases x with
  | inf s => cases y with
    | inf s' => exact ⟨⟨s, rfl⟩, s', rfl⟩
    | zero | finite | nan => exact absurd rfl h
  | zero | finite | nan => exact absurd rfl h

theorem Fp.negateIf_ne_nan {x : Fp} (sub : Bool) (h : x.negateIf sub ≠ .nan) : x ≠ .nan := by
  rintro rfl
  cases sub <;> exact h rfl

section
variable (p : Precision) (v : Word) (a b c : Lane)

theorem fpAdd_nan : NanResult v [a, b] 0 quiet (fpAdd p v a b) := by
  refine nanResult_resolve v _ fun ⟨w, hw, hnan⟩ => congrArg _ (not_not.1 fun hne => ?_)
  obtain ⟨⟨s, hs⟩, s', hs'⟩ := isiBits_ne_zero hne
  simp_all

theorem fpSub_nan : NanResult v [a, b] 0 quiet (fpSub p v a b) := by
  refine nanResult_resolve v _ fun ⟨w, hw, hnan⟩ => congrArg _ (not_not.1 fun hne => ?_)
  obtain ⟨⟨s, hs⟩, s', hs'⟩ := isiBits_ne_zero hne
  have hb : unpack b ≠ .nan := Fp.negateIf_ne_nan true (by rw [Fp.negateIf, if_pos rfl, hs']; simp)
  simp_all

theorem fpMul_nan : NanResult v [a, c] 0 quiet (fpMul p v a c) := by
  refine nanResult_resolve v _ fun ⟨w, hw, hnan⟩ => congrArg _ ?_
  obtain rfl | rfl := List.mem_pair.1 hw
  · rw [hnan]; rfl
  · rw [hnan]; cases unpack a <;> rfl

theorem fpDiv_nan : NanResult v [a, b] 0 quiet (fpDiv p v a b) := by
  refine nanResult_resolve v _ fun ⟨w, hw, hnan⟩ => congrArg _ ?_
  obtain rfl | rfl := List.mem_pair.1 hw
  · rw [hnan]; rfl
  · rw [hnan]; cases unpack a <;> rfl

theorem fpSqrt_nan : NanResult v [a] 0 quiet (fpSqrt p v a) := by
  refine nanResult_resolve v _ fun ⟨w, hw, hnan⟩ => congrArg _ ?_
  rw [List.mem_singleton.1 hw] at hnan
  rw [hnan]

theorem fpMulAdd_nan (sub : Bool) :
    NanResult v [a, b, c] (imzBits (unpack a) (unpack c)) quiet (fpMulAdd p v sub a c b) := by
  refine nanResult_resolve v _ fun ⟨w, hw, hnan⟩ => ?_
  have hisi : isiBits ((unpack a).mul (unpack c)) ((unpack b).negateIf sub) = 0 := not_not.1 fun hne => by
    obtain ⟨⟨s, hs⟩, s', hs'⟩ := isiBits_ne_zero hne
    obtain ⟨ha, hc⟩ := Fp.mul_eq_inf hs
    have hb := Fp.negateIf_ne_nan sub (by rw [hs']; simp)
    simp_all
  rw [hisi]
  exact BitVec.or_zero

theorem fpRoundSingle_nan :
    NanResult v [a] 0 (fun n => quiet n &&& 0xFFFFFFFFE0000000) (fpRoundSingle v a) := by
  intro n hn
  have hmask : (~~~0x1FFFFFFF : Lane) = 0xFFFFFFFFE0000000 := by decide
  have hnan : isNan a = true := by
    obtain ⟨w, hw, hnan⟩ := exists_nan_of_find? hn
    rw [List.mem_singleton.1 hw] at hnan
    exact (isNan_iff a).2 hnan
  obtain ⟨hfr, hfi, hopen, hraised, hwrites, hresult⟩ := resolve_nan v (snanBits [a]) n (deliver single v (unpack a) false)
  rw [fpRoundSingle, hn, hnan, if_pos rfl]
  refine ⟨hfr, hfi, hopen, hraised.trans BitVec.or_zero.symm, ?_, fun hw => ?_⟩
  · rw [show snanBits [a] ||| 0 = snanBits [a] from BitVec.or_zero]
    exact hwrites
  · obtain ⟨hr, hclass⟩ := hresult hw
    exact ⟨by rw [hr, hmask], hclass⟩

end

/-! ### Infinite operands -/

/-- The exact infinity of the given sign. -/
def infiniteOut (neg : Bool) : FpOut := .exact 0 (infinity neg) (classInf neg)

/-- An invalid operation without a NaN operand. -/
theorem resolve_invalid (v : Word) {bit : Word} (h : bit ≠ 0) (rest : FpOut) :
    (resolve v bit none rest).NanOutcome v bit defaultNan := resolve_vx v h none rest

theorem Fp.IsNumber.add_inf {x : Fp} (h : x.IsNumber) (rn : BitVec 2) (z : Bool) : x.add rn (.inf z) = .inf z := by
  cases x with
  | zero | finite => rfl
  | inf | nan => exact h.elim

theorem Fp.IsNumber.inf_add {y : Fp} (h : y.IsNumber) (rn : BitVec 2) (z : Bool) : (Fp.inf z).add rn y = .inf z := by
  cases y with
  | zero | finite => rfl
  | inf | nan => exact h.elim

theorem isiBits_number_right (x : Fp) {y : Fp} (h : y.IsNumber) : isiBits x y = 0 := by
  cases y with
  | inf | nan => exact h.elim
  | zero | finite => cases x <;> rfl

theorem isiBits_nan_left (y : Fp) : isiBits .nan y = 0 := by cases y <;> rfl

theorem isiBits_like (x : Bool) : isiBits (.inf x) (.inf x) = 0 := if_pos rfl

theorem isiBits_unlike {x y : Bool} (h : x ≠ y) : isiBits (.inf x) (.inf y) = vxisiBit := if_neg h

theorem Fp.inf_add_inf (rn : BitVec 2) (x : Bool) : (Fp.inf x).add rn (.inf x) = .inf x := if_pos rfl

theorem Fp.negateIf_inf (sub z : Bool) : (Fp.inf z).negateIf sub = .inf (z ^^ sub) := by cases sub <;> cases z <;> rfl

theorem Fp.IsNumber.negateIf {x : Fp} (h : x.IsNumber) (sub : Bool) : (x.negateIf sub).IsNumber := by
  cases sub with
  | true => exact h.negate
  | false => exact h

/-- The value is not a zero or a NaN, and has this sign. -/
def Fp.NonzeroWith (x : Fp) (neg : Bool) : Prop := x = .inf neg ∨ ∃ m e, x = .finite neg m e

/-- An infinity times a value that is not a zero, in either order. -/
theorem Fp.NonzeroWith.mul_inf {y : Fp} {t : Bool} (h : y.NonzeroWith t) (x : Bool) :
    (Fp.inf x).mul y = .inf (x ^^ t) ∧ y.mul (.inf x) = .inf (x ^^ t) ∧ imzBits (.inf x) y = 0 ∧
      imzBits y (.inf x) = 0 ∧ y ≠ .nan := by
  obtain rfl | ⟨m, e, rfl⟩ := h
  · exact ⟨rfl, congrArg Fp.inf (Bool.xor_comm ..), rfl, rfl, by simp⟩
  · exact ⟨rfl, congrArg Fp.inf (Bool.xor_comm ..), rfl, rfl, by simp⟩

section
variable (p : Precision) (v : Word) {a b c : Lane}

theorem fpAdd_inf_inf {x : Bool} (ha : unpack a = .inf x) :
    (unpack b = .inf x → fpAdd p v a b = infiniteOut x) ∧
    (∀ y, unpack b = .inf y → x ≠ y → (fpAdd p v a b).NanOutcome v vxisiBit defaultNan) := by
  refine ⟨fun hb => ?_, fun y hb hne => ?_⟩
  · rw [fpAdd_eq p v (by simp [ha]) (by simp [hb]), ha, hb, isiBits_like, Fp.inf_add_inf]
    rfl
  · rw [fpAdd_eq p v (by simp [ha]) (by simp [hb]), ha, hb, isiBits_unlike hne]
    exact resolve_invalid v (by decide) _

theorem fpSub_inf_inf {x : Bool} (ha : unpack a = .inf x) :
    (∀ y, unpack b = .inf y → x ≠ y → fpSub p v a b = infiniteOut x) ∧
    (unpack b = .inf x → (fpSub p v a b).NanOutcome v vxisiBit defaultNan) := by
  refine ⟨fun y hb hne => ?_, fun hb => ?_⟩
  · have hnot : (!y) = x := (Bool.eq_not_iff.2 hne).symm
    rw [fpSub_eq p v (by simp [ha]) (by simp [hb]), ha, hb, Fp.negate, hnot, isiBits_like, Fp.inf_add_inf]
    rfl
  · rw [fpSub_eq p v (by simp [ha]) (by simp [hb]), ha, hb, Fp.negate, isiBits_unlike (by simp)]
    exact resolve_invalid v (by decide) _

theorem fpDiv_inf_inf {x y : Bool} (ha : unpack a = .inf x) (hb : unpack b = .inf y) :
    (fpDiv p v a b).NanOutcome v vxidiBit defaultNan := by
  rw [fpDiv_eq p v (by simp [ha]) (by simp [hb]), ha, hb]
  exact resolve_invalid v (by decide) _

section
variable {x : Bool} (ha : unpack a = .inf x) (hb : (unpack b).IsNumber)
include ha hb

theorem fpAdd_inf_number : fpAdd p v a b = infiniteOut x ∧ fpAdd p v b a = infiniteOut x := by
  have ha' : unpack a ≠ .nan := by simp [ha]
  rw [fpAdd_eq p v ha' hb.ne_nan, fpAdd_eq p v hb.ne_nan ha', isiBits_number_right _ hb, isiBits_of_isNumber hb, ha,
    hb.inf_add, hb.add_inf]
  exact ⟨rfl, rfl⟩

theorem fpSub_inf_number : fpSub p v a b = infiniteOut x ∧ fpSub p v b a = infiniteOut (!x) := by
  have ha' : unpack a ≠ .nan := by simp [ha]
  rw [fpSub_eq p v ha' hb.ne_nan, fpSub_eq p v hb.ne_nan ha', isiBits_number_right _ hb.negate, isiBits_of_isNumber hb,
    ha, hb.negate.inf_add, Fp.negate, hb.add_inf]
  exact ⟨rfl, rfl⟩

theorem fpDiv_inf_number : fpDiv p v a b = infiniteOut (x ^^ b.getLsbD 63) ∧
    fpDiv p v b a = .exact 0 (layout (x ^^ b.getLsbD 63) 0 0) (classZero (x ^^ b.getLsbD 63)) := by
  have ha' : unpack a ≠ .nan := by simp [ha]
  have hsign := unpack_neg hb.ne_nan
  rw [fpDiv_eq p v ha' hb.ne_nan, fpDiv_eq p v hb.ne_nan ha', ha, ← hsign]
  cases hu : unpack b with
  | zero n | finite n m e => exact ⟨rfl, by rw [Bool.xor_comm]; rfl⟩
  | inf | nan => exact (hu ▸ hb).elim

end

/-- An infinity times a value that is not a zero. -/
theorem fpMul_inf {x y : Bool} (ha : unpack a = .inf x) (hc : (unpack c).NonzeroWith y) :
    fpMul p v a c = infiniteOut (x ^^ y) ∧ fpMul p v c a = infiniteOut (x ^^ y) := by
  obtain ⟨hmul, hmul', himz, himz', hne⟩ := hc.mul_inf x
  have ha' : unpack a ≠ .nan := by simp [ha]
  rw [fpMul_eq p v ha' hne, fpMul_eq p v hne ha', ha, hmul, hmul', himz, himz']
  exact ⟨rfl, rfl⟩

/-- A multiply-add with an infinite product. -/
theorem fpMulAdd_inf_product {s : Bool} (hmul : (unpack a).mul (unpack c) = .inf s)
    (himz : imzBits (unpack a) (unpack c) = 0) (sub : Bool) :
    (isFinite b = true → fpMulAdd p v sub a c b = infiniteOut s) ∧
    ∀ z, unpack b = .inf z → (s ≠ (z ^^ sub) → (fpMulAdd p v sub a c b).NanOutcome v vxisiBit defaultNan) ∧
      (s = (z ^^ sub) → fpMulAdd p v sub a c b = infiniteOut s) := by
  obtain ⟨ha, hc⟩ := Fp.mul_eq_inf hmul
  refine ⟨fun hb => ?_, fun z hb => ?_⟩
  · have hnumber := (isFinite_iff b).1 hb
    rw [fpMulAdd_eq p v sub ha hc hnumber.ne_nan, himz, hmul, isiBits_number_right _ (hnumber.negateIf sub),
      (hnumber.negateIf sub).inf_add]
    rfl
  · rw [fpMulAdd_eq p v sub ha hc (by simp [hb]), himz, hmul, hb, Fp.negateIf_inf]
    refine ⟨fun hne => ?_, fun heq => ?_⟩
    · rw [isiBits_unlike hne]
      exact resolve_invalid v (by decide) _
    · rw [← heq, isiBits_like, Fp.inf_add_inf]
      rfl

/-- A multiply-add with an infinite addend. -/
theorem fpMulAdd_inf_addend {z : Bool} (ha : (unpack a).IsNumber) (hc : (unpack c).IsNumber) (hb : unpack b = .inf z)
    (sub : Bool) : fpMulAdd p v sub a c b = infiniteOut (z ^^ sub) := by
  have hmul := (Fp.mul_spec ha hc).1
  rw [fpMulAdd_eq p v sub ha.ne_nan hc.ne_nan (by simp [hb]), imzBits_of_isNumber ha hc, isiBits_of_isNumber hmul, hb,
    Fp.negateIf_inf, hmul.add_inf]
  rfl

/-! ### Zeros -/

/-- A zero times an infinity, alone and with any addend. -/
theorem fpMul_imz {x y : Bool}
    (h : unpack a = .zero x ∧ unpack c = .inf y ∨ unpack a = .inf y ∧ unpack c = .zero x) :
    (fpMul p v a c).NanOutcome v vximzBit defaultNan ∧
      (isNan b = false → ∀ sub, (fpMulAdd p v sub a c b).NanOutcome v vximzBit defaultNan) := by
  have hout : imzBits (unpack a) (unpack c) = vximzBit ∧ (unpack a).mul (unpack c) = .nan ∧ unpack a ≠ .nan ∧
      unpack c ≠ .nan := by
    obtain ⟨ha, hc⟩ | ⟨ha, hc⟩ := h
    · rw [ha, hc]
      exact ⟨rfl, rfl, by simp, by simp⟩
    · rw [ha, hc]
      exact ⟨rfl, rfl, by simp, by simp⟩
  obtain ⟨himz, hmul, ha, hc⟩ := hout
  refine ⟨?_, fun hb sub => ?_⟩
  · rw [fpMul_eq p v ha hc, himz]
    exact resolve_invalid v (by decide) _
  · have hb' : unpack b ≠ .nan := fun hnan => by simp [(isNan_iff b).2 hnan] at hb
    rw [fpMulAdd_eq p v sub ha hc hb', himz, hmul, isiBits_nan_left]
    exact resolve_invalid v (by decide) _

theorem fpDiv_zero_zero {x y : Bool} (ha : unpack a = .zero x) (hb : unpack b = .zero y) :
    (fpDiv p v a b).NanOutcome v vxzdzBit defaultNan := by
  rw [fpDiv_eq p v (by simp [ha]) (by simp [hb]), ha, hb]
  exact resolve_invalid v (by decide) _

theorem fpDiv_finite_zero {x y : Bool} {m : Nat} {e : Int} (ha : unpack a = .finite x m e) (hb : unpack b = .zero y) :
    fpDiv p v a b = zeroDivide v (x ^^ y) := by
  rw [fpDiv_eq p v (by simp [ha]) (by simp [hb]), ha, hb]
  rfl

theorem fpSqrt_negative (ha : unpack a = .inf true ∨ ∃ m e, unpack a = .finite true m e) :
    (fpSqrt p v a).NanOutcome v vxsqrtBit defaultNan := by
  obtain ha | ⟨m, e, ha⟩ := ha
  all_goals
    rw [fpSqrt_eq p v (by simp [ha]), ha]
    exact resolve_invalid v (by decide) _

theorem fpSqrt_zero {x : Bool} (ha : unpack a = .zero x) : fpSqrt p v a = .exact 0 a (classZero x) := by
  rw [fpSqrt_eq p v (by simp [ha]), ha]
  conv_rhs => rw [eq_layout_of_zero ha]
  rfl

theorem fpSqrt_inf (ha : unpack a = .inf false) : fpSqrt p v a = infiniteOut false := by
  rw [fpSqrt_eq p v (by simp [ha]), ha]
  rfl

theorem fpRoundSingle_inf {x : Bool} (ha : unpack a = .inf x) : fpRoundSingle v a = infiniteOut x := by
  rw [fpRoundSingle_eq v (by simp [ha]), ha]
  rfl

/-- An outcome of a zero divide (R429). -/
theorem zeroDivide_spec (neg : Bool) : (zeroDivide v neg).fr = false ∧ (zeroDivide v neg).fi = false ∧
    (zeroDivide v neg).frOpen = false ∧ (zeroDivide v neg).raised = zxBit ∧ (zeroDivide v neg).writes = !zeOf v ∧
    (zeOf v = false → (zeroDivide v neg).result = infinity neg ∧ (zeroDivide v neg).fprf = classInf neg) := by
  unfold zeroDivide
  cases zeOf v with
  | true => exact ⟨rfl, rfl, rfl, rfl, rfl, fun h => by cases h⟩
  | false => exact ⟨rfl, rfl, rfl, rfl, rfl, fun _ => ⟨rfl, rfl⟩⟩

end

/-! ### The negative forms (R483) -/

theorem getLsbD_flipSign (v : Lane) {j : Nat} (hj : j < 64) :
    (v ^^^ 0x8000000000000000).getLsbD j = (v.getLsbD j ^^ decide (j = 63)) := by
  rw [BitVec.getLsbD_xor, getLsbD_signBit hj]

/-- A lane with its sign inverted holds the negated value. -/
theorem unpack_flipSign (v : Lane) : unpack (v ^^^ 0x8000000000000000) = (unpack v).negate := by
  have hexp : expField (v ^^^ 0x8000000000000000) = expField v := by
    refine congrArg BitVec.toNat (BitVec.eq_of_getLsbD_eq fun j hj => ?_)
    rw [BitVec.getLsbD_extractLsb', BitVec.getLsbD_extractLsb', getLsbD_flipSign v (by omega),
      decide_eq_false (show ¬52 + j = 63 by omega), Bool.xor_false]
  have hfrac : fracField (v ^^^ 0x8000000000000000) = fracField v := by
    refine congrArg BitVec.toNat (BitVec.eq_of_getLsbD_eq fun j hj => ?_)
    rw [BitVec.getLsbD_extractLsb', BitVec.getLsbD_extractLsb', getLsbD_flipSign v (by omega),
      decide_eq_false (show ¬0 + j = 63 by omega), Bool.xor_false]
  have hsign : (v ^^^ 0x8000000000000000).getLsbD 63 = !v.getLsbD 63 := by
    rw [getLsbD_flipSign v (by decide), decide_eq_true rfl, Bool.xor_true]
  unfold unpack
  rw [hexp, hfrac, hsign]
  dsimp only
  split
  case isTrue => split <;> rfl
  case isFalse =>
    split
    case isTrue => split <;> rfl
    case isFalse => rfl

theorem negatedClass_classOf (p : Precision) (v : Lane) :
    negatedClass (classOf p v) = classOf p (v ^^^ 0x8000000000000000) := by
  have hclasses : negatedClass classNan = classNan ∧ ∀ n, negatedClass (classInf n) = classInf !n ∧
      negatedClass (classZero n) = classZero !n ∧ negatedClass (classNormal n) = classNormal !n ∧
      negatedClass (classDenormal n) = classDenormal !n := by decide
  obtain ⟨hnan, hother⟩ := hclasses
  rw [classOf, classOf, unpack_flipSign]
  cases unpack v with
  | nan => exact hnan
  | inf n => exact (hother n).1
  | zero n => exact (hother n).2.1
  | finite n m e =>
    obtain ⟨-, -, hnormal, hdenormal⟩ := hother n
    rw [Fp.negate, apply_ite negatedClass, hnormal, hdenormal]

/-- The negative forms change the result and its class alone. -/
theorem FpOut.negated_spec (p : Precision) (o : FpOut) :
    o.negated = { o with result := o.negated.result, fprf := o.negated.fprf } ∧
      o.negated.result = (if isNan o.result then o.result else o.result ^^^ 0x8000000000000000) ∧
      (o.fprf = classOf p o.result → o.negated.fprf = classOf p o.negated.result) := by
  unfold FpOut.negated
  split
  case isTrue => exact ⟨rfl, rfl, id⟩
  case isFalse => exact ⟨rfl, rfl, fun h => by rw [h, negatedClass_classOf]⟩

end Sys2Proof.Machine

namespace Sys2Proof.FpNumerics

open Sys2Proof.Machine

/-- Settles O42: the template by the kinds of its operands. -/
theorem invalidOperations : Obligations.InvalidOperations := by
  intro p v a b c unrounded nan invalid infinite nonzero imz
  have hnan {vs : List Lane} {own : Word} {image : Lane → Lane} {o : FpOut} (h : NanResult v vs own image o) :
      nan vs own image o := fun n hn =>
    have h := h n hn
    ⟨⟨h.fr, h.fi, h.frOpen⟩, h.raised_eq, h.writes_eq, h.result⟩
  have hinvalid {bit : Word} {o : FpOut} (hne : bit ≠ 0) (h : o.NanOutcome v bit defaultNan) : invalid bit o := by
    have hw : o.writes = !veOf v := by rw [h.writes_eq, decide_eq_false hne, Bool.false_or]
    exact ⟨⟨h.fr, h.fi, h.frOpen⟩, h.raised_eq, hw, fun hve => h.result (by rw [hw, hve]; rfl)⟩
  have himz : imz = imzBits (unpack a) (unpack c) := by
    change (if _ then vximzBit else 0) = _
    cases unpack a <;> cases unpack c <;> simp [imzBits]
  refine ⟨hnan (fpAdd_nan p v a b), hnan (fpSub_nan p v a b), hnan (fpMul_nan p v a c), hnan (fpDiv_nan p v a b),
    hnan (fpSqrt_nan p v a), fun sub => himz ▸ hnan (fpMulAdd_nan p v a b c sub), hnan (fpRoundSingle_nan v a),
    fun x y ha hb => ?infInf, fun x ha hb => ?infNumber, fun x y ha hc => ?infProduct,
    fun z sub ha hc hb => fpMulAdd_inf_addend p v ((isFinite_iff a).1 ha) ((isFinite_iff c).1 hc) hb sub,
    fpSqrt_inf p v, fun x => fpRoundSingle_inf v, fun x y ha hc => ?imz,
    fun x y ha hb => hinvalid (by decide) (fpDiv_zero_zero p v ha hb), fun x y m e ha hb => ?zeroDivide,
    fun ha => hinvalid (by decide) (fpSqrt_negative p v ha), fun x => fpSqrt_zero p v, FpOut.negated_spec p⟩
  case infInf =>
    obtain ⟨hadd, hadd'⟩ := fpAdd_inf_inf p v (b := b) ha
    obtain ⟨hsub, hsub'⟩ := fpSub_inf_inf p v (b := b) ha
    exact ⟨fun hne => ⟨hinvalid (by decide) (hadd' y hb hne), hsub y hb hne⟩,
      fun heq => ⟨hinvalid (by decide) (hsub' (heq ▸ hb)), hadd (heq ▸ hb)⟩, hinvalid (by decide) (fpDiv_inf_inf p v ha hb)⟩
  case infNumber =>
    have hnumber := (isFinite_iff b).1 hb
    obtain ⟨hadd, hadd'⟩ := fpAdd_inf_number p v ha hnumber
    obtain ⟨hsub, hsub'⟩ := fpSub_inf_number p v ha hnumber
    exact ⟨hadd, hadd', hsub, hsub', fpDiv_inf_number p v ha hnumber⟩
  case infProduct =>
    obtain ⟨hmul, hmul', himz, himz', -⟩ := Fp.NonzeroWith.mul_inf hc x
    rw [← ha] at hmul hmul' himz himz'
    obtain ⟨hout, hout'⟩ := fpMul_inf p v ha hc
    refine ⟨hout, hout', fun sub => ⟨fun hb => ?_, fun z hb => ⟨fun hne => ?_, fun heq => ?_⟩⟩⟩
    · exact ⟨(fpMulAdd_inf_product p v hmul himz sub).1 hb, (fpMulAdd_inf_product p v hmul' himz' sub).1 hb⟩
    · exact ⟨hinvalid (by decide) (((fpMulAdd_inf_product p v hmul himz sub).2 z hb).1 hne),
        hinvalid (by decide) (((fpMulAdd_inf_product p v hmul' himz' sub).2 z hb).1 hne)⟩
    · exact ⟨((fpMulAdd_inf_product p v hmul himz sub).2 z hb).2 heq,
        ((fpMulAdd_inf_product p v hmul' himz' sub).2 z hb).2 heq⟩
  case imz =>
    obtain ⟨hmul, hadd⟩ := fpMul_imz p v (b := b) (.inl ⟨ha, hc⟩)
    obtain ⟨hmul', hadd'⟩ := fpMul_imz p v (b := b) (.inr ⟨hc, ha⟩)
    exact ⟨hinvalid (by decide) hmul, hinvalid (by decide) hmul', fun hb sub =>
      ⟨hinvalid (by decide) (hadd hb sub), hinvalid (by decide) (hadd' hb sub)⟩⟩
  case zeroDivide =>
    intro o
    have ho : o = zeroDivide v (x ^^ y) := fpDiv_finite_zero p v ha hb
    obtain ⟨hfr, hfi, hopen, hrest⟩ := zeroDivide_spec v (x ^^ y)
    rw [ho]
    exact ⟨⟨hfr, hfi, hopen⟩, hrest⟩

end Sys2Proof.FpNumerics
end

section
/-! PROOFS. The family 44_fp_numerics.md: the numbers of a precision and the lanes that hold them (R420, R422, R423). -/

namespace Sys2Proof.Machine

/-! ### The first bit of a magnitude -/

section
variable {K : Type} [Field K] [LinearOrder K] [IsStrictOrderedRing K]

/-- The place of a magnitude's first bit is that of the significand that approximates it. -/
theorem Approximates.two_zpow_le_iff {x : K} {mant : Nat} {exp : Int} {sticky : Bool} (h : Approximates x mant exp sticky)
    (hm : mant ≠ 0) (k : Int) : 2 ^ k ≤ x ↔ k ≤ exp + mant.log2 := by
  have hpow : (0 : K) ≤ 2 ^ exp := by positivity
  have hlow : (2 : K) ^ (exp + mant.log2) ≤ x := by
    rw [zpow_add₀ two_ne_zero, zpow_natCast, mul_comm]
    have hle : ((2 ^ mant.log2 : Nat) : K) ≤ mant := Nat.cast_le.2 (Nat.log2_self_le hm)
    push_cast at hle
    exact (mul_le_mul_of_nonneg_right hle hpow).trans h.lower
  have hhigh : x < (2 : K) ^ (exp + mant.log2 + 1) := by
    have hle : ((mant + 1 : Nat) : K) ≤ ((2 ^ (mant.log2 + 1) : Nat) : K) := Nat.cast_le.2 Nat.lt_log2_self
    push_cast at hle
    rw [add_assoc, zpow_add₀ two_ne_zero, mul_comm]
    exact_mod_cast h.upper.trans_le (mul_le_mul_of_nonneg_right hle hpow)
  constructor
  · intro hk
    have := (zpow_lt_zpow_iff_right₀ (one_lt_two (α := K))).1 (hk.trans_lt hhigh)
    omega
  · exact fun hk => (zpow_le_zpow_right₀ one_le_two hk).trans hlow

theorem two_zpow_le_mul_iff {n : Nat} (hn : n ≠ 0) (q k : Int) : (2 : K) ^ k ≤ n * 2 ^ q ↔ k ≤ q + n.log2 :=
  (Approximates.exact n q).two_zpow_le_iff hn k

end

/-- Two ways to write one magnitude have the same first place. -/
theorem firstPlace_eq {m n : Nat} {e q : Int} (hm : m ≠ 0) (hn : n ≠ 0) (h : (m : ℚ) * 2 ^ e = n * 2 ^ q) :
    e + m.log2 = q + n.log2 := by
  have hle := (two_zpow_le_mul_iff hn q (e + m.log2)).1 (h ▸ (two_zpow_le_mul_iff hm e _).2 le_rfl)
  have hge := (two_zpow_le_mul_iff hm e (q + n.log2)).1 (h ▸ (two_zpow_le_mul_iff hn q _).2 le_rfl)
  omega

/-- A magnitude in a smaller unit. -/
theorem cast_mul_two_pow (m : Nat) {e q : Int} (h : q ≤ e) :
    ((m * 2 ^ (e - q).toNat : Nat) : ℚ) * 2 ^ q = m * 2 ^ e := by
  exact_mod_cast scaled_zpow m h

/-! ### The lane of a magnitude -/

/-- The lane holds `(-1)^neg * n * 2^q`, which is not 0. -/
def HoldsFinite (r : Lane) (neg : Bool) (n : Nat) (q : Int) : Prop :=
  ∃ m e, unpack r = .finite neg m e ∧ (m : ℚ) * 2 ^ e = n * 2 ^ q

theorem unpack_layout_denormal {neg : Bool} {f : Nat} (h0 : f ≠ 0) (hf : f < 2 ^ 52) :
    unpack (layout neg 0 f) = .finite neg f (-1074) := by
  rw [unpack, expField_layout (by omega) hf, fracField_layout (by omega) hf, sign_layout (by omega) hf, if_neg (by omega),
    if_pos rfl, if_neg h0]

/-- The image of a magnitude with a carry into the place above the significand. -/
theorem pack_carry (neg : Bool) {q : Int} (hmin : -1074 ≤ q) : pack neg (2 ^ 53) q = pack neg 1 (q + 53) := by
  have h53 : Nat.log2 (2 ^ 53) = 53 := Nat.log2_two_pow
  have h1 : Nat.log2 1 = 0 := by decide
  rw [pack_eq_layout (by decide) (by omega), pack_eq_layout (by decide) (by omega), h53, h1,
    show q + 53 + ((0 : Nat) : Int) = q + ((53 : Nat) : Int) by omega]
  rfl

theorem holdsFinite_pack {neg : Bool} {n : Nat} {q : Int} (hn : n ≠ 0) (hle : n ≤ 2 ^ 53) (hmin : -1074 ≤ q)
    (hmax : q + n.log2 ≤ 1023) : HoldsFinite (pack neg n q) neg n q := by
  obtain rfl | hlt := hle.eq_or_lt
  · have h53 : Nat.log2 (2 ^ 53) = 53 := Nat.log2_two_pow
    have h1 : Nat.log2 1 = 0 := by decide
    refine ⟨_, _, by rw [pack_carry neg hmin, unpack_pack (by decide) (by decide) (by omega) (by omega)], ?_⟩
    rw [h1, show q + 53 + ((0 : Nat) : Int) - 52 = q + 1 by omega, zpow_add₀ two_ne_zero]
    push_cast
    ring
  · have hlog : n.log2 < 53 := (Nat.log2_lt hn).2 hlt
    by_cases hnormal : -1022 ≤ q + n.log2
    · refine ⟨_, _, unpack_pack hn (by omega) hnormal hmax, ?_⟩
      rw [← cast_mul_two_pow n (show q + n.log2 - 52 ≤ q by omega)]
      congr 4
      omega
    · have hvalue := cast_mul_two_pow n hmin
      have hlt : n * 2 ^ (q + 1074).toNat < 2 ^ 52 := by
        refine (Nat.mul_lt_mul_of_pos_right Nat.lt_log2_self (by positivity)).trans_le ?_
        rw [← pow_add]
        exact Nat.pow_le_pow_right two_pos (by omega)
      refine ⟨_, _, by rw [pack, if_neg hn, if_neg hnormal, unpack_layout_denormal (by positivity) hlt], ?_⟩
      rwa [show q - -1074 = q + 1074 by omega] at hvalue

section
variable {r : Lane} {neg : Bool} {n : Nat} {q : Int} (h : HoldsFinite r neg n q)
include h

theorem HoldsFinite.laneValue_eq : laneValue r = signed neg (n * (2 : ℚ) ^ q) := by
  obtain ⟨m, e, hr, hvalue⟩ := h
  rw [laneValue_of_finite hr, hvalue]

theorem HoldsFinite.isFinite : isFinite r = true := by
  obtain ⟨m, e, hr, -⟩ := h
  rw [Machine.isFinite, hr]

theorem HoldsFinite.sign : r.getLsbD 63 = neg := by
  obtain ⟨m, e, hr, -⟩ := h
  rw [← unpack_neg (by simp [hr]), hr]
  rfl

theorem HoldsFinite.ne_zero : n ≠ 0 := by
  obtain ⟨m, e, hr, hvalue⟩ := h
  have hm := (unpack_finite_bounds hr).1
  rintro rfl
  have : (m : ℚ) * 2 ^ e ≠ 0 := by positivity
  simp_all

/-- The class of a finite lane is a denormalized number's where the number is below the least normalized one. -/
theorem HoldsFinite.classOf_eq (p : Precision) :
    classOf p r = if q + n.log2 < p.emin then classDenormal neg else classNormal neg := by
  have hn := h.ne_zero
  obtain ⟨m, e, hr, hvalue⟩ := h
  rw [classOf, hr, ← firstPlace_eq (unpack_finite_bounds hr).1 hn hvalue]

end

theorem exists_holdsFinite {v : Lane} (h : isFinite v = true) (hne : laneValue v ≠ 0) :
    ∃ neg n q, HoldsFinite v neg n q := by
  rw [isFinite_iff] at h
  rw [laneValue_eq] at hne
  obtain ⟨m, e, -, heq⟩ := h.exists_finite hne
  exact ⟨_, m, e, m, e, heq, rfl⟩

end Sys2Proof.Machine
end

section
/-! PROOFS. The family 44_fp_numerics.md: the numbers of single and double precision (R420, R422). -/

namespace Sys2Proof.Machine

/-! ### The numbers of a precision -/

/-- The limits of the two precisions. -/
theorem Precision.limits {p : Precision} (hp : p = single ∨ p = double) : 24 ≤ p.bits ∧ p.bits ≤ 53 ∧
    -1074 ≤ p.emin - (p.bits - 1) ∧ p.emin ≤ -126 ∧ 127 ≤ p.emax ∧ p.emax ≤ 1023 ∧ 0 ≤ p.wrap ∧ p.emin + p.wrap ≤ 1023 ∧
    p.emin ≤ p.emax - p.wrap := by
  obtain rfl | rfl := hp <;> decide

/-- The precision's significand and least exponent suffice for `y`; its greatest exponent need not. -/
def Precision.Represents (p : Precision) (y : ℚ) : Prop :=
  ∃ (k : Nat) (q : Int), k < 2 ^ p.bits ∧ p.emin - (p.bits - 1) ≤ q ∧ |y| = k * 2 ^ q

/-- The lane holds a finite number of the precision. -/
def Precision.Number (p : Precision) (v : Lane) : Prop :=
  isFinite v = true ∧ (p = single → singleRepresentable v = true)

section
variable {p : Precision} {y : ℚ}

theorem Precision.Represents.of_le {k : Nat} {q : Int} (hbits : 1 ≤ p.bits) (hk : k ≤ 2 ^ p.bits)
    (hq : p.emin - (p.bits - 1) ≤ q) (hy : |y| = k * 2 ^ q) : p.Represents y := by
  obtain rfl | hlt := hk.eq_or_lt
  · refine ⟨2 ^ (p.bits - 1), q + 1, Nat.pow_lt_pow_right (by decide) (by omega), by omega, ?_⟩
    rw [hy, zpow_add₀ two_ne_zero, ← Nat.sub_add_cancel hbits, pow_succ, Nat.add_sub_cancel]
    push_cast
    ring
  · exact ⟨k, q, hlt, hq, hy⟩

/-- What the precision represents is a candidate of the unit that a magnitude is rounded to. -/
theorem Precision.Represents.candidate {K : Type} [Field K] [LinearOrder K] [IsStrictOrderedRing K] {x : K} {Q : Int}
    (h : p.Represents y) (hQ : Q ≤ p.emin - (p.bits - 1) ∨ (2 : K) ^ (Q + (p.bits - 1)) ≤ x) (hbits : 1 ≤ p.bits) :
    Candidate ((2 : K) ^ Q) x y := by
  obtain ⟨k, q, hk, hq, hy⟩ := h
  have hcast : |(y : K)| = k * 2 ^ q := by
    rw [← Rat.cast_abs, hy]
    push_cast
    rfl
  obtain hle | hlt := le_or_gt Q q
  · have hunits : |(y : K)| = ((k * 2 ^ (q - Q).toNat : Int) : K) * 2 ^ Q := by
      rw [hcast]
      conv_lhs => rw [show q = ((q - Q).toNat : Int) + Q by omega, zpow_add₀ two_ne_zero, zpow_natCast]
      push_cast
      ring
    have hcandidate : Candidate ((2 : K) ^ Q) x |(y : K)| := .inl ⟨_, hunits⟩
    obtain habs | habs := abs_choice (y : K)
    · rwa [habs] at hcandidate
    · rw [habs] at hcandidate
      exact neg_neg (y : K) ▸ hcandidate.neg
  · have hx := hQ.resolve_left (by omega)
    refine .inr ⟨2 ^ (p.bits - 1), ?_, ?_⟩
    · calc |(y : K)| = k * 2 ^ q := hcast
        _ < ((2 ^ p.bits : Nat) : K) * 2 ^ q := mul_lt_mul_of_pos_right (Nat.cast_lt.2 hk) (by positivity)
        _ = 2 ^ (p.bits + q) := by rw [zpow_add₀ two_ne_zero, zpow_natCast]; push_cast; rfl
        _ ≤ 2 ^ ((p.bits - 1 : Nat) + Q) := zpow_le_zpow_right₀ one_le_two (by omega)
        _ = ((2 ^ (p.bits - 1) : Nat) : K) * 2 ^ Q := by rw [zpow_add₀ two_ne_zero, zpow_natCast]; push_cast; rfl
    · refine le_of_eq_of_le ?_ hx
      rw [show Q + ((p.bits : Int) - 1) = (p.bits - 1 : Nat) + Q by omega, zpow_add₀ two_ne_zero, zpow_natCast]
      push_cast
      rfl

end

/-! ### Lanes and the numbers of a precision -/

theorem double_represents {v : Lane} {neg : Bool} {m : Nat} {e : Int} (h : unpack v = .finite neg m e) :
    double.Represents (laneValue v) := by
  obtain ⟨-, hm, he, -⟩ := unpack_finite_bounds h
  refine ⟨m, e, hm, he, ?_⟩
  rw [laneValue_of_finite h, abs_signed _ (by positivity)]

theorem abs_laneValue_lt {v : Lane} {neg : Bool} {m : Nat} {e : Int} (h : unpack v = .finite neg m e) :
    |laneValue v| < 2 ^ (1024 : Int) := by
  obtain ⟨hm0, hm, -, he, -⟩ := unpack_finite_bounds h
  rw [laneValue_of_finite h, abs_signed _ (by positivity), ← not_le, two_zpow_le_mul_iff hm0]
  have := (Nat.log2_lt hm0).2 hm
  omega

/-- A lane is single-representable where its number is one of single precision. -/
theorem singleRepresentable_iff {v : Lane} {neg : Bool} {m : Nat} {e : Int} (h : unpack v = .finite neg m e) :
    singleRepresentable v = true ↔ single.Represents (laneValue v) ∧ |laneValue v| < 2 ^ (128 : Int) := by
  have hm := (unpack_finite_bounds h).1
  have habs : |laneValue v| = m * 2 ^ e := by rw [laneValue_of_finite h, abs_signed _ (by positivity)]
  have hlt : |laneValue v| < 2 ^ (128 : Int) ↔ e + m.log2 ≤ 127 := by
    rw [habs, ← not_le, two_zpow_le_mul_iff hm]
    omega
  rw [hlt, singleRepresentable, h]
  simp only [Bool.and_eq_true, decide_eq_true_iff]
  constructor
  · rintro ⟨⟨hlow, hhigh⟩, hdvd⟩
    refine ⟨?_, hhigh⟩
    generalize hQ : max (e + (m.log2 : Int)) (-126) - 23 = Q at hdvd
    have hvalue : |laneValue v| = (m * 2 ^ (e - Q).toNat / 2 ^ (Q - e).toNat : Nat) * 2 ^ Q := by
      obtain hle | hgt := le_or_gt Q e
      · rw [habs, show (Q - e).toNat = 0 by omega, pow_zero, Nat.div_one, cast_mul_two_pow m hle]
      · rw [habs, show (e - Q).toNat = 0 by omega, pow_zero, mul_one, ← cast_mul_two_pow _ hgt.le,
          Nat.div_mul_cancel (Nat.dvd_of_mod_eq_zero hdvd)]
    refine ⟨_, Q, ?_, by change -126 - (24 - 1) ≤ Q; omega, hvalue⟩
    have hk : |laneValue v| < 2 ^ ((24 : Nat) + Q) := by
      rw [habs, ← not_le, two_zpow_le_mul_iff hm]
      omega
    rw [hvalue, zpow_add₀ two_ne_zero, zpow_natCast] at hk
    exact_mod_cast lt_of_mul_lt_mul_right hk (by positivity)
  · rintro ⟨⟨k, q, hk, hq, hy⟩, hhigh⟩
    replace hk : k < 2 ^ 24 := hk
    replace hq : -149 ≤ q := hq
    have hk0 : k ≠ 0 := by
      rintro rfl
      rw [habs] at hy
      have : (m : ℚ) * 2 ^ e ≠ 0 := by positivity
      simp_all
    have hplace := firstPlace_eq hm hk0 (habs.symm.trans hy)
    have hlog := (Nat.log2_lt hk0).2 hk
    refine ⟨⟨by omega, hhigh⟩, Nat.mod_eq_zero_of_dvd ?_⟩
    obtain hle | hgt := le_or_gt q e
    · rw [show (max (e + (m.log2 : Int)) (-126) - 23 - e).toNat = 0 by omega, pow_zero]
      exact one_dvd m
    · have hmk : m = k * 2 ^ (q - e).toNat := by
        have heq := (cast_mul_two_pow k hgt.le).trans (hy.symm.trans habs)
        exact_mod_cast (mul_right_cancel₀ (by positivity) heq).symm
      generalize m.log2 = l at *
      rw [hmk]
      exact dvd_mul_of_dvd_right (pow_dvd_pow 2 (by omega)) k

section
variable {p : Precision} (hp : p = single ∨ p = double)
include hp

theorem Precision.number_iff {v : Lane} {neg : Bool} {m : Nat} {e : Int} (h : unpack v = .finite neg m e) :
    p.Number v ↔ p.Represents (laneValue v) ∧ |laneValue v| < 2 ^ (p.emax + 1) := by
  have hfinite : isFinite v = true := by rw [isFinite, h]
  obtain rfl | rfl := hp
  · exact ((and_iff_right hfinite).trans (imp_iff_right rfl)).trans (singleRepresentable_iff h)
  · exact iff_of_true ⟨hfinite, fun h => absurd h (by decide)⟩ ⟨double_represents h, abs_laneValue_lt h⟩

/-- What a number of the precision holds. -/
theorem Precision.Number.represents {v : Lane} (h : p.Number v) :
    p.Represents (laneValue v) ∧ |laneValue v| < 2 ^ (p.emax + 1) := by
  obtain ⟨hfinite, -⟩ := id h
  by_cases hzero : laneValue v = 0
  · rw [hzero, abs_zero]
    exact ⟨⟨0, _, by positivity, le_rfl, by simp⟩, by positivity⟩
  · obtain ⟨neg, m, e, m', e', hv, -⟩ := exists_holdsFinite hfinite hzero
    exact (number_iff hp hv).1 h

theorem HoldsFinite.number {r : Lane} {neg : Bool} {n : Nat} {q : Int} (h : HoldsFinite r neg n q) (hle : n ≤ 2 ^ p.bits)
    (hq : p.emin - (p.bits - 1) ≤ q) (hmax : q + n.log2 ≤ p.emax) : p.Number r := by
  have hn := h.ne_zero
  have habs : |laneValue r| = n * 2 ^ q := by rw [h.laneValue_eq, abs_signed _ (by positivity)]
  obtain ⟨hbits, -⟩ := Precision.limits hp
  obtain ⟨m, e, hr, -⟩ := h
  refine (Precision.number_iff hp hr).2 ⟨.of_le (by omega) hle hq habs, ?_⟩
  rw [habs, ← not_le, two_zpow_le_mul_iff hn]
  omega

end

/-! ### Even results -/

/-- The last bit of the significand of the lane's image in the precision is 0. -/
def evenImage (p : Precision) (r : Lane) : Bool :=
  if p = single then (singleFromDouble r).all (fun w => !w.getLsbD 0) else !r.getLsbD 0

/-- The fields of a finite number that is not a zero. -/
theorem fields_of_finite {v : Lane} {neg : Bool} {m : Nat} {e : Int} (h : unpack v = .finite neg m e) :
    expField v = 0 ∧ m = fracField v ∧ e = -1074 ∨
      0 < expField v ∧ m = 2 ^ 52 + fracField v ∧ e = expField v - 1075 := by
  unfold unpack at h
  dsimp only at h
  split at h
  case isTrue => split at h <;> cases h
  case isFalse =>
    split at h
    case isTrue hexp =>
      split at h
      · cases h
      · cases h
        exact .inl ⟨hexp, rfl, rfl⟩
    case isFalse =>
      cases h
      exact .inr ⟨by omega, rfl, rfl⟩

theorem getLsbD_eq_mod (v : Lane) (i : Nat) : v.getLsbD i = decide (v.toNat / 2 ^ i % 2 = 1) := by
  rw [BitVec.getLsbD, Nat.testBit_eq_decide_div_mod_eq]

/-- The last bit of a concatenation. -/
theorem getLsbD_append_zero {m n : Nat} (a : BitVec m) (b : BitVec n) (hn : 0 < n) :
    (a ++ b).getLsbD 0 = decide (b.toNat % 2 = 1) := by
  rw [BitVec.getLsbD_append, if_pos hn, BitVec.getLsbD, Nat.testBit_zero]

/-- `SingleFromDouble` is not defined below the denormalized singles. -/
theorem singleFromDouble_none {v : Lane} (hexp : expField v < 874) (hne : ¬ v.extractLsb' 0 63 = 0) :
    singleFromDouble v = none :=
  (if_neg (not_or.2 ⟨by omega, hne⟩)).trans (if_neg (by omega))

/-- A significand of at least `23 + i` bits that is a number of at most `2 ^ 23` moved left has a 0 at place `i`. -/
theorem bit_eq_zero_of_wide {m half k i : Nat} (hm : m = half * 2 ^ k) (hwide : 2 ^ 23 * 2 ^ i ≤ m) (hhalf : half ≤ 2 ^ 23) :
    m / 2 ^ i % 2 = 0 := by
  have hik : i ≤ k := by
    refine (Nat.pow_le_pow_iff_right (a := 2) (by decide)).1 ((Nat.mul_le_mul_left_iff (show 0 < 2 ^ 23 by decide)).1 ?_)
    exact (hm ▸ hwide).trans (Nat.mul_le_mul_right _ hhalf)
  obtain ⟨j, rfl⟩ := Nat.exists_eq_add_of_le hik
  rw [pow_add, mul_comm (2 ^ i), ← mul_assoc] at hm
  rw [hm, Nat.mul_div_cancel _ (by positivity)]
  cases j with
  | zero =>
    have := Nat.le_of_mul_le_mul_right (hm ▸ hwide) (by positivity)
    omega
  | succ j => rw [pow_succ, ← mul_assoc, Nat.mul_mod_left]

/-- An even number of units that the significand holds is a significand with a last bit of 0. -/
theorem HoldsFinite.evenImage {p : Precision} {r : Lane} {neg : Bool} {n : Nat} {q : Int} (h : HoldsFinite r neg n q)
    (hp : p = single ∨ p = double) (hle : n ≤ 2 ^ p.bits) (hq : p.emin - (p.bits - 1) ≤ q) (heven : n % 2 = 0) :
    evenImage p r = true := by
  obtain ⟨m, e, hr, hvalue⟩ := h
  obtain ⟨hm0, hm, -⟩ := unpack_finite_bounds hr
  obtain ⟨half, rfl⟩ : ∃ half, n = half * 2 := ⟨n / 2, by omega⟩
  have hvalue : (m : ℚ) * 2 ^ e = half * 2 ^ (q + 1) := by
    rw [hvalue, zpow_add₀ two_ne_zero]
    push_cast
    ring
  have hsmall : q + 1 ≤ e → m ≤ half := fun hqe => by
    have heq := (cast_mul_two_pow m hqe).trans hvalue
    have : m * 2 ^ (e - (q + 1)).toNat = half := by exact_mod_cast mul_right_cancel₀ (by positivity) heq
    exact this ▸ Nat.le_mul_of_pos_right m (by positivity)
  have hlarge : e ≤ q + 1 → m = half * 2 ^ (q + 1 - e).toNat := fun hqe => by
    have heq := (cast_mul_two_pow half hqe).trans hvalue.symm
    exact_mod_cast (mul_right_cancel₀ (by positivity) heq).symm
  have hfields := fields_of_finite hr
  have hfrac := fracField_eq r
  obtain rfl | rfl := hp
  · rw [Machine.evenImage, if_pos rfl]
    replace hle : half * 2 ≤ 2 ^ 24 := hle
    replace hq : -149 ≤ q := hq
    by_cases hcut : 896 < expField r ∨ r.extractLsb' 0 63 = 0
    · rw [singleFromDouble_cut hcut, Option.all_some, Bool.not_eq_true', getLsbD_append_zero _ _ (by decide),
        toNat_cut, decide_eq_false_iff_not]
      obtain hnormal | hzero := hcut
      · obtain hlt | hge := lt_or_ge e (q + 1)
        · have hbit := bit_eq_zero_of_wide (i := 29) (hlarge hlt.le) (by omega) (by omega)
          omega
        · have := hsmall hge
          omega
      · have hlow : r.toNat / 2 ^ 0 % 2 ^ 63 = 0 := (toNat_cut ..).symm.trans (congrArg BitVec.toNat hzero)
        omega
    · obtain ⟨hexp, -⟩ := not_or.1 hcut
      by_cases hlow : 874 ≤ expField r
      · rw [singleFromDouble_denormal hlow (by omega), Option.all_some, Bool.not_eq_true',
          getLsbD_append_zero _ _ (by decide), decide_eq_false_iff_not, BitVec.toNat_ofNat]
        have hdiv : (2 ^ 52 + fracField r) / 2 ^ (926 - expField r) =
            half * 2 ^ (q - e - (926 - expField r : Nat)).toNat * 2 := by
          rw [show 2 ^ 52 + fracField r = m by omega, hlarge (by omega),
            show (q + 1 - e).toNat = (q - e - (926 - expField r : Nat)).toNat + 1 + (926 - expField r) by omega, pow_add,
            ← mul_assoc, Nat.mul_div_cancel _ (by positivity), pow_succ, mul_assoc]
        omega
      · rw [singleFromDouble_none (by omega) (not_or.1 hcut).2]
        rfl
  · rw [Machine.evenImage, if_neg (by decide), Bool.not_eq_true', getLsbD_eq_mod, decide_eq_false_iff_not, pow_zero,
      Nat.div_one]
    replace hle : half * 2 ≤ 2 ^ 53 := hle
    replace hq : -1074 ≤ q := hq
    have hmod : m % 2 = 0 := by
      obtain hlt | hge := lt_or_ge e (q + 1)
      · rw [hlarge hlt.le, show (q + 1 - e).toNat = (q - e).toNat + 1 by omega, pow_succ, ← mul_assoc, Nat.mul_mod_left]
      · have := hsmall hge
        omega
    omega

end Sys2Proof.Machine
end

section
/-! PROOFS. The family 44_fp_numerics.md: `roundFinite` rounds correctly (R426, R430, R431, R432). -/

namespace Sys2Proof.Machine

/-! ### Units and powers of 2 -/

section
variable {K : Type} [Field K] [LinearOrder K] [IsStrictOrderedRing K] {rn : BitVec 2} {neg fr fi : Bool} {x : K} {n : Nat}
  {q : Int} (h : RoundedTo rn neg x (2 ^ q) n fr fi)

omit [LinearOrder K] [IsStrictOrderedRing K] in
theorem two_pow_units [CharZero K] (j : Nat) (q : Int) : (2 : K) ^ (q + j) = ((2 ^ j : Nat) : K) * 2 ^ q := by
  rw [add_comm, zpow_add₀ two_ne_zero, zpow_natCast]
  push_cast
  rfl

omit [IsStrictOrderedRing K] in
theorem candidate_natCast (k : Nat) (u x : K) : Candidate u x (k * u) := .inl ⟨k, by push_cast; rfl⟩

include h

theorem RoundedTo.natCast_le {k : Nat} (hk : k * 2 ^ q ≤ x) : k ≤ n :=
  Nat.cast_le.1 (le_of_mul_le_mul_right (h.le_of_le (candidate_natCast k _ _) hk) h.unit_pos)

theorem RoundedTo.le_natCast {k : Nat} (hk : x ≤ k * 2 ^ q) : n ≤ k :=
  Nat.cast_le.1 (le_of_mul_le_mul_right (h.ge_of_ge (candidate_natCast k _ _) hk) h.unit_pos)

theorem RoundedTo.two_pow_le {j : Nat} (hj : 2 ^ (q + j) ≤ x) : 2 ^ j ≤ n := h.natCast_le (two_pow_units (K := K) j q ▸ hj)

theorem RoundedTo.le_two_pow {j : Nat} (hj : x ≤ 2 ^ (q + j)) : n ≤ 2 ^ j := h.le_natCast (two_pow_units (K := K) j q ▸ hj)

end

/-! ### The sign of a rounded magnitude -/

section
variable {rn : BitVec 2} {neg fr fi : Bool} {x u : ℚ} {n : Nat} (h : RoundedTo rn neg x u n fr fi) (hx : 0 ≤ x)

theorem signed_injective {neg : Bool} {a b : ℚ} : signed neg a = signed neg b ↔ a = b := by cases neg <;> simp

theorem signed_lt_zero_iff {neg : Bool} {x : ℚ} (hx : 0 < x) : signed neg x < 0 ↔ neg = true := by
  cases neg with
  | true => simpa using hx
  | false => simpa using hx.le

theorem zero_lt_signed_iff {neg : Bool} {x : ℚ} (hx : 0 < x) : 0 < signed neg x ↔ neg = false := by
  cases neg with
  | true => simpa using hx.le
  | false => simpa using hx

include h

theorem RoundedTo.abs_units : |signed neg (n * u)| = n * u :=
  abs_signed _ (mul_nonneg (Nat.cast_nonneg n) h.unit_pos.le)

theorem RoundedTo.fi_eq : fi = decide (signed neg (n * u) ≠ signed neg x) :=
  eq_decide_of_iff (h.fi_iff.trans (not_congr signed_injective.symm))

theorem RoundedTo.near_signed : |signed neg (n * u) - signed neg x| < u := by
  rw [abs_signed_sub]
  exact h.near

include hx

theorem RoundedTo.fr_eq : fr = decide (|signed neg x| < |signed neg (n * u)|) :=
  eq_decide_of_iff (by rw [h.abs_units, abs_signed _ hx]; exact h.fr_iff)

end

/-! ### Overflow -/

/-- The largest number of a precision. -/
def Precision.largest (p : Precision) : ℚ := (2 - 2 ^ (1 - (p.bits : Int))) * 2 ^ p.emax

/-- `z` overflows (R430): rounded without a limit to the exponent, it is beyond the largest number. -/
def Precision.Overflows (p : Precision) (rn : BitVec 2) (z : ℚ) : Prop :=
  2 ^ (p.emax + 1) ≤ |z| ∨ (p.largest < |z| ∧
    ((rn = 0 ∧ 2 ^ (p.emax + 1) - 2 ^ (p.emax - p.bits) ≤ |z|) ∨ (rn = 2 ∧ 0 < z) ∨ (rn = 3 ∧ z < 0)))

theorem Precision.largest_eq (p : Precision) : p.largest = 2 ^ (p.emax + 1) - 2 ^ (p.emax - (p.bits - 1)) := by
  rw [largest, sub_mul, ← zpow_add₀ two_ne_zero, zpow_add_one₀ two_ne_zero, mul_comm]
  congr 2
  omega

theorem Precision.largest_eq_units (p : Precision) :
    p.largest = ((2 ^ p.bits - 1 : Nat) : ℚ) * 2 ^ (p.emax - (p.bits - 1)) := by
  rw [p.largest_eq, Nat.cast_sub (Nat.one_le_two_pow), sub_mul, ← two_pow_units]
  push_cast
  rw [one_mul]
  congr 2
  omega

theorem Precision.largest_lt (p : Precision) : p.largest < 2 ^ (p.emax + 1) := by
  rw [p.largest_eq]
  exact sub_lt_self _ (by positivity)

/-- The unit of a precision's numbers with their first bit at place `e`, from the least normalized number on. -/
def Precision.unit (p : Precision) (e : Int) : Int := max e p.emin - (p.bits - 1)

theorem two_zpow_unit_eq {p : Precision} {e : Int} (h : p.unit e = p.emax - (p.bits - 1)) :
    (2 : ℚ) ^ p.unit e = 2 * 2 ^ (p.emax - p.bits) := by
  rw [← zpow_one_add₀ two_ne_zero, h]
  congr 1
  omega

section
variable {p : Precision} (hp : p = single ∨ p = double) {x : ℚ} {e : Int} (hplace : ∀ k : Int, 2 ^ k ≤ x ↔ k ≤ e)
include hp hplace

theorem Precision.represents_candidate {y : ℚ} (hy : p.Represents y) : Candidate (2 ^ p.unit e) x y := by
  obtain ⟨hbits, -⟩ := limits hp
  have hcandidate := hy.candidate (K := ℚ) (x := x) (Q := p.unit e) ?_ (by omega)
  · simpa using hcandidate
  · obtain hlow | hhigh := le_or_gt e p.emin
    · exact .inl (by rw [unit]; omega)
    · exact .inr ((hplace _).2 (by rw [unit]; omega))

variable {rn : BitVec 2} {neg fr fi : Bool} {n : Nat} (h : RoundedTo rn neg x (2 ^ p.unit e) n fr fi)
include h

/-- A magnitude above the largest number and below `2 ^ (emax + 1)` is rounded to one of the two, in a unit that is their
difference; the largest number is an odd number of units. -/
theorem Precision.units_of_beyond (hlow : p.largest < x) (hhigh : x < 2 ^ (p.emax + 1)) :
    p.unit e = p.emax - (p.bits - 1) ∧
      ((n : ℚ) * 2 ^ p.unit e = p.largest ∧ n % 2 = 1 ∨ (n : ℚ) * 2 ^ p.unit e = 2 ^ (p.emax + 1)) := by
  obtain ⟨hbits, -, -, hemin, hemax, -⟩ := limits hp
  have hle : (2 : ℚ) ^ p.emax ≤ p.largest := by
    have hhalf : (2 : ℚ) ^ (p.emax - (p.bits - 1)) ≤ 2 ^ p.emax := zpow_le_zpow_right₀ one_le_two (by omega)
    rw [p.largest_eq, zpow_add_one₀ two_ne_zero]
    linarith
  have h1 := (hplace p.emax).1 (hle.trans hlow.le)
  have h2 := mt (hplace (p.emax + 1)).2 (not_le.2 hhigh)
  have hunit : p.unit e = p.emax - (p.bits - 1) := by rw [unit]; omega
  have hplaces : (2 : ℚ) ^ (p.emax + 1) = ((2 ^ p.bits : Nat) : ℚ) * 2 ^ p.unit e := by
    rw [← two_pow_units, hunit]
    congr 1
    omega
  have hge : 2 ^ p.bits - 1 ≤ n := h.natCast_le (by rw [hunit, ← p.largest_eq_units]; exact hlow.le)
  have hle : n ≤ 2 ^ p.bits := h.le_natCast (hplaces ▸ hhigh.le)
  refine ⟨hunit, ?_⟩
  obtain hn | hn : n = 2 ^ p.bits - 1 ∨ n = 2 ^ p.bits := by omega
  · have hpow : 2 ^ p.bits = 2 ^ (p.bits - 1) * 2 := by rw [← pow_succ]; congr 1; omega
    have hpos : 0 < 2 ^ (p.bits - 1) := by positivity
    exact .inl ⟨by rw [hn, hunit, p.largest_eq_units], by omega⟩
  · exact .inr (by rw [hn, hplaces])

theorem Precision.two_zpow_le_units_of_le (hx : 2 ^ (p.emax + 1) ≤ x) : 2 ^ (p.emax + 1) ≤ (n : ℚ) * 2 ^ p.unit e := by
  obtain ⟨hbits, -, -, hemin, hemax, -⟩ := limits hp
  refine h.le_of_le (represents_candidate hp hplace ⟨1, p.emax + 1, Nat.one_lt_two_pow (by omega), by omega, ?_⟩) hx
  rw [abs_of_pos (by positivity)]
  push_cast
  rw [one_mul]

theorem Precision.units_le_largest (hx : x ≤ p.largest) : (n : ℚ) * 2 ^ p.unit e ≤ p.largest := by
  obtain ⟨hbits, -, -, hemin, hemax, -⟩ := limits hp
  refine h.ge_of_ge (represents_candidate hp hplace ⟨2 ^ p.bits - 1, p.emax - (p.bits - 1), ?_, by omega, ?_⟩) hx
  · exact Nat.sub_lt (by positivity) one_pos
  · rw [p.largest_eq_units, abs_of_nonneg (by positivity)]

/-- A magnitude above the largest number that is rounded to it does not overflow. -/
theorem Precision.not_overflows_of_units_eq_largest (hx : 0 < x) (hlow : p.largest < x) (hhigh : x < 2 ^ (p.emax + 1))
    (hunits : (n : ℚ) * 2 ^ p.unit e = p.largest) (hodd : n % 2 = 1) : ¬ p.Overflows rn (signed neg x) := by
  have hunit := (units_of_beyond hp hplace h hlow hhigh).1
  have hhalf := two_zpow_unit_eq hunit
  rw [Overflows, abs_signed _ hx.le, zero_lt_signed_iff hx, signed_lt_zero_iff hx]
  rintro (hge | ⟨-, ⟨hrn, hx0⟩ | ⟨hrn, hneg⟩ | ⟨hrn, hneg⟩⟩)
  · exact hhigh.not_ge hge
  · obtain ⟨hnear, heven⟩ := h.nearest hrn
    rw [hunits, abs_of_nonpos (by linarith)] at hnear heven
    rw [p.largest_eq, ← hunit] at hnear heven
    have := heven (by linarith)
    omega
  · have hup := h.up hrn
    rw [hneg, if_neg (by decide), hunits] at hup
    exact hlow.not_ge hup
  · have hdown := h.down hrn
    rw [hneg, if_pos rfl, hunits] at hdown
    exact hlow.not_ge hdown

/-- A magnitude above the largest number that is rounded to `2 ^ (emax + 1)` overflows. -/
theorem Precision.overflows_of_units_eq (hx : 0 < x) (hlow : p.largest < x) (hhigh : x < 2 ^ (p.emax + 1))
    (hunits : (n : ℚ) * 2 ^ p.unit e = 2 ^ (p.emax + 1)) : p.Overflows rn (signed neg x) := by
  rw [Overflows, abs_signed _ hx.le, zero_lt_signed_iff hx, signed_lt_zero_iff hx]
  refine .inr ⟨hlow, ?_⟩
  obtain hrn | hrn | hrn | hrn := roundingModes rn
  · have hunit := (units_of_beyond hp hplace h hlow hhigh).1
    have hhalf := two_zpow_unit_eq hunit
    have hnear := (h.nearest hrn).1
    rw [hunits, abs_of_nonneg (by linarith)] at hnear
    exact .inl ⟨hrn, by linarith⟩
  · exact absurd (hunits ▸ h.towardZero hrn) hhigh.not_ge
  · have hup := h.up hrn
    rw [hunits] at hup
    cases neg with
    | true => exact absurd hup hhigh.not_ge
    | false => exact .inr (.inl ⟨hrn, rfl⟩)
  · have hdown := h.down hrn
    rw [hunits] at hdown
    cases neg with
    | true => exact .inr (.inr ⟨hrn, rfl⟩)
    | false => exact absurd hdown hhigh.not_ge

/-- A magnitude overflows where it is rounded to `2 ^ (emax + 1)` or more. -/
theorem Precision.overflows_iff (hx : 0 < x) :
    p.Overflows rn (signed neg x) ↔ 2 ^ (p.emax + 1) ≤ (n : ℚ) * 2 ^ p.unit e := by
  have habs : |signed neg x| = x := abs_signed neg hx.le
  obtain hge | hlt := le_or_gt (2 ^ (p.emax + 1)) x
  · exact iff_of_true (.inl (by rwa [habs])) (two_zpow_le_units_of_le hp hplace h hge)
  obtain hle | hgt := le_or_gt x p.largest
  · refine iff_of_false ?_ (not_le.2 ((units_le_largest hp hplace h hle).trans_lt p.largest_lt))
    rw [Overflows, habs]
    exact fun hover => hover.elim hlt.not_ge fun hbeyond => hle.not_gt hbeyond.1
  obtain ⟨-, ⟨hunits, hodd⟩ | hunits⟩ := units_of_beyond hp hplace h hgt hlt
  · exact iff_of_false (not_overflows_of_units_eq_largest hp hplace h hx hgt hlt hunits hodd)
      (not_le.2 (hunits ▸ p.largest_lt))
  · exact iff_of_true (overflows_of_units_eq hp hplace h hx hgt hlt hunits) hunits.ge

/-- A magnitude above the largest number that does not overflow is rounded to the largest number. -/
theorem Precision.units_eq_largest (hx : 0 < x) (hlow : p.largest < x) (hno : ¬ p.Overflows rn (signed neg x)) :
    (n : ℚ) * 2 ^ p.unit e = p.largest := by
  have hlt := not_le.1 (mt (overflows_iff hp hplace h hx).2 hno)
  have hhigh : x < 2 ^ (p.emax + 1) := not_le.1 fun hge => hlt.not_ge (two_zpow_le_units_of_le hp hplace h hge)
  obtain ⟨-, ⟨hunits, -⟩ | hunits⟩ := units_of_beyond hp hplace h hlow hhigh
  · exact hunits
  · exact absurd hunits hlt.ne

end

/-! ### Correct rounding -/

/-- `r` is the best number of the precision for `z` under RN (R426 (3)). -/
structure RoundsIn (p : Precision) (rn : BitVec 2) (z : ℚ) (r : Lane) : Prop where
  nearest : rn = 0 → ∀ q, p.Number q → |laneValue r - z| ≤ |laneValue q - z| ∧
    (|laneValue r - z| = |laneValue q - z| → laneValue q ≠ laneValue r → evenImage p r = true)
  towardZero : rn = 1 → |laneValue r| ≤ |z| ∧ ∀ q, p.Number q → |laneValue q| ≤ |z| → |laneValue q| ≤ |laneValue r|
  up : rn = 2 → z ≤ laneValue r ∧ ∀ q, p.Number q → z ≤ laneValue q → laneValue r ≤ laneValue q
  down : rn = 3 → laneValue r ≤ z ∧ ∀ q, p.Number q → laneValue q ≤ z → laneValue q ≤ laneValue r

/-- The result times `2 ^ k` is `z` rounded to the precision's significand, with `bit` raised (R430, R431). -/
structure ScaledOutcome (p : Precision) (z : ℚ) (k : Int) (bit : Word) (o : FpOut) : Prop where
  raised : o.raised = bit ||| xxIf o.fi
  fi : o.fi = decide (laneValue o.result * 2 ^ k ≠ z)
  fr : o.fr = decide (|z| < |laneValue o.result * 2 ^ k|)
  near : |laneValue o.result * 2 ^ k - z| < |z| * 2 ^ (1 - (p.bits : Int))

/-- A result within the precision's limits, or denormalized where underflow is disabled. -/
structure NumberOutcome (p : Precision) (rn : BitVec 2) (z : ℚ) (o : FpOut) : Prop where
  number : p.Number o.result
  raised : o.raised = (if |z| < 2 ^ p.emin ∧ o.fi = true then uxBit else 0) ||| xxIf o.fi
  fi : o.fi = decide (laneValue o.result ≠ z)
  fr : o.fr = decide (|z| < |laneValue o.result|)
  rounds : RoundsIn p rn z o.result

/-- The result of an overflow with OE = 0 (R430). -/
structure OverflowOutcome (p : Precision) (rn : BitVec 2) (z : ℚ) (o : FpOut) : Prop where
  raised : o.raised = oxBit ||| xxBit
  fi : o.fi = true
  result : if rn = 0 ∨ (rn = 2 ∧ 0 < z) ∨ (rn = 3 ∧ z < 0) then o.result = infinity (decide (z < 0))
    else |laneValue o.result| = p.largest

/-- `o` is `z`, which is not 0, rounded to the precision under FPSCR `v`. -/
structure CorrectlyRounded (p : Precision) (v : Word) (z : ℚ) (o : FpOut) : Prop where
  writes : o.writes = true
  sign : o.result.getLsbD 63 = decide (z < 0)
  fprf : o.fprf = if |z| < 2 ^ p.emin ∧ ueOf v = true then classNormal (decide (z < 0)) else classOf p o.result
  beyond : ¬ p.Overflows (rnOf v) z → p.largest < |z| → |laneValue o.result| = p.largest ∧ o.raised = xxBit
  number : ¬ p.Overflows (rnOf v) z → ¬ (|z| < 2 ^ p.emin ∧ ueOf v = true) → NumberOutcome p (rnOf v) z o
  overflow : p.Overflows (rnOf v) z → oeOf v = false → OverflowOutcome p (rnOf v) z o
  overflowScaled : p.Overflows (rnOf v) z → oeOf v = true → ScaledOutcome p z p.wrap oxBit o
  underflowScaled : |z| < 2 ^ p.emin → ueOf v = true → ScaledOutcome p z (-p.wrap) uxBit o

/-- A magnitude rounded to the units of its place gives the best number of the precision. -/
theorem RoundedTo.roundsIn {p : Precision} (hp : p = single ∨ p = double) {x : ℚ} {e : Int} (hx : 0 ≤ x)
    (hplace : ∀ k : Int, 2 ^ k ≤ x ↔ k ≤ e) {rn : BitVec 2} {neg fr fi : Bool} {n : Nat}
    (h : RoundedTo rn neg x (2 ^ p.unit e) n fr fi) {r : Lane} (hr : laneValue r = signed neg (n * (2 : ℚ) ^ p.unit e))
    (heven : n % 2 = 0 → evenImage p r = true) : RoundsIn p rn (signed neg x) r := by
  have hcandidate : ∀ q, p.Number q → Candidate (2 ^ p.unit e) x (laneValue q) := fun q hq =>
    Precision.represents_candidate hp hplace (hq.represents hp).1
  refine ⟨fun hrn q hq => ?_, fun hrn => ?_, fun hrn => ?_, fun hrn => ?_⟩
  · obtain ⟨hle, htie⟩ := h.best_nearest hrn (hcandidate q hq)
    rw [hr]
    exact ⟨hle, fun heq hne => heven (htie heq hne)⟩
  · rw [hr, h.abs_units, abs_signed _ hx]
    exact ⟨h.towardZero hrn, fun q hq => h.le_of_le (hcandidate q hq).abs⟩
  · obtain ⟨hup, hbest⟩ := h.best_up hrn
    rw [hr]
    exact ⟨hup, fun q hq => hbest _ (hcandidate q hq)⟩
  · obtain ⟨hdown, hbest⟩ := h.best_down hrn
    rw [hr]
    exact ⟨hdown, fun q hq => hbest _ (hcandidate q hq)⟩

theorem RoundedTo.scaledOutcome {p : Precision} {x : ℚ} (hx : 0 ≤ x) {rn : BitVec 2} {neg : Bool} {n : Nat} {q k : Int}
    {bit : Word} {o : FpOut} (h : RoundedTo rn neg x (2 ^ q) n o.fr o.fi)
    (hr : laneValue o.result = signed neg (n * (2 : ℚ) ^ (q - k))) (hunit : (2 : ℚ) ^ (q + (p.bits - 1)) ≤ x)
    (hraised : o.raised = bit ||| xxIf o.fi) : ScaledOutcome p (signed neg x) k bit o := by
  have hscaled : laneValue o.result * 2 ^ k = signed neg (n * (2 : ℚ) ^ q) := by
    have hpow : (n : ℚ) * 2 ^ (q - k) * 2 ^ k = n * 2 ^ q := by
      rw [mul_assoc, ← zpow_add₀ two_ne_zero, sub_add_cancel]
    rw [hr, ← hpow]
    cases neg <;> simp
  refine ⟨hraised, ?_, ?_, ?_⟩
  · rw [hscaled]
    exact h.fi_eq
  · rw [hscaled]
    exact h.fr_eq hx
  · rw [hscaled]
    refine h.near_signed.trans_le ?_
    rw [abs_signed _ hx]
    calc (2 : ℚ) ^ q = 2 ^ (q + (p.bits - 1)) * 2 ^ (1 - (p.bits : Int)) := by
          rw [← zpow_add₀ two_ne_zero]
          congr 1
          omega
      _ ≤ x * 2 ^ (1 - (p.bits : Int)) := mul_le_mul_of_nonneg_right hunit (by positivity)

end Sys2Proof.Machine
end

section
/-! PROOFS. The family 44_fp_numerics.md: the outcomes of `roundFinite` (R426, R430, R431, R432). -/

namespace Sys2Proof.Machine

/-! ### The outcomes -/

/-- The magnitude in the units of its place. -/
def unitsOf (p : Precision) (v : Word) (neg : Bool) (mant : Nat) (exp : Int) (sticky : Bool) : Rounded :=
  roundAt (rnOf v) neg mant exp sticky (p.unit (exp + mant.log2))

section
variable (p : Precision) (v : Word) (neg : Bool) (mant : Nat) (exp : Int) (sticky : Bool)

theorem unitsOf_q : (unitsOf p v neg mant exp sticky).q = p.unit (exp + mant.log2) := rfl

theorem roundFinite_underflow (htiny : exp + mant.log2 < p.emin) (hue : ueOf v = true) :
    roundFinite p v neg mant exp sticky =
      let r := roundAt (rnOf v) neg mant exp sticky (exp + mant.log2 - (p.bits - 1))
      ⟨uxBit ||| xxIf r.fi, pack neg r.n (exp + mant.log2 - (p.bits - 1) + p.wrap), classNormal neg, r.fr, r.fi, false,
        true⟩ :=
  if_pos (by rw [decide_eq_true htiny, hue]; rfl)

theorem roundFinite_limited (h : ¬ (exp + mant.log2 < p.emin ∧ ueOf v = true)) : roundFinite p v neg mant exp sticky =
    let r := unitsOf p v neg mant exp sticky
    if r.n = 0 then ⟨uxBit ||| xxIf r.fi, layout neg 0 0, classZero neg, r.fr, r.fi, false, true⟩
    else if p.emax < r.q + r.n.log2 then
      if oeOf v then ⟨oxBit ||| xxIf r.fi, pack neg r.n (r.q - p.wrap), classNormal neg, r.fr, r.fi, false, true⟩
      else ⟨oxBit ||| xxBit, overflowResult p (rnOf v) neg, classOf p (overflowResult p (rnOf v) neg), false, true, true,
        true⟩
    else ⟨(if decide (exp + mant.log2 < p.emin) && r.fi then uxBit else 0) ||| xxIf r.fi, pack neg r.n r.q,
      if r.q + r.n.log2 < p.emin then classDenormal neg else classNormal neg, r.fr, r.fi, false, true⟩ :=
  if_neg (by simpa using h)

/-- A normalized result within the limits. -/
theorem roundFinite_normal (hmin : p.emin ≤ exp + mant.log2) (hn : (unitsOf p v neg mant exp sticky).n ≠ 0)
    (hlow : exp + mant.log2 ≤ p.unit (exp + mant.log2) + (unitsOf p v neg mant exp sticky).n.log2)
    (hmax : p.unit (exp + mant.log2) + (unitsOf p v neg mant exp sticky).n.log2 ≤ p.emax) :
    roundFinite p v neg mant exp sticky =
      let r := unitsOf p v neg mant exp sticky
      ⟨xxIf r.fi, pack neg r.n r.q, classNormal neg, r.fr, r.fi, false, true⟩ := by
  rw [roundFinite_limited p v neg mant exp sticky fun htiny => hmin.not_gt htiny.1]
  dsimp only
  rw [unitsOf_q, if_neg hn, if_neg hmax.not_gt, decide_eq_false hmin.not_gt, if_neg (hmin.trans hlow).not_gt]
  congr 1
  exact BitVec.zero_or

end

/-! ### The number of units -/

theorem log2_le_of_le_two_pow {n k : Nat} (hn : n ≠ 0) (h : n ≤ 2 ^ k) : n.log2 ≤ k :=
  Nat.lt_succ_iff.1 ((Nat.log2_lt hn).2 (h.trans_lt (Nat.pow_lt_pow_right (by decide) (Nat.lt_succ_self k))))

section
variable {K : Type} [Field K] [LinearOrder K] [IsStrictOrderedRing K] {p : Precision} {x : K}

theorem unitsOf_roundedTo (v : Word) (neg : Bool) {mant : Nat} {exp : Int} {sticky : Bool} (h : Approximates x mant exp sticky)
    (hs : sticky = true → p.bits ≤ mant.log2) : RoundedTo (rnOf v) neg x (2 ^ p.unit (exp + mant.log2))
      (unitsOf p v neg mant exp sticky).n (unitsOf p v neg mant exp sticky).fr (unitsOf p v neg mant exp sticky).fi :=
  roundAt_roundedTo h (fun hsticky => by have := hs hsticky; rw [Precision.unit]; omega) _ _

variable (hp : p = single ∨ p = double) {e : Int} (hplace : ∀ k : Int, 2 ^ k ≤ x ↔ k ≤ e) {rn : BitVec 2}
  {neg fr fi : Bool} {n : Nat} (h : RoundedTo rn neg x (2 ^ p.unit e) n fr fi)
include hp hplace h

theorem units_le : n ≤ 2 ^ p.bits := by
  have := (Precision.limits hp).1
  refine h.le_two_pow (le_of_lt (not_le.1 (mt (hplace _).1 ?_)))
  rw [Precision.unit]
  omega

/-- A magnitude not below the least normalized number fills the significand. -/
theorem le_units (hnormal : p.emin ≤ e) : 2 ^ (p.bits - 1) ≤ n := by
  have := (Precision.limits hp).1
  refine h.two_pow_le ((hplace _).2 ?_)
  rw [Precision.unit]
  omega

/-- The first place of a normalized result is that of the magnitude or the one above. -/
theorem units_places (hnormal : p.emin ≤ e) : n ≠ 0 ∧ e ≤ p.unit e + n.log2 ∧ p.unit e + n.log2 ≤ e + 1 := by
  have hge := le_units hp hplace h hnormal
  have hn : n ≠ 0 := (lt_of_lt_of_le (by positivity) hge).ne'
  have hlow := (Nat.le_log2 hn).2 hge
  have hhigh := log2_le_of_le_two_pow hn (units_le hp hplace h)
  have := (Precision.limits hp).1
  rw [Precision.unit]
  omega

/-- A magnitude below the least normalized number is not rounded beyond it. -/
theorem units_le_of_tiny (htiny : e < p.emin) : n ≤ 2 ^ (p.bits - 1) := by
  have := (Precision.limits hp).1
  refine h.le_two_pow (le_of_lt (not_le.1 (mt (hplace _).1 ?_)))
  rw [Precision.unit]
  omega

end

/-! ### Each outcome is correct -/

theorem Precision.two_zpow_emin_le_largest {p : Precision} (hp : p = single ∨ p = double) : 2 ^ p.emin ≤ p.largest := by
  obtain ⟨hbits, -, -, hemin, hemax, -⟩ := limits hp
  have hle : (2 : ℚ) ^ p.emin ≤ 2 ^ p.emax := zpow_le_zpow_right₀ one_le_two (by omega)
  have hhalf : (2 : ℚ) ^ (p.emax - (p.bits - 1)) ≤ 2 ^ p.emax := zpow_le_zpow_right₀ one_le_two (by omega)
  rw [p.largest_eq, zpow_add_one₀ two_ne_zero]
  linarith

/-- A disabled overflow gives the infinity or the largest number, as RN says (R430). -/
theorem overflowResult_spec {p : Precision} (hp : p = single ∨ p = double) (rn : BitVec 2) (neg : Bool) :
    (overflowResult p rn neg).getLsbD 63 = neg ∧
      if rn = 0 ∨ (rn = 2 ∧ neg = false) ∨ (rn = 3 ∧ neg = true) then overflowResult p rn neg = infinity neg
      else |laneValue (overflowResult p rn neg)| = p.largest := by
  obtain ⟨hbits, hbits', hemin', hemin, hemax, hemax', -⟩ := Precision.limits hp
  have hinf : (infinity neg).getLsbD 63 = neg := sign_layout (by decide) (by decide)
  have hlt : 2 ^ p.bits - 1 < 2 ^ p.bits := Nat.sub_lt (by positivity) one_pos
  have hne : 2 ^ p.bits - 1 ≠ 0 := by
    have := Nat.one_lt_two_pow (n := p.bits) (by omega)
    omega
  have hlog := (Nat.log2_lt hne).2 hlt
  have hholds : HoldsFinite (pack neg (2 ^ p.bits - 1) (p.emax - (p.bits - 1))) neg (2 ^ p.bits - 1)
      (p.emax - (p.bits - 1)) :=
    holdsFinite_pack hne (hlt.le.trans (Nat.pow_le_pow_right two_pos hbits')) (by omega) (by omega)
  have hlargest : |laneValue (pack neg (2 ^ p.bits - 1) (p.emax - (p.bits - 1)))| = p.largest := by
    rw [hholds.laneValue_eq, abs_signed _ (by positivity), p.largest_eq_units]
  obtain rfl | rfl | rfl | rfl := roundingModes rn
  · exact ⟨hinf, rfl⟩
  · exact ⟨hholds.sign, hlargest⟩
  · cases neg with
    | true => exact ⟨hholds.sign, hlargest⟩
    | false => exact ⟨hinf, rfl⟩
  · cases neg with
    | true => exact ⟨hinf, rfl⟩
    | false => exact ⟨hholds.sign, hlargest⟩

/-- A number below the least normalized one does not overflow. -/
theorem Precision.not_overflows_of_tiny {p : Precision} (hp : p = single ∨ p = double) {rn : BitVec 2} {z : ℚ}
    (h : |z| < 2 ^ p.emin) : ¬ p.Overflows rn z := by
  have hle := two_zpow_emin_le_largest hp
  have hlt := p.largest_lt
  rintro (hge | ⟨hgt, -⟩) <;> linarith

section
variable {p : Precision} (hp : p = single ∨ p = double) {v : Word} {neg fr fi : Bool} {x : ℚ} {e : Int} {n : Nat}
  (hx : 0 < x) (hplace : ∀ k : Int, 2 ^ k ≤ x ↔ k ≤ e) (h : RoundedTo (rnOf v) neg x (2 ^ p.unit e) n fr fi)
include hp hx hplace h

/-- Overflow is not underflow, and the first place of the result is beyond the greatest exponent. -/
theorem overflow_facts (hn : n ≠ 0) (hover : p.emax < p.unit e + n.log2) :
    p.Overflows (rnOf v) (signed neg x) ∧ p.emin ≤ e ∧ p.unit e = e - (p.bits - 1) ∧ p.emax ≤ e := by
  have hemin : p.emin ≤ e := not_lt.1 fun htiny => by
    have := log2_le_of_le_two_pow hn (units_le_of_tiny hp hplace h htiny)
    obtain ⟨hbits, -, -, hemin, hemax, -⟩ := Precision.limits hp
    rw [Precision.unit] at hover
    omega
  have hlog := log2_le_of_le_two_pow hn (units_le hp hplace h)
  refine ⟨(Precision.overflows_iff hp hplace h hx).2 ((two_zpow_le_mul_iff hn _ _).2 (by omega)), hemin, ?_, ?_⟩ <;>
    rw [Precision.unit] at * <;> omega

/-- Enabled overflow (R430). -/
theorem correctlyRounded_overflowScaled (hn : n ≠ 0) (hover : p.emax < p.unit e + n.log2) (hoe : oeOf v = true)
    (hhigh : x < 2 ^ (1023 + p.wrap)) : CorrectlyRounded p v (signed neg x)
      ⟨oxBit ||| xxIf fi, pack neg n (p.unit e - p.wrap), classNormal neg, fr, fi, false, true⟩ := by
  obtain ⟨hbits, hbits', hemin', hemin, hemax, hemax', hwrap0, -, hwrap⟩ := Precision.limits hp
  obtain ⟨hoverflows, hnormal, hunit, hplaceLow⟩ := overflow_facts hp hx hplace h hn hover
  have hle := units_le hp hplace h
  have hlog := log2_le_of_le_two_pow hn hle
  have hplaceHigh := mt (hplace (1023 + p.wrap)).2 (not_le.2 hhigh)
  have habs : |signed neg x| = x := abs_signed neg hx.le
  have hneg : decide (signed neg x < 0) = neg := by simp [signed_lt_zero_iff hx]
  have hbig : ¬ x < 2 ^ p.emin := not_lt.2 ((hplace _).2 hnormal)
  have hholds : HoldsFinite (pack neg n (p.unit e - p.wrap)) neg n (p.unit e - p.wrap) :=
    holdsFinite_pack hn (hle.trans (Nat.pow_le_pow_right two_pos hbits')) (by omega) (by omega)
  refine ⟨rfl, by rw [hneg, hholds.sign], ?fprf, absurd hoverflows, absurd hoverflows, fun _ hoff => ?disabled,
    fun _ _ => h.scaledOutcome hx.le hholds.laneValue_eq ((hplace _).2 (by omega)) rfl,
    fun htiny => absurd (habs ▸ htiny) hbig⟩
  case fprf => rw [habs, if_neg fun htiny => hbig htiny.1, hholds.classOf_eq, if_neg (by omega)]
  case disabled =>
    rw [hoe] at hoff
    cases hoff

/-- Disabled overflow (R430). -/
theorem correctlyRounded_overflow (hn : n ≠ 0) (hover : p.emax < p.unit e + n.log2) (hoe : oeOf v = false) :
    CorrectlyRounded p v (signed neg x) ⟨oxBit ||| xxBit, overflowResult p (rnOf v) neg,
      classOf p (overflowResult p (rnOf v) neg), false, true, true, true⟩ := by
  obtain ⟨hoverflows, hnormal, -⟩ := overflow_facts hp hx hplace h hn hover
  have habs : |signed neg x| = x := abs_signed neg hx.le
  have hneg : decide (signed neg x < 0) = neg := by simp [signed_lt_zero_iff hx]
  have hbig : ¬ x < 2 ^ p.emin := not_lt.2 ((hplace _).2 hnormal)
  obtain ⟨hsign, hresult⟩ := overflowResult_spec hp (rnOf v) neg
  refine ⟨rfl, hsign.trans hneg.symm, ?fprf, absurd hoverflows, absurd hoverflows, fun _ _ => ⟨rfl, rfl, ?result⟩,
    fun _ hon => ?enabled, fun htiny => absurd (habs ▸ htiny) hbig⟩
  case fprf => rw [habs, if_neg fun htiny => hbig htiny.1]
  case result => simpa only [zero_lt_signed_iff hx, signed_lt_zero_iff hx, Bool.decide_eq_true] using hresult
  case enabled =>
    rw [hoe] at hon
    cases hon

variable (hmode : ¬ (x < 2 ^ p.emin ∧ ueOf v = true))
include hmode

/-- A number of the precision that the magnitude is rounded to within the limits. -/
theorem correctlyRounded_of_number {o : FpOut} (hfr : o.fr = fr) (hfi : o.fi = fi)
    (hlimit : (n : ℚ) * 2 ^ p.unit e < 2 ^ (p.emax + 1)) (hwrites : o.writes = true) (hnumber : p.Number o.result)
    (hvalue : laneValue o.result = signed neg (n * (2 : ℚ) ^ p.unit e)) (hsign : o.result.getLsbD 63 = neg)
    (heven : n % 2 = 0 → evenImage p o.result = true) (hclass : o.fprf = classOf p o.result)
    (hraised : o.raised = (if x < 2 ^ p.emin ∧ o.fi = true then uxBit else 0) ||| xxIf o.fi) :
    CorrectlyRounded p v (signed neg x) o := by
  subst hfr hfi
  have habs : |signed neg x| = x := abs_signed neg hx.le
  have hno : ¬ p.Overflows (rnOf v) (signed neg x) :=
    mt (Precision.overflows_iff hp hplace h hx).1 (not_le.2 hlimit)
  have hneg : decide (signed neg x < 0) = neg := by simp [signed_lt_zero_iff hx]
  refine ⟨hwrites, by rw [hneg, hsign], by rw [habs, if_neg hmode, hclass], fun _ hlow => ?beyond, fun _ _ => ?number,
    fun hover => absurd hover hno, fun hover => absurd hover hno, fun htiny hue => absurd ⟨habs ▸ htiny, hue⟩ hmode⟩
  case beyond =>
    rw [habs] at hlow
    have hlargest := Precision.units_eq_largest hp hplace h hx hlow hno
    have hfi : o.fi = true := h.fi_iff.2 (by rw [hlargest]; exact hlow.ne)
    rw [hvalue, h.abs_units, hraised, hfi,
      if_neg fun ⟨htiny, _⟩ => absurd ((Precision.two_zpow_emin_le_largest hp).trans_lt (hlow.trans htiny)) (lt_irrefl _)]
    exact ⟨hlargest, by decide⟩
  case number =>
    refine ⟨hnumber, by rw [habs, hraised], ?_, ?_, h.roundsIn hp hx.le hplace hvalue heven⟩
    · rw [hvalue]
      exact h.fi_eq
    · rw [hvalue]
      exact h.fr_eq hx.le

/-- A result of no units is a zero, with underflow. -/
theorem correctlyRounded_zero (hn : n = 0) : CorrectlyRounded p v (signed neg x)
    ⟨uxBit ||| xxIf fi, layout neg 0 0, classZero neg, fr, fi, false, true⟩ := by
  have hvalue : (n : ℚ) * 2 ^ p.unit e = 0 := by simp [hn]
  have hfi : fi = true := h.fi_iff.2 (by rw [hvalue]; exact hx.ne)
  have htiny : x < 2 ^ p.emin := not_le.1 fun hge => by
    have := le_units hp hplace h ((hplace _).1 hge)
    have : 0 < 2 ^ (p.bits - 1) := by positivity
    omega
  have hzero := unpack_layout_zero neg
  have hnumber : p.Number (layout neg 0 0) := ⟨by rw [isFinite, hzero], fun _ => by rw [singleRepresentable, hzero]⟩
  have heven : evenImage p (layout neg 0 0) = true := by
    obtain rfl | rfl := hp <;> cases neg <;> decide
  refine correctlyRounded_of_number hp hx hplace h hmode rfl rfl (by rw [hvalue]; positivity) rfl hnumber ?_
    (sign_layout (by decide) (by decide)) (fun _ => heven) (by rw [classOf, hzero]) ?_
  · rw [hvalue, laneValue_eq, hzero]
    cases neg <;> simp [Fp.value]
  · exact (congrArg (· ||| xxIf fi) (if_pos ⟨htiny, hfi⟩)).symm

/-- A result within the limits. -/
theorem correctlyRounded_units (hn : n ≠ 0) (hmax : p.unit e + n.log2 ≤ p.emax) : CorrectlyRounded p v (signed neg x)
    ⟨(if decide (e < p.emin) && fi then uxBit else 0) ||| xxIf fi, pack neg n (p.unit e),
      if p.unit e + n.log2 < p.emin then classDenormal neg else classNormal neg, fr, fi, false, true⟩ := by
  obtain ⟨-, hbits, hemin, -, -, hemax, -⟩ := Precision.limits hp
  have hle := units_le hp hplace h
  have hunit : p.emin - (p.bits - 1) ≤ p.unit e := by rw [Precision.unit]; omega
  have hholds : HoldsFinite (pack neg n (p.unit e)) neg n (p.unit e) :=
    holdsFinite_pack hn (hle.trans (Nat.pow_le_pow_right two_pos hbits)) (by omega) (by omega)
  have htiny : e < p.emin ↔ x < 2 ^ p.emin := by rw [← not_le, ← hplace, not_le]
  refine correctlyRounded_of_number hp hx hplace h hmode rfl rfl ?_ rfl (hholds.number hp hle hunit hmax)
    hholds.laneValue_eq hholds.sign (hholds.evenImage hp hle hunit) (hholds.classOf_eq p).symm ?_
  · rw [← not_le, two_zpow_le_mul_iff hn]
    omega
  · simp only [Bool.and_eq_true, decide_eq_true_iff, htiny]

end

section
variable {p : Precision} (hp : p = single ∨ p = double) {v : Word} {neg : Bool} {x : ℚ} {mant : Nat} {exp : Int}
  {sticky : Bool} (h : Approximates x mant exp sticky) (hm : mant ≠ 0) (hs : sticky = true → p.bits ≤ mant.log2)
  (hx : 0 < x)
include hp h hm hs hx

/-- Enabled underflow (R431). -/
theorem correctlyRounded_underflow (hlow : 2 ^ (p.bits - 1075 - p.wrap) ≤ x) (htiny : exp + mant.log2 < p.emin)
    (hue : ueOf v = true) : CorrectlyRounded p v (signed neg x) (roundFinite p v neg mant exp sticky) := by
  obtain ⟨hbits, hbits', -, hemin, -, -, -, hwrap, -⟩ := Precision.limits hp
  have hplace := h.two_zpow_le_iff hm
  have habs : |signed neg x| = x := abs_signed neg hx.le
  have hneg : decide (signed neg x < 0) = neg := by simp [signed_lt_zero_iff hx]
  have hxtiny : x < 2 ^ p.emin := not_le.1 (mt (hplace _).1 (by omega))
  have hno := Precision.not_overflows_of_tiny hp (rn := rnOf v) (habs.trans_lt hxtiny)
  have hplaceLow := (hplace _).1 hlow
  rw [roundFinite_underflow p v neg mant exp sticky htiny hue]
  have hround := roundAt_roundedTo (q := exp + mant.log2 - (p.bits - 1)) h
    (fun hsticky => by have := hs hsticky; omega) (rnOf v) neg
  dsimp only
  generalize roundAt (rnOf v) neg mant exp sticky (exp + mant.log2 - (p.bits - 1)) = r at hround ⊢
  have hge : 2 ^ (p.bits - 1) ≤ r.n := hround.two_pow_le ((hplace _).2 (by omega))
  have hle : r.n ≤ 2 ^ p.bits := hround.le_two_pow (le_of_lt (not_le.1 (mt (hplace _).1 (by omega))))
  have hn : r.n ≠ 0 := (lt_of_lt_of_le (by positivity) hge).ne'
  have hlog : r.n.log2 ≤ p.bits := log2_le_of_le_two_pow hn hle
  have hholds : HoldsFinite (pack neg r.n (exp + mant.log2 - (p.bits - 1) + p.wrap)) neg r.n _ :=
    holdsFinite_pack hn (hle.trans (Nat.pow_le_pow_right two_pos hbits')) (by omega) (by omega)
  refine ⟨rfl, by rw [hneg, hholds.sign], ?_, fun _ hlow => ?_, fun _ hmode => ?_, fun hover => absurd hover hno,
    fun hover => absurd hover hno, fun _ _ => hround.scaledOutcome hx.le ?_ ((hplace _).2 (by omega)) rfl⟩
  · rw [hneg, if_pos ⟨habs.trans_lt hxtiny, hue⟩]
  · exact absurd (hlow.trans (habs.trans_lt hxtiny)) (not_lt.2 (Precision.two_zpow_emin_le_largest hp))
  · exact absurd ⟨habs.trans_lt hxtiny, hue⟩ hmode
  · rw [sub_neg_eq_add]
    exact hholds.laneValue_eq

/-- Underflow is disabled, or there is none. -/
theorem correctlyRounded_limited (hmode : ¬ (exp + mant.log2 < p.emin ∧ ueOf v = true)) (hhigh : x < 2 ^ (1023 + p.wrap)) :
    CorrectlyRounded p v (signed neg x) (roundFinite p v neg mant exp sticky) := by
  have hplace := h.two_zpow_le_iff hm
  have hround := unitsOf_roundedTo v neg h hs
  rw [roundFinite_limited p v neg mant exp sticky hmode]
  rw [← not_le, ← hplace, not_le] at hmode
  dsimp only
  rw [unitsOf_q]
  split
  case isTrue hn => exact correctlyRounded_zero hp hx hplace hround hmode hn
  case isFalse hn =>
    split
    case isTrue hover =>
      cases hoe : oeOf v with
      | true => exact correctlyRounded_overflowScaled hp hx hplace hround hn hover hoe hhigh
      | false => exact correctlyRounded_overflow hp hx hplace hround hn hover hoe
    case isFalse hover => exact correctlyRounded_units hp hx hplace hround hmode hn (not_lt.1 hover)

theorem roundFinite_correctlyRounded (hlow : 2 ^ (p.bits - 1075 - p.wrap) ≤ x) (hhigh : x < 2 ^ (1023 + p.wrap)) :
    CorrectlyRounded p v (signed neg x) (roundFinite p v neg mant exp sticky) := by
  by_cases hmode : exp + mant.log2 < p.emin ∧ ueOf v = true
  · exact correctlyRounded_underflow hp h hm hs hx hlow hmode.1 hmode.2
  · exact correctlyRounded_limited hp h hm hs hx hmode hhigh

end

end Sys2Proof.Machine
end

section
/-! PROOFS. The family 44_fp_numerics.md: the operations round their exact results (R426, R427). -/

namespace Sys2Proof.Machine

/-! ### The range of an exact result -/

/-- `z` is a number of units of `2 ^ low` below `2 ^ high` in magnitude. -/
def Within (low high : Int) (z : ℚ) : Prop := (∃ j : Int, z = j * 2 ^ low) ∧ |z| < 2 ^ high

section
variable {low high low' high' : Int} {y z : ℚ}

theorem Within.le_abs (h : Within low high z) (hz : z ≠ 0) : 2 ^ low ≤ |z| := by
  obtain ⟨⟨j, rfl⟩, -⟩ := h
  have hj : (1 : ℚ) ≤ |(j : ℚ)| := by
    have : j ≠ 0 := by
      rintro rfl
      simp at hz
    exact_mod_cast Int.one_le_abs this
  rw [abs_mul, abs_of_pos (a := (2 : ℚ) ^ low) (by positivity)]
  exact le_mul_of_one_le_left (by positivity) hj

theorem Within.mono (h : Within low high z) (hlow : low' ≤ low) (hhigh : high ≤ high') : Within low' high' z := by
  obtain ⟨⟨j, rfl⟩, habs⟩ := h
  exact ⟨⟨_, (scaled_zpow j hlow).symm⟩, habs.trans_le (zpow_le_zpow_right₀ one_le_two hhigh)⟩

theorem Within.neg (h : Within low high z) : Within low high (-z) := by
  obtain ⟨⟨j, rfl⟩, habs⟩ := h
  exact ⟨⟨-j, by push_cast; ring⟩, by rwa [abs_neg]⟩

theorem Within.add (hy : Within low high y) (hz : Within low high z) : Within low (high + 1) (y + z) := by
  obtain ⟨⟨j, rfl⟩, hy⟩ := hy
  obtain ⟨⟨k, rfl⟩, hz⟩ := hz
  refine ⟨⟨j + k, by push_cast; ring⟩, (abs_add_le _ _).trans_lt ?_⟩
  rw [zpow_add_one₀ two_ne_zero]
  linarith

theorem Within.mul (hy : Within low high y) (hz : Within low' high' z) : Within (low + low') (high + high') (y * z) := by
  obtain ⟨⟨j, rfl⟩, hy⟩ := hy
  obtain ⟨⟨k, rfl⟩, hz⟩ := hz
  refine ⟨⟨j * k, by rw [zpow_add₀ two_ne_zero]; push_cast; ring⟩, ?_⟩
  rw [abs_mul, zpow_add₀ two_ne_zero]
  exact mul_lt_mul'' hy hz (abs_nonneg _) (abs_nonneg _)

end

/-- The lowest place of a precision's numbers. -/
def Precision.lowest (p : Precision) : Int := p.emin - (p.bits - 1)

theorem Precision.Number.within {p : Precision} (hp : p = single ∨ p = double) {v : Lane} (h : p.Number v) :
    Within p.lowest (p.emax + 1) (laneValue v) := by
  obtain ⟨⟨k, q, -, hq, hvalue⟩, hlt⟩ := h.represents hp
  have hunits : |laneValue v| = ((k * 2 ^ (q - p.lowest).toNat : Int) : ℚ) * 2 ^ p.lowest := by
    rw [hvalue]
    exact (scaled_zpow k hq).symm
  refine ⟨?_, hlt⟩
  obtain habs | habs := abs_choice (laneValue v)
  · exact ⟨_, habs ▸ hunits⟩
  · rw [habs] at hunits
    exact ⟨-(k * 2 ^ (q - p.lowest).toNat), by rw [← neg_neg (laneValue v), hunits]; push_cast; ring⟩

/-- The exponent adjustment brings the magnitude into the range of a double. -/
def Precision.Spans (p : Precision) (z : ℚ) : Prop := 2 ^ (p.bits - 1075 - p.wrap) ≤ |z| ∧ |z| < 2 ^ (1023 + p.wrap)

theorem Within.spans {p : Precision} {low high : Int} {z : ℚ} (h : Within low high z) (hz : z ≠ 0)
    (hlow : p.bits - 1075 - p.wrap ≤ low) (hhigh : high ≤ 1023 + p.wrap) : p.Spans z :=
  ⟨(zpow_le_zpow_right₀ one_le_two hlow).trans (h.le_abs hz), h.2.trans_le (zpow_le_zpow_right₀ one_le_two hhigh)⟩

/-- A quotient of two numbers of the precision. -/
theorem Within.div_spans {p : Precision} (hp : p = single ∨ p = double) {y z : ℚ} (hy : Within p.lowest (p.emax + 1) y)
    (hz : Within p.lowest (p.emax + 1) z) (hy0 : y ≠ 0) (hz0 : z ≠ 0) : p.Spans (y / z) := by
  have hpos : 0 < |z| := abs_pos.2 hz0
  constructor
  · rw [abs_div, le_div_iff₀ hpos]
    refine le_trans ?_ (hy.le_abs hy0)
    calc (2 : ℚ) ^ (p.bits - 1075 - p.wrap) * |z| ≤ 2 ^ (p.bits - 1075 - p.wrap) * 2 ^ (p.emax + 1) :=
          mul_le_mul_of_nonneg_left hz.2.le (by positivity)
      _ = 2 ^ (p.bits - 1075 - p.wrap + (p.emax + 1)) := (zpow_add₀ two_ne_zero ..).symm
      _ ≤ 2 ^ p.lowest := zpow_le_zpow_right₀ one_le_two (by obtain rfl | rfl := hp <;> decide)
  · rw [abs_div, div_lt_iff₀ hpos]
    refine hy.2.trans_le ?_
    calc (2 : ℚ) ^ (p.emax + 1) ≤ 2 ^ (1023 + p.wrap + p.lowest) :=
          zpow_le_zpow_right₀ one_le_two (by obtain rfl | rfl := hp <;> decide)
      _ = 2 ^ (1023 + p.wrap) * 2 ^ p.lowest := zpow_add₀ two_ne_zero ..
      _ ≤ 2 ^ (1023 + p.wrap) * |z| := mul_le_mul_of_nonneg_left (hz.le_abs hz0) (by positivity)

/-! ### Delivery -/

/-- A zero result that is exact. -/
def zeroOut (neg : Bool) : FpOut := .exact 0 (layout neg 0 0) (classZero neg)

/-- `o` is the exact result `z`, correctly rounded, or where it is 0 the zero of this sign. -/
structure Delivers (p : Precision) (v : Word) (z : ℚ) (neg : Bool) (o : FpOut) : Prop where
  rounded : z ≠ 0 → CorrectlyRounded p v z o
  zero : z = 0 → o = zeroOut neg

theorem roundFinite_of_spans {p : Precision} (hp : p = single ∨ p = double) {v : Word} {z : ℚ} {mant : Nat} {exp : Int}
    {sticky : Bool} (h : Approximates |z| mant exp sticky) (hm : mant ≠ 0) (hs : sticky = true → p.bits ≤ mant.log2)
    (hz : z ≠ 0) (hspans : p.Spans z) : CorrectlyRounded p v z (roundFinite p v (decide (z < 0)) mant exp sticky) := by
  have hsigned : signed (decide (z < 0)) |z| = z := by
    obtain hneg | hpos := lt_or_ge z 0
    · rw [decide_eq_true hneg, abs_of_neg hneg, signed_true, neg_neg]
    · rw [decide_eq_false hpos.not_gt, abs_of_nonneg hpos, signed_false]
  have hcorrect := roundFinite_correctlyRounded (v := v) (neg := decide (z < 0)) hp h hm hs (abs_pos.2 hz) hspans.1 hspans.2
  rwa [hsigned] at hcorrect

/-- An exact value is delivered rounded. -/
theorem deliver_delivers {p : Precision} (hp : p = single ∨ p = double) {v : Word} {z : Fp} (hz : z.IsNumber) {x : ℚ}
    (hx : z.value = x) (hspans : x ≠ 0 → p.Spans x) {neg : Bool} (hzero : x = 0 → z.neg = neg) :
    Delivers p v x neg (deliver p v z false) := by
  subst hx
  constructor
  · intro hne
    obtain ⟨m, e, hm, heq⟩ := hz.exists_finite hne
    have habs : |z.value| = m * 2 ^ e := (congrArg (|Fp.value ·|) heq).trans (Fp.abs_value_finite ..)
    have hcorrect := roundFinite_of_spans (v := v) hp (habs ▸ Approximates.exact m e) hm (by simp) hne (hspans hne)
    rwa [show deliver p v z false = roundFinite p v (decide (z.value < 0)) m e false from
      congrArg (deliver p v · false) heq]
  · intro h0
    obtain ⟨s, rfl⟩ := hz.value_eq_zero_iff.1 h0
    rw [← hzero h0]
    rfl

/-! ### The operations -/

theorem Fp.IsNumber.negate_neg {x : Fp} (h : x.IsNumber) : x.negate.neg = !x.neg := by
  cases x with
  | zero | finite => rfl
  | inf | nan => exact h.elim

/-- A value with its sign changed if `sub`. -/
theorem Fp.IsNumber.negateIf_spec {x : Fp} (h : x.IsNumber) (sub : Bool) :
    (x.negateIf sub).value = signed sub x.value ∧ (x.negateIf sub).neg = (x.neg ^^ sub) := by
  cases sub with
  | true => exact ⟨x.negate_value, by rw [Bool.xor_true]; exact h.negate_neg⟩
  | false => exact ⟨rfl, (Bool.xor_false _).symm⟩

/-- The sign of a sum that is 0 (R426). -/
def zeroSumSign (rn : BitVec 2) (x y : Bool) : Bool := if x = y then x else decide (rn = 3)

/-- The quotient to 128 places more than the dividend has. -/
theorem approximates_quotient {m1 m2 : Nat} (e1 e2 : Int) (hm2 : m2 ≠ 0) :
    Approximates ((m1 : ℚ) * 2 ^ e1 / (m2 * 2 ^ e2)) (m1 * 2 ^ 128 / m2) (e1 - e2 - 128)
      (decide (m1 * 2 ^ 128 % m2 ≠ 0)) := by
  have hpos : (0 : ℚ) < m2 := by positivity
  have hquotient : (m1 : ℚ) * 2 ^ e1 / (m2 * 2 ^ e2) = ((m1 * 2 ^ 128 : Nat) : ℚ) / m2 * 2 ^ (e1 - e2 - 128) := by
    rw [zpow_sub₀ two_ne_zero, zpow_sub₀ two_ne_zero]
    push_cast
    field_simp
  have hunit : (0 : ℚ) < 2 ^ (e1 - e2 - 128) := by positivity
  rw [hquotient]
  generalize m1 * 2 ^ 128 = num
  constructor
  · exact mul_le_mul_of_nonneg_right Nat.cast_div_le hunit.le
  · refine mul_lt_mul_of_pos_right ?_ hunit
    rw [div_lt_iff₀ hpos]
    rw [mul_comm]
    exact_mod_cast Nat.lt_mul_div_succ num (Nat.pos_of_ne_zero hm2)
  · rw [mul_left_inj' hunit.ne', div_eq_iff hpos.ne', decide_eq_false_iff_not, not_not]
    norm_cast
    rw [← Nat.dvd_iff_mod_eq_zero, eq_comm, ← Nat.dvd_iff_div_mul_eq]

/-- A quotient has at least 75 places. -/
theorem two_pow_le_quotient {m1 m2 : Nat} (hm1 : m1 ≠ 0) (hm2 : m2 ≠ 0) (hlt : m2 < 2 ^ 53) :
    2 ^ 75 ≤ m1 * 2 ^ 128 / m2 := by
  rw [Nat.le_div_iff_mul_le (Nat.pos_of_ne_zero hm2)]
  omega

theorem signed_div (s t : Bool) (x y : ℚ) : signed s x / signed t y = signed (s ^^ t) (x / y) := by
  cases s <;> cases t <;> simp [div_neg, neg_div]

section
variable {p : Precision} (hp : p = single ∨ p = double) (v : Word) {a b c : Lane}

/-- The rounding to single of any number. -/
theorem fpRoundSingle_delivers (ha : isFinite a = true) :
    Delivers single v (laneValue a) (a.getLsbD 63) (fpRoundSingle v a) := by
  have hnumber := (isFinite_iff a).1 ha
  have hdouble : double.Number a := ⟨ha, fun h => absurd h (by decide)⟩
  rw [fpRoundSingle_eq v hnumber.ne_nan]
  exact deliver_delivers (.inl rfl) hnumber (laneValue_eq a).symm
    (fun hz => (hdouble.within (.inr rfl)).spans hz (by decide) (by decide)) fun _ => unpack_neg hnumber.ne_nan

include hp

theorem fpAdd_delivers (ha : p.Number a) (hb : p.Number b) :
    Delivers p v (laneValue a + laneValue b) (zeroSumSign (rnOf v) (a.getLsbD 63) (b.getLsbD 63)) (fpAdd p v a b) := by
  have hna := (isFinite_iff a).1 ha.1
  have hnb := (isFinite_iff b).1 hb.1
  obtain ⟨hnumber, hvalue⟩ := Fp.add_spec (rnOf v) hna hnb
  rw [← laneValue_eq, ← laneValue_eq] at hvalue
  rw [fpAdd_eq p v hna.ne_nan hnb.ne_nan, isiBits_of_isNumber hna, resolve_none]
  refine deliver_delivers hp hnumber hvalue (fun hz => ((ha.within hp).add (hb.within hp)).spans hz ?_ ?_) fun hz => ?_
  · obtain rfl | rfl := hp <;> decide
  · obtain rfl | rfl := hp <;> decide
  · rw [Fp.add_eq_zero _ hna hnb (by rwa [← laneValue_eq, ← laneValue_eq]), unpack_neg hna.ne_nan, unpack_neg hnb.ne_nan]
    rfl

theorem fpSub_delivers (ha : p.Number a) (hb : p.Number b) :
    Delivers p v (laneValue a - laneValue b) (zeroSumSign (rnOf v) (a.getLsbD 63) !b.getLsbD 63) (fpSub p v a b) := by
  have hna := (isFinite_iff a).1 ha.1
  have hnb := (isFinite_iff b).1 hb.1
  obtain ⟨hnumber, hvalue⟩ := Fp.add_spec (rnOf v) hna hnb.negate
  rw [Fp.negate_value, ← laneValue_eq, ← laneValue_eq, ← sub_eq_add_neg] at hvalue
  rw [fpSub_eq p v hna.ne_nan hnb.ne_nan, isiBits_of_isNumber hna, resolve_none]
  refine deliver_delivers hp hnumber hvalue (fun hz => ?_) fun hz => ?_
  · rw [sub_eq_add_neg] at hz ⊢
    refine ((ha.within hp).add (hb.within hp).neg).spans hz ?_ ?_ <;> obtain rfl | rfl := hp <;> decide
  · rw [Fp.add_eq_zero _ hna hnb.negate (by rwa [Fp.negate_value, ← laneValue_eq, ← laneValue_eq, ← sub_eq_add_neg]),
      hnb.negate_neg, unpack_neg hna.ne_nan, unpack_neg hnb.ne_nan]
    rfl

theorem fpMul_delivers (ha : p.Number a) (hc : p.Number c) :
    Delivers p v (laneValue a * laneValue c) (a.getLsbD 63 ^^ c.getLsbD 63) (fpMul p v a c) := by
  have hna := (isFinite_iff a).1 ha.1
  have hnc := (isFinite_iff c).1 hc.1
  obtain ⟨hnumber, hvalue, hneg⟩ := Fp.mul_spec hna hnc
  rw [← laneValue_eq, ← laneValue_eq] at hvalue
  rw [unpack_neg hna.ne_nan, unpack_neg hnc.ne_nan] at hneg
  rw [fpMul_eq p v hna.ne_nan hnc.ne_nan, imzBits_of_isNumber hna hnc, resolve_none]
  refine deliver_delivers hp hnumber hvalue (fun hz => ((ha.within hp).mul (hc.within hp)).spans hz ?_ ?_) fun _ => hneg <;>
    obtain rfl | rfl := hp <;> decide

/-- The multiply-add and, with `sub`, the multiply-subtract. -/
theorem fpMulAdd_delivers (sub : Bool) (ha : p.Number a) (hc : p.Number c) (hb : p.Number b) :
    Delivers p v (laneValue a * laneValue c + signed sub (laneValue b))
      (zeroSumSign (rnOf v) (a.getLsbD 63 ^^ c.getLsbD 63) (b.getLsbD 63 ^^ sub)) (fpMulAdd p v sub a c b) := by
  have hna := (isFinite_iff a).1 ha.1
  have hnb := (isFinite_iff b).1 hb.1
  have hnc := (isFinite_iff c).1 hc.1
  obtain ⟨hproduct, hproductValue, hproductNeg⟩ := Fp.mul_spec hna hnc
  obtain ⟨haddendValue, haddendNeg⟩ := hnb.negateIf_spec sub
  obtain ⟨hnumber, hvalue⟩ := Fp.add_spec (rnOf v) hproduct (hnb.negateIf sub)
  rw [hproductValue, haddendValue, ← laneValue_eq, ← laneValue_eq, ← laneValue_eq] at hvalue
  rw [fpMulAdd_eq p v sub hna.ne_nan hnc.ne_nan hnb.ne_nan, imzBits_of_isNumber hna hnc, isiBits_of_isNumber hproduct,
    show (0 : Word) ||| 0 = 0 from rfl, resolve_none]
  refine deliver_delivers hp hnumber hvalue (fun hz => ?_) fun hz => ?_
  · have haddend : Within p.lowest (p.emax + 1) (signed sub (laneValue b)) := by
      cases sub with
      | true => exact (hb.within hp).neg
      | false => exact hb.within hp
    have hlow : p.lowest + p.lowest ≤ p.lowest := by obtain rfl | rfl := hp <;> decide
    have hhigh : p.emax + 1 ≤ p.emax + 1 + (p.emax + 1) := by obtain rfl | rfl := hp <;> decide
    refine (((ha.within hp).mul (hc.within hp)).add (haddend.mono hlow hhigh)).spans hz ?_ ?_ <;>
      obtain rfl | rfl := hp <;> decide
  · rw [Fp.add_eq_zero _ hproduct (hnb.negateIf sub)
      (by rwa [hproductValue, haddendValue, ← laneValue_eq, ← laneValue_eq, ← laneValue_eq]), hproductNeg, haddendNeg,
      unpack_neg hna.ne_nan, unpack_neg hnb.ne_nan, unpack_neg hnc.ne_nan]
    rfl

theorem fpDiv_delivers (ha : p.Number a) (hb : p.Number b) (hb0 : laneValue b ≠ 0) :
    Delivers p v (laneValue a / laneValue b) (a.getLsbD 63 ^^ b.getLsbD 63) (fpDiv p v a b) := by
  have hna := (isFinite_iff a).1 ha.1
  have hnb := (isFinite_iff b).1 hb.1
  have hsa := unpack_neg hna.ne_nan
  have hsb := unpack_neg hnb.ne_nan
  rw [fpDiv_eq p v hna.ne_nan hnb.ne_nan, ← hsa, ← hsb]
  obtain ⟨nb, -, -, m2, e2, hub, -⟩ := exists_holdsFinite hb.1 hb0
  by_cases ha0 : laneValue a = 0
  · obtain ⟨na, hua⟩ := hna.value_eq_zero_iff.1 (laneValue_eq a ▸ ha0)
    rw [hua, hub, ha0, zero_div]
    exact ⟨absurd rfl, fun _ => rfl⟩
  · obtain ⟨na, -, -, m1, e1, hua, -⟩ := exists_holdsFinite ha.1 ha0
    have hne : laneValue a / laneValue b ≠ 0 := div_ne_zero ha0 hb0
    refine ⟨fun _ => ?_, fun h0 => absurd h0 hne⟩
    obtain ⟨hm1, -⟩ := unpack_finite_bounds hua
    obtain ⟨hm2, hlt2, -⟩ := unpack_finite_bounds hub
    have hplaces := two_pow_le_quotient hm1 hm2 hlt2
    have hmant : m1 * 2 ^ 128 / m2 ≠ 0 := (lt_of_lt_of_le (by decide) hplaces).ne'
    have hbits := (Precision.limits hp).2.1
    have hquotient : laneValue a / laneValue b = signed (na ^^ nb) (m1 * (2 : ℚ) ^ e1 / (m2 * 2 ^ e2)) := by
      rw [laneValue_of_finite hua, laneValue_of_finite hub, signed_div]
    have hpos : 0 < (m1 : ℚ) * 2 ^ e1 / (m2 * 2 ^ e2) := by positivity
    have habs : |laneValue a / laneValue b| = m1 * (2 : ℚ) ^ e1 / (m2 * 2 ^ e2) := by rw [hquotient, abs_signed _ hpos.le]
    obtain ⟨hlow, hhigh⟩ := (ha.within hp).div_spans hp (hb.within hp) ha0 hb0
    rw [habs] at hlow hhigh
    rw [hua, hub, hquotient]
    exact roundFinite_correctlyRounded hp (approximates_quotient e1 e2 hm2) hmant
      (fun _ => hbits.trans (le_trans (by decide) ((Nat.le_log2 hmant).2 hplaces))) hpos hlow hhigh

end

end Sys2Proof.Machine
end

section
/-! PROOFS. The family 44_fp_numerics.md: the square root rounds correctly, by comparing squares (R426, R495). -/

namespace Sys2Proof.Machine

/-! ### The integer square root -/

theorem isqrt_succ (n b acc : Nat) :
    isqrt n (b + 1) acc = isqrt n b (if (acc + 2 ^ b) * (acc + 2 ^ b) ≤ n then acc + 2 ^ b else acc) := rfl

theorem isqrt_spec {n : Nat} (b : Nat) {acc : Nat} (hlow : acc * acc ≤ n) (hhigh : n < (acc + 2 ^ b) * (acc + 2 ^ b)) :
    isqrt n b acc * isqrt n b acc ≤ n ∧ n < (isqrt n b acc + 1) * (isqrt n b acc + 1) := by
  induction b generalizing acc with
  | zero => exact ⟨hlow, hhigh⟩
  | succ b ih =>
    rw [isqrt_succ]
    split
    case isTrue hle =>
      refine ih hle (hhigh.trans_eq ?_)
      rw [add_assoc, ← mul_two, ← pow_succ]
    case isFalse hgt => exact ih hlow (not_le.1 hgt)

/-- The places that the significand is moved before the root is taken: they make the exponent even. -/
def rootShift (exp : Int) : Nat := if exp % 2 = 0 then 128 else 129

/-- The significand of a square root. -/
def rootMant (m : Nat) (exp : Int) : Nat := isqrt (m * 2 ^ rootShift exp) 96 0

theorem sqrt_finite (m : Nat) (exp : Int) : (Fp.finite false m exp).sqrt = (.finite false (rootMant m exp)
    ((exp - rootShift exp) / 2), decide (rootMant m exp * rootMant m exp ≠ m * 2 ^ rootShift exp)) := by
  by_cases h : exp % 2 = 0
  · simp only [Fp.sqrt, rootMant, rootShift, if_pos h, Nat.cast_ofNat]
  · simp only [Fp.sqrt, rootMant, rootShift, if_neg h, Nat.cast_ofNat]

theorem rootShift_bounds (exp : Int) : 128 ≤ rootShift exp ∧ rootShift exp ≤ 129 ∧ (exp - rootShift exp) % 2 = 0 := by
  unfold rootShift
  split <;> omega

theorem rootMant_spec {m : Nat} (exp : Int) (hm : m < 2 ^ 53) : rootMant m exp * rootMant m exp ≤ m * 2 ^ rootShift exp ∧
    m * 2 ^ rootShift exp < (rootMant m exp + 1) * (rootMant m exp + 1) := by
  refine isqrt_spec 96 (Nat.zero_le _) ?_
  calc m * 2 ^ rootShift exp < 2 ^ 53 * 2 ^ rootShift exp := Nat.mul_lt_mul_of_pos_right hm (by positivity)
    _ ≤ 2 ^ 53 * 2 ^ 129 := Nat.mul_le_mul_left _ (Nat.pow_le_pow_right (by decide) (rootShift_bounds exp).2.1)
    _ ≤ (0 + 2 ^ 96) * (0 + 2 ^ 96) := by decide

/-- A square root has at least 65 places. -/
theorem two_pow_le_rootMant {m : Nat} (exp : Int) (hm0 : m ≠ 0) (hm : m < 2 ^ 53) : 2 ^ 64 ≤ rootMant m exp := by
  by_contra hlt
  have hnext : rootMant m exp + 1 ≤ 2 ^ 64 := by omega
  have hsquare := (rootMant_spec exp hm).2.trans_le (Nat.mul_le_mul hnext hnext)
  have hpow : 2 ^ 128 ≤ 2 ^ rootShift exp := Nat.pow_le_pow_right (by decide) (rootShift_bounds exp).1
  have := hpow.trans (Nat.le_mul_of_pos_left _ (Nat.pos_of_ne_zero hm0))
  omega

/-! ### The real square root -/

theorem approximates_sqrt {m : Nat} (exp : Int) (hm : m < 2 ^ 53) :
    Approximates √((m : ℝ) * 2 ^ exp) (rootMant m exp) ((exp - rootShift exp) / 2)
      (decide (rootMant m exp * rootMant m exp ≠ m * 2 ^ rootShift exp)) := by
  obtain ⟨hlow, hhigh⟩ := rootMant_spec exp hm
  have heven := (rootShift_bounds exp).2.2
  have hexp : exp = rootShift exp + ((exp - rootShift exp) / 2 + (exp - rootShift exp) / 2) := by omega
  have hvalue : (m : ℝ) * 2 ^ exp = ((m * 2 ^ rootShift exp : Nat) : ℝ) * (2 ^ ((exp - rootShift exp) / 2)) ^ 2 := by
    conv_lhs => rw [hexp, zpow_add₀ two_ne_zero, zpow_add₀ two_ne_zero, zpow_natCast]
    push_cast
    ring
  have hunit : (0 : ℝ) < 2 ^ ((exp - rootShift exp) / 2) := by positivity
  rw [hvalue, Real.sqrt_mul (Nat.cast_nonneg _), Real.sqrt_sq hunit.le]
  generalize m * 2 ^ rootShift exp = k at *
  generalize rootMant m exp = r at *
  constructor
  · refine mul_le_mul_of_nonneg_right (Real.le_sqrt_of_sq_le ?_) hunit.le
    rw [sq]
    exact_mod_cast hlow
  · refine mul_lt_mul_of_pos_right ((Real.sqrt_lt' (by positivity)).2 ?_) hunit
    rw [sq]
    exact_mod_cast hhigh
  · rw [mul_left_inj' hunit.ne', decide_eq_false_iff_not, not_not,
      Real.sqrt_eq_iff_mul_self_eq (by positivity) (by positivity)]
    exact_mod_cast eq_comm

section
variable {A q : ℚ} (hA : 0 ≤ A) (hq : 0 ≤ q)
include hA hq

theorem cast_le_sqrt_iff : (q : ℝ) ≤ √(A : ℝ) ↔ q ^ 2 ≤ A := by
  rw [Real.le_sqrt (by exact_mod_cast hq) (by exact_mod_cast hA)]
  exact_mod_cast Iff.rfl

omit hA in
theorem sqrt_le_cast_iff : √(A : ℝ) ≤ q ↔ A ≤ q ^ 2 := by
  rw [Real.sqrt_le_left (by exact_mod_cast hq)]
  exact_mod_cast Iff.rfl

theorem sqrt_lt_cast_iff : √(A : ℝ) < q ↔ A < q ^ 2 := by
  rw [← not_le, cast_le_sqrt_iff hA hq, not_le]

theorem cast_eq_sqrt_iff : (q : ℝ) = √(A : ℝ) ↔ q ^ 2 = A := by
  rw [le_antisymm_iff, le_antisymm_iff, cast_le_sqrt_iff hA hq, sqrt_le_cast_iff hq]

end

/-! ### The rounded square root -/

/-- `r` is the best positive number of the precision for the square root of `A`. -/
structure RootRoundsIn (p : Precision) (rn : BitVec 2) (A : ℚ) (r : Lane) : Prop where
  nearest : rn = 0 → ∀ q, p.Number q → 0 < laneValue q →
    (laneValue r < laneValue q → 4 * A ≤ (laneValue r + laneValue q) ^ 2) ∧
    (laneValue q < laneValue r → (laneValue r + laneValue q) ^ 2 ≤ 4 * A) ∧
    (4 * A = (laneValue r + laneValue q) ^ 2 → laneValue q ≠ laneValue r → evenImage p r = true)
  down : rn = 1 ∨ rn = 3 → laneValue r ^ 2 ≤ A ∧ ∀ q, p.Number q → laneValue q ^ 2 ≤ A → laneValue q ≤ laneValue r
  up : rn = 2 → A ≤ laneValue r ^ 2 ∧
    ∀ q, p.Number q → 0 < laneValue q → A ≤ laneValue q ^ 2 → laneValue r ≤ laneValue q

/-- `o` is the square root of `A`, rounded to the precision under FPSCR `v`. -/
structure RootRounded (p : Precision) (v : Word) (A : ℚ) (o : FpOut) : Prop where
  writes : o.writes = true
  number : p.Number o.result
  fprf : o.fprf = classOf p o.result
  positive : 0 < laneValue o.result
  raised : o.raised = xxIf o.fi
  fi : o.fi = decide (laneValue o.result ^ 2 ≠ A)
  fr : o.fr = decide (A < laneValue o.result ^ 2)
  rounds : RootRoundsIn p (rnOf v) A o.result

section
variable {p : Precision} (hp : p = single ∨ p = double) {A : ℚ} (hA : 0 < A) {e : Int}
  (hcandidate : ∀ y : ℚ, p.Represents y → Candidate ((2 : ℝ) ^ p.unit e) √(A : ℝ) y)
  {rn : BitVec 2} {fr fi : Bool} {n : Nat} (h : RoundedTo rn false √(A : ℝ) (2 ^ p.unit e) n fr fi) {r : Lane}
  (hr : laneValue r = n * 2 ^ p.unit e)
include hp hA hcandidate h hr

theorem RoundedTo.rootRoundsIn (heven : n % 2 = 0 → evenImage p r = true) : RootRoundsIn p rn A r := by
  have hcast : (n : ℝ) * 2 ^ p.unit e = (laneValue r : ℝ) := by
    rw [hr]
    push_cast
    rfl
  have hr0 : 0 ≤ laneValue r := by
    rw [hr]
    positivity
  have hA0 := hA.le
  have hcand : ∀ q, p.Number q → Candidate ((2 : ℝ) ^ p.unit e) √(A : ℝ) (laneValue q) := fun q hq =>
    hcandidate _ (hq.represents hp).1
  have hdown : (laneValue r : ℝ) ≤ √(A : ℝ) → laneValue r ^ 2 ≤ A ∧
      ∀ q, p.Number q → laneValue q ^ 2 ≤ A → laneValue q ≤ laneValue r := fun hle =>
    ⟨(cast_le_sqrt_iff hA0 hr0).1 hle, fun q hq hqA => by
      have hq' := (cast_le_sqrt_iff hA0 (abs_nonneg (laneValue q))).2 (by rwa [sq_abs])
      push_cast at hq'
      exact_mod_cast hcast ▸ h.le_of_le (hcand q hq) ((le_abs_self _).trans hq')⟩
  refine ⟨fun hrn q hq hq0 => ?nearest, fun hrn => hdown ?down, fun hrn => ?up⟩
  case nearest =>
    obtain ⟨hle, htie⟩ := h.best_nearest hrn (hcand q hq)
    rw [signed_false, signed_false, hcast] at hle htie
    have hmid0 : 0 ≤ (laneValue r + laneValue q) / 2 := by linarith
    have hmid : (laneValue r + laneValue q) ^ 2 = 4 * ((laneValue r + laneValue q) / 2) ^ 2 := by ring
    rw [hmid, mul_le_mul_iff_right₀ four_pos, mul_le_mul_iff_right₀ four_pos, mul_right_inj' four_ne_zero,
      ← sqrt_le_cast_iff hmid0, ← cast_le_sqrt_iff hA0 hmid0, eq_comm (a := A), ← cast_eq_sqrt_iff hA0 hmid0]
    push_cast
    refine ⟨fun hlt => not_lt.1 fun hmore => ?_, fun hlt => not_lt.1 fun hless => ?_, fun heq hne => heven (htie ?_ ?_)⟩
    · have hlt' : (laneValue r : ℝ) < laneValue q := by exact_mod_cast hlt
      rw [abs_of_nonpos (by linarith : (laneValue r : ℝ) - √(A : ℝ) ≤ 0)] at hle
      have := abs_lt.2 ⟨(by linarith : -(√(A : ℝ) - laneValue r) < laneValue q - √(A : ℝ)), by linarith⟩
      linarith
    · have hlt' : (laneValue q : ℝ) < laneValue r := by exact_mod_cast hlt
      rw [abs_of_nonneg (by linarith : 0 ≤ (laneValue r : ℝ) - √(A : ℝ))] at hle
      have := abs_lt.2 ⟨(by linarith : -(laneValue r - √(A : ℝ)) < laneValue q - √(A : ℝ)), by linarith⟩
      linarith
    · rw [← heq, abs_sub_comm]
      congr 1
      ring
    · exact_mod_cast hne
  case down =>
    rw [← hcast]
    obtain hrn | hrn := hrn
    · exact h.towardZero hrn
    · exact h.down hrn
  case up =>
    have hup := h.up hrn
    rw [if_neg (by decide), hcast] at hup
    refine ⟨(sqrt_le_cast_iff hr0).1 hup, fun q hq hq0 hqA => ?_⟩
    exact_mod_cast hcast ▸ h.ge_of_ge (hcand q hq) ((sqrt_le_cast_iff hq0.le).2 hqA)

end

/-- A root that is a normalized number, rounded to the units of its place. -/
theorem RoundedTo.rootRounded {p : Precision} (hp : p = single ∨ p = double) {v : Word} {A : ℚ} (hA : 0 < A) {e : Int}
    (hplace : ∀ k : Int, 2 ^ k ≤ √(A : ℝ) ↔ k ≤ e) (hmin : p.emin ≤ e) (hmax : e < p.emax) {fr fi : Bool} {n : Nat}
    (h : RoundedTo (rnOf v) false √(A : ℝ) (2 ^ p.unit e) n fr fi) :
    RootRounded p v A ⟨xxIf fi, pack false n (p.unit e), classNormal false, fr, fi, false, true⟩ := by
  obtain ⟨hbits, hbits', hlowest, -, -, hemax, -⟩ := Precision.limits hp
  have hunit : p.unit e = e - (p.bits - 1) := by rw [Precision.unit, max_eq_left hmin]
  have hle := units_le hp hplace h
  obtain ⟨hn, hlog, hlog'⟩ := units_places hp hplace h hmin
  have hholds : HoldsFinite (pack false n (p.unit e)) false n (p.unit e) :=
    holdsFinite_pack hn (hle.trans (Nat.pow_le_pow_right two_pos hbits')) (by omega) (by omega)
  have hcandidate : ∀ y : ℚ, p.Represents y → Candidate ((2 : ℝ) ^ p.unit e) √(A : ℝ) y := fun y hy =>
    hy.candidate (.inr ((hplace _).2 (by omega))) (by omega)
  have hr : laneValue (pack false n (p.unit e)) = n * (2 : ℚ) ^ p.unit e := hholds.laneValue_eq
  have hr0 : 0 < laneValue (pack false n (p.unit e)) := by
    rw [hr]
    positivity
  have hcast : (n : ℝ) * 2 ^ p.unit e = (laneValue (pack false n (p.unit e)) : ℝ) := by
    rw [hr]
    push_cast
    rfl
  have hflags := And.intro h.fi_iff h.fr_iff
  rw [hcast] at hflags
  refine ⟨rfl, hholds.number hp hle (by omega) (by omega), ?_, hr0, rfl, ?_, ?_,
    h.rootRoundsIn hp hA hcandidate hr (hholds.evenImage hp hle (by omega))⟩
  · rw [hholds.classOf_eq, if_neg (by omega)]
  · exact eq_decide_of_iff (hflags.1.trans (not_congr (cast_eq_sqrt_iff hA.le hr0.le)))
  · exact eq_decide_of_iff (hflags.2.trans (sqrt_lt_cast_iff hA.le hr0.le))

/-- The place of a root of a number of the precision is neither below the least exponent nor near the greatest. -/
theorem Within.root_place {p : Precision} (hp : p = single ∨ p = double) {A : ℚ} (h : Within p.lowest (p.emax + 1) A)
    (hA : 0 < A) : (2 : ℝ) ^ p.emin ≤ √(A : ℝ) ∧ √(A : ℝ) < 2 ^ p.emax := by
  have hsquare : ∀ k : Int, ((2 : ℝ) ^ k) = ((2 ^ k : ℚ) : ℝ) ∧ ((2 : ℚ) ^ k) ^ 2 = 2 ^ (k + k) := fun k => by
    rw [sq, ← zpow_add₀ two_ne_zero]
    push_cast
    exact ⟨rfl, rfl⟩
  have habs : |A| = A := abs_of_pos hA
  rw [(hsquare _).1, (hsquare _).1, cast_le_sqrt_iff hA.le (by positivity), sqrt_lt_cast_iff hA.le (by positivity),
    (hsquare _).2, (hsquare _).2]
  constructor
  · exact (zpow_le_zpow_right₀ one_le_two (by obtain rfl | rfl := hp <;> decide)).trans (habs ▸ h.le_abs hA.ne')
  · exact (habs ▸ h.2).trans_le (zpow_le_zpow_right₀ one_le_two (by obtain rfl | rfl := hp <;> decide))

theorem fpSqrt_rootRounded {p : Precision} (hp : p = single ∨ p = double) (v : Word) {a : Lane} (ha : p.Number a)
    (h0 : 0 < laneValue a) : RootRounded p v (laneValue a) (fpSqrt p v a) := by
  have hwithin := ha.within hp
  obtain ⟨neg, -, -, m, e, hua, -⟩ := exists_holdsFinite ha.1 h0.ne'
  obtain ⟨hm0, hm, -⟩ := unpack_finite_bounds hua
  have hvalue := laneValue_of_finite hua
  obtain rfl : neg = false := (zero_lt_signed_iff (by positivity)).1 (hvalue ▸ h0)
  have hroot : (m : ℝ) * 2 ^ e = (laneValue a : ℝ) := by
    rw [hvalue, signed_false]
    push_cast
    rfl
  have happrox := hroot ▸ approximates_sqrt e hm
  obtain ⟨-, hbits', -⟩ := Precision.limits hp
  have hplaces := two_pow_le_rootMant e hm0 hm
  have hmant : rootMant m e ≠ 0 := (lt_of_lt_of_le (by decide) hplaces).ne'
  have hsticky : decide (rootMant m e * rootMant m e ≠ m * 2 ^ rootShift e) = true → p.bits ≤ (rootMant m e).log2 :=
    fun _ => hbits'.trans (le_trans (by decide) ((Nat.le_log2 hmant).2 hplaces))
  have hplace := happrox.two_zpow_le_iff hmant
  obtain ⟨hlow, hhigh⟩ := hwithin.root_place hp h0
  rw [hplace] at hlow
  rw [← not_le, hplace, not_le] at hhigh
  have hround := unitsOf_roundedTo v false happrox hsticky
  obtain ⟨hn, hlog, hlog'⟩ := units_places hp hplace hround hlow
  rw [fpSqrt_eq p v (by simp [hua]), hua, sqrt_finite]
  change RootRounded p v _ (roundFinite p v false _ _ _)
  rw [roundFinite_normal p v _ _ _ _ hlow hn hlog (by omega)]
  exact hround.rootRounded hp h0 hplace hlow hhigh

end Sys2Proof.Machine
end

section
/-! PROOFS. The family 44_fp_numerics.md: every operation rounds its exact result correctly (R426). -/

namespace Sys2Proof.FpNumerics
open Sys2Proof.Machine

/-- Settles O43: each operation delivers its exact value, and `roundFinite` rounds that value to the units of its first
place. -/
theorem correctRounding : Obligations.CorrectRounding := by
  intro p v a b c hp ha hb hc A B C number even xx largest rounds zero sign sumSign
  have hrounds : ∀ z o, (z ≠ 0 → CorrectlyRounded p v z o) → rounds z o := fun z o hz hne =>
    have h := hz hne
    ⟨⟨h.writes, h.sign, h.fprf⟩, h.beyond,
      fun hno hmode =>
        have hn := h.number hno hmode
        ⟨hn.number, hn.raised, hn.fi, hn.fr, hn.rounds.nearest, hn.rounds.towardZero, hn.rounds.up, hn.rounds.down⟩,
      fun hover hoe =>
        have ho := h.overflow hover hoe
        ⟨ho.raised, ho.fi, ho.result⟩,
      fun hover hoe =>
        have hs := h.overflowScaled hover hoe
        ⟨hs.raised, hs.fi, hs.fr, hs.near⟩,
      fun htiny hue =>
        have hs := h.underflowScaled htiny hue
        ⟨hs.raised, hs.fi, hs.fr, hs.near⟩⟩
  refine ⟨fun hsingle => ?single, fun hrepresentable => ?operations⟩
  case single =>
    have h := fpRoundSingle_delivers v ha
    rw [← hsingle] at h
    exact ⟨hrounds _ _ h.rounded, h.zero⟩
  case operations =>
    have hna : p.Number a := ⟨ha, fun hsingle => (hrepresentable hsingle).1⟩
    have hnb : p.Number b := ⟨hb, fun hsingle => (hrepresentable hsingle).2.1⟩
    have hnc : p.Number c := ⟨hc, fun hsingle => (hrepresentable hsingle).2.2⟩
    have hadd := fpAdd_delivers hp v hna hnb
    have hsub := fpSub_delivers hp v hna hnb
    have hmul := fpMul_delivers hp v hna hnc
    have hmadd := fpMulAdd_delivers hp v false hna hnc hnb
    have hmsub := fpMulAdd_delivers hp v true hna hnc hnb
    rw [signed_false, Bool.xor_false] at hmadd
    rw [signed_true, Bool.xor_true, ← sub_eq_add_neg] at hmsub
    have hdiv : B ≠ 0 → _ := fpDiv_delivers hp v hna hnb
    refine ⟨hrounds _ _ hadd.rounded, hrounds _ _ hsub.rounded, hrounds _ _ hmul.rounded, hrounds _ _ hmadd.rounded,
      hrounds _ _ hmsub.rounded, fun hB => hrounds _ _ (hdiv hB).rounded, hadd.zero, hsub.zero, hmul.zero, hmadd.zero,
      hmsub.zero, fun hA hB => (hdiv hB).zero (div_eq_zero_iff.2 (.inl hA)), fun hA => ?root⟩
    have h := fpSqrt_rootRounded hp v hna hA
    exact ⟨h.writes, h.number, h.fprf, h.positive, h.raised, h.fi, h.fr, h.rounds.nearest, h.rounds.down, h.rounds.up⟩

end Sys2Proof.FpNumerics
end

section
/-! PROOFS. The family 45_fp_instructions.md: the floating-point stores (R510, R519 to R527, R531). -/

namespace Sys2Proof.Machine

/-! ### The bytes of a lane -/

/-- The last four bytes of a doubleword are those of its low word. -/
theorem beBytes_four_lane (v : Lane) : beBytes 4 v = wordBytes (v.setWidth 32) := by
  have hbyte : ∀ k, k + 8 ≤ 32 → (v.setWidth 32).extractLsb' k 8 = v.extractLsb' k 8 :=
    fun k hk => BitVec.extractLsb'_setWidth_of_le hk
  rw [wordBytes, hbyte 24 (by decide), hbyte 16 (by decide), hbyte 8 (by decide), hbyte 0 (by decide)]
  rfl

/-- The byte of a word taken from a doubleword. -/
theorem extractLsb'_word_byte (v : Lane) (start : Nat) {k : Nat} (hk : k + 8 ≤ 32) :
    (v.extractLsb' start 32).extractLsb' k 8 = v.extractLsb' (start + k) 8 := by
  refine BitVec.eq_of_getLsbD_eq fun i hi => ?_
  simp only [BitVec.getLsbD_extractLsb', Nat.add_assoc]
  simp [show k + i < 32 by omega]

/-- The eight bytes of a doubleword are those of its two words, the high one first. -/
theorem beBytes_eight (v : Lane) : beBytes 8 v = doubleBytes v := by
  simp only [doubleBytes, wordBytes, extractLsb'_word_byte v _ (show 24 + 8 ≤ 32 by decide),
    extractLsb'_word_byte v _ (show 16 + 8 ≤ 32 by decide), extractLsb'_word_byte v _ (show 8 + 8 ≤ 32 by decide),
    extractLsb'_word_byte v _ (show 0 + 8 ≤ 32 by decide)]
  rfl

/-- A doubleword stored as two words has the same bytes. -/
theorem beBytes_four_append (v : Lane) : beBytes 4 (v >>> 32) ++ beBytes 4 v = doubleBytes v := by
  rw [beBytes_four_lane, beBytes_four_lane]
  rfl

/-! ### Completed stores -/

/-- A doubleword goes to RAM in one part or in two words. -/
theorem State.writeDouble_plain {s : State} {ea : Word} (h : s.plainData ea 8) (v : Lane) :
    ∃ t, s.writeDouble ea v = .ok () t ∧ BytesStored s t ea (doubleBytes v) := by
  unfold State.writeDouble
  split
  · rw [← beBytes_eight]
    exact State.memWrite_plainData h v
  · rw [← beBytes_four_append]
    exact State.storePair_plain (n := 4) (v >>> 32) v h

/-- With tracing off a store completes, and an update form then has the address in rA. -/
theorem BytesStored.retire_updateIf {s t : State} {ea : Word} {bs : List Byte} (h : BytesStored s t ea bs)
    (hl : bs.length ≤ 2 ^ 32) (hse : s.msrSe = false) (update : Bool) (rA : Reg) :
    ∃ u, Machine.retire (t.updateIf update rA ea) = .next (u.updateIf update rA ea) ∧ StoreEnds s u ea bs := by
  obtain ⟨-, hends⟩ := h.retire hl hse
  have htse : t.msrSe = false := by
    rw [h.2]
    exact hse
  refine ⟨t.ended, ?_, hends⟩
  rw [retire_untraced ((State.updateIf_msrSe ..).trans htse)]
  cases update <;> rfl

/-- The word of a single-precision store: R531's where it is defined, and otherwise some word, for one draw. -/
theorem State.singleImage_spec (s : State) (v : Lane) : ∃ n, s.afterImage v = s.drawnBy n ∧
    ∀ w, singleFromDouble v = some w → s.singleImage v = w ∧ n = 0 := by
  unfold State.afterImage State.singleImage
  cases singleFromDouble v with
  | none => exact ⟨1, rfl, fun w hw => nomatch hw⟩
  | some w => exact ⟨0, rfl, fun w' hw => ⟨Option.some.inj hw, rfl⟩⟩

section
variable {s : State} (hfp : s.msrFp = true) (hse : s.msrSe = false) (frS : FReg) {ea : Word}
  (haligned : ea.toNat % 4 = 0)
include hfp hse haligned

theorem State.storeFd_plain (i : Instr) (update : Bool) (rA : Reg) (h : s.plainData ea 8) :
    ∃ t, s.storeFd i update frS rA ea = .next (t.updateIf update rA ea) ∧
      StoreEnds s t ea (doubleBytes (s.f0 frS)) := by
  obtain ⟨t, ht, hstored⟩ := State.writeDouble_plain h (s.f0 frS)
  rw [State.storeFd, withFp_of_on hfp, State.wordAligned_of_mod haligned, ht, Res.finish_ok]
  exact hstored.retire_updateIf (show 8 ≤ 2 ^ 32 by decide) hse update rA

theorem State.storeFs_plain (i : Instr) (update : Bool) (rA : Reg) (h : s.plainData ea 4) :
    ∃ t, s.storeFs i update frS rA ea = .next (t.updateIf update rA ea) ∧
      ∃ w n, StoreEnds (s.drawnBy n) t ea (wordBytes w) ∧
        ∀ w', singleFromDouble (s.f0 frS) = some w' → w = w' ∧ n = 0 := by
  obtain ⟨n, hdrawn, himage⟩ := s.singleImage_spec (s.f0 frS)
  have hplain : (s.drawnBy n).plainData ea 4 := h
  obtain ⟨t, ht, hstored⟩ := State.memWrite_plainData hplain ((s.singleImage (s.f0 frS)).setWidth 64)
  rw [beBytes_four] at hstored
  obtain ⟨u, hu, hends⟩ := hstored.retire_updateIf (show 4 ≤ 2 ^ 32 by decide) hse update rA
  refine ⟨u, ?_, _, n, hends, himage⟩
  rw [State.storeFs, withFp_of_on hfp, State.wordAligned_of_mod haligned, hdrawn, ht, Res.finish_ok, hu]

end

theorem execStfiwx_plain {s : State} (hfp : s.msrFp = true) (hse : s.msrSe = false) (frS : FReg) (rA rB : Reg)
    (haligned : (s.eaX rA rB).toNat % 4 = 0) (h : s.plainData (s.eaX rA rB) 4) :
    ∃ t, execStfiwx frS rA rB s = .next t ∧
      StoreEnds s t (s.eaX rA rB) (wordBytes ((s.f0 frS).setWidth 32)) := by
  obtain ⟨t, ht, hstored⟩ := State.memWrite_plainData h (s.f0 frS)
  rw [beBytes_four_lane] at hstored
  rw [execStfiwx, withFp_of_on hfp, State.wordAligned_of_mod haligned, ht, Res.finish_ok]
  exact ⟨t.ended, hstored.retire (show 4 ≤ 2 ^ 32 by decide) hse⟩

end Sys2Proof.Machine

/-! ### The obligation of 45_fp_instructions.md -/

namespace Sys2Proof.FpInstructions

open Sys2Proof.Machine

/-- Settles O41: the plain stores in their nine forms; lane 0 as a doubleword, its single image (R531) or its low word. -/
theorem fpStores : Obligations.FpStores := by
  intro frS rA rB d s hfp hse base eaD eaX upD upX v single
  have hdouble := fun (i : Instr) (update : Bool) {ea : Word} (haligned : ea.toNat % 4 = 0) =>
    State.storeFd_plain hfp hse frS haligned i update rA
  have hsingle := fun (i : Instr) (update : Bool) {ea : Word} (haligned : ea.toNat % 4 = 0) =>
    State.storeFs_plain hfp hse frS haligned i update rA
  exact ⟨hdouble _ false, hdouble _ false, fun _ => hdouble _ true, fun _ => hdouble _ true,
    execStfiwx_plain hfp hse frS rA rB,
    hsingle _ false, hsingle _ false, fun _ => hsingle _ true, fun _ => hsingle _ true⟩

end Sys2Proof.FpInstructions
end

section
/-! PROOFS. The family 47_system.md: the traps. -/

namespace Sys2Proof.Machine

/-! ### The trap condition -/

/-- The five comparisons that TO selects, by the signed and the unsigned numbers alone (R644). -/
theorem trapCond_iff (cond : BitVec 5) (a b : Word) :
    trapCond cond a b = true ↔
      (cond.getLsbD 4 = true ∧ a.toInt < b.toInt) ∨ (cond.getLsbD 3 = true ∧ b.toInt < a.toInt) ∨
        (cond.getLsbD 2 = true ∧ a = b) ∨ (cond.getLsbD 1 = true ∧ a.toNat < b.toNat) ∨
        (cond.getLsbD 0 = true ∧ b.toNat < a.toNat) := by
  simp only [trapCond, Bool.or_eq_true, Bool.and_eq_true, beq_iff_eq, BitVec.slt_iff_toInt_lt,
    BitVec.ult_iff_toNat_lt, or_assoc]

/-- TO = 0 selects no comparison (R644). -/
theorem trapCond_none (a b : Word) : trapCond 0 a b = false := by
  rw [Bool.eq_false_iff, Ne, trapCond_iff]
  simp only [BitVec.ofNat_eq_ofNat, BitVec.getLsbD_zero, Bool.false_eq_true, false_and, or_self, not_false_eq_true]

/-- TO = 31 selects them all, and one of less, greater and equal holds of any two numbers (R644). -/
theorem trapCond_all (a b : Word) : trapCond 31 a b = true := by
  rw [trapCond_iff]
  rcases lt_trichotomy a.toInt b.toInt with hlt | heq | hgt
  · exact .inl ⟨rfl, hlt⟩
  · exact .inr (.inr (.inl ⟨rfl, BitVec.toInt_inj.1 heq⟩))
  · exact .inr (.inl ⟨rfl, hgt⟩)

/-! ### The ends of a trap instruction -/

/-- With entry not refused and tracing off a trap instruction raises Program(Trap) at its own address where its condition
`c` holds, else only advances pc (R642, R643, R781). -/
theorem raiseTrap_or_retire {s : State} (hile : s.msrIle = false) (hse : s.msrSe = false) (c : Bool) :
    (if c then raiseProgram .trap s else retire s) =
      if c then .next (s.entered .program s.pc ProgramKind.trap.info) else .next s.ended := by
  cases c with
  | true => exact raiseProgram_of_ile hile .trap
  | false => exact retire_untraced hse

end Sys2Proof.Machine

/-! ### The obligation of 47_system.md -/

namespace Sys2Proof.SystemInstructions

open Sys2Proof.Machine

/-- Settles O8: both instructions end by the same two ways, on the condition of their own operands. -/
theorem traps : Obligations.Traps := by
  refine ⟨trapCond_iff, fun a b => ⟨trapCond_none a b, trapCond_all a b⟩, rfl, ?_⟩
  intro cond rA rB simm s hile hse
  rw [exec_tw, execTw, exec_twi, execTwi]
  exact ⟨raiseTrap_or_retire hile hse (trapCond cond (s.x rA) (s.x rB)),
    raiseTrap_or_retire hile hse (trapCond cond (s.x rA) (simm32 simm))⟩

end Sys2Proof.SystemInstructions
end

section
/-! PROOFS. The family 60_exceptions.md: what an instruction that begins and ends in user mode keeps (R563, R800, R801). -/

namespace Sys2Proof.Machine

/-! ### The supervisor's part of the state -/

/-- The state with fixed values in everything that a user program may change. -/
def State.supervisorPart (s : State) : State :=
  { s with
    pc := 0, gpr := Vector.replicate 32 0, ps0 := Vector.replicate 32 0, ps1 := Vector.replicate 32 0
    cr := 0, lr := 0, ctr := 0, xer := 0, xerReservedWritten := false, fpscr := 0
    reserve := false, reserveAddr := 0
    mem := [], stale := [], dirty := [], late := [], tables := TableHistory.empty, bus := [], draws := 0 }

/-- From `s` to `t` only what a user program may change has changed. -/
def Keeps (s t : State) : Prop := t.supervisorPart = s.supervisorPart

theorem keepsSupervisor_iff {s t : State} : KeepsSupervisor s t ↔ Keeps s t := by
  simp only [KeepsSupervisor, Keeps, State.supervisorPart, State.mk.injEq, true_and]

theorem Keeps.refl (s : State) : Keeps s s := rfl

theorem Keeps.trans {s t u : State} (h : Keeps s t) (h' : Keeps t u) : Keeps s u := Eq.trans h' h

theorem Keeps.ite {s t u : State} {c : Prop} [Decidable c] (ht : Keeps s t) (hu : Keeps s u) :
    Keeps s (if c then t else u) := by
  split
  · exact ht
  · exact hu

theorem Keeps.setX {s t : State} (h : Keeps s t) (r : Reg) (v : Word) : Keeps s (t.setX r v) := h.trans rfl

/-! ### Outcomes -/

/-- Where the outcome goes on in user mode, it keeps the supervisor's part. -/
structure UserOut (s : State) (o : Out) : Prop where
  next_keeps : ∀ t, o = .next t → t.msrPr = true → t.mode ≠ .checkstop → Keeps s t

/-- A part of an instruction keeps the supervisor's part, or ends the instruction so. -/
def UserRes {α : Type} (s : State) : Res α → Prop
  | .ok _ u => Keeps s u
  | .stop o => UserOut s o

theorem UserOut.refused (s : State) (r : Refusal) : UserOut s (.refused r) := ⟨fun t h => by cases h⟩

theorem UserOut.next {s t : State} (h : Keeps s t) : UserOut s (.next t) := by
  refine ⟨?_⟩
  rintro _ ⟨⟩ _ _
  exact h

theorem UserOut.of_keeps {s u : State} {o : Out} (h : Keeps s u) (ho : UserOut u o) : UserOut s o :=
  ⟨fun t ht hpr hmode => h.trans (ho.next_keeps t ht hpr hmode)⟩

theorem UserOut.ite {s : State} {o o' : Out} {c : Prop} [Decidable c] (h : UserOut s o) (h' : UserOut s o') :
    UserOut s (if c then o else o') := by
  split
  · exact h
  · exact h'

/-- An exception, from whatever state it is taken, leaves user mode (R775). -/
theorem takeException_userOut (s u : State) (e : Exception) (ra info : Word) :
    UserOut s (takeException e ra info u) := by
  refine ⟨fun t ht hpr => ?_⟩
  obtain ⟨-, rfl⟩ := takeException_next.1 ht
  cases (u.entered_msrPr e ra info).symm.trans hpr

/-- A machine check leaves user mode or halts the processor (R777). -/
theorem machineCheck_userOut (s u : State) (info : Word) : UserOut s (machineCheck info u) :=
  .ite (takeException_userOut ..) ⟨fun t ht _ hmode => by cases ht; exact absurd rfl hmode⟩

theorem raiseProgram_userOut (s u : State) (k : ProgramKind) : UserOut s (raiseProgram k u) :=
  takeException_userOut ..

theorem retireTo_userOut {s u : State} {traced : Bool} {next : Word} (h : Keeps s u) :
    UserOut s (retireTo traced next u) := .ite (takeException_userOut ..) (.next h)

theorem retire_userOut {s u : State} (h : Keeps s u) : UserOut s (retire u) := retireTo_userOut h

theorem withFp_userOut {s u : State} {run : Out} (h : UserOut s run) : UserOut s (withFp u run) :=
  .ite h (takeException_userOut ..)

theorem withPaired_userOut {s u : State} {run : Out} (h : UserOut s run) : UserOut s (withPaired u run) :=
  .ite (withFp_userOut h) (takeException_userOut ..)

theorem withQuantized_userOut {s u : State} {run : Out} (h : UserOut s run) : UserOut s (withQuantized u run) :=
  .ite (withFp_userOut h) (takeException_userOut ..)

theorem wordAligned_userOut {s u : State} {i : Instr} {raField : Bool} {ea : Word} {run : Out} (h : UserOut s run) :
    UserOut s (u.wordAligned i raField ea run) := .ite h (takeException_userOut ..)

/-- In user mode a privileged instruction has no effect of its own (R801). -/
theorem privileged_userOut {s : State} (hpr : s.msrPr = true) (run : Out) : UserOut s (privileged s run) := by
  rw [privileged, if_pos hpr]
  exact raiseProgram_userOut ..

/-! ### Parts -/

theorem UserRes.finish {α : Type} {s : State} {r : Res α} {f : α → State → Out} (h : UserRes s r)
    (hf : ∀ a u, Keeps s u → UserOut s (f a u)) : UserOut s (r.finish f) := by
  cases r with
  | ok a u => exact hf a u h
  | stop o => exact h

theorem UserRes.bind {α β : Type} {s : State} {r : Res α} {f : α → State → Res β} (h : UserRes s r)
    (hf : ∀ a u, Keeps s u → UserRes s (f a u)) : UserRes s (r.bind f) := by
  cases r with
  | ok a u => exact hf a u h
  | stop o => exact h

theorem UserRes.of_keeps {α : Type} {s u : State} {r : Res α} (h : Keeps s u) (hr : UserRes u r) : UserRes s r := by
  cases r with
  | ok a t => exact h.trans hr
  | stop o => exact UserOut.of_keeps h hr

theorem UserRes.ite {α : Type} {s : State} {r r' : Res α} {c : Prop} [Decidable c] (h : UserRes s r) (h' : UserRes s r') :
    UserRes s (if c then r else r') := by
  split
  · exact h
  · exact h'

/-- How an access that does not succeed ends: never in user mode. -/
theorem accessStop_userOut {s u : State} {o : Out}
    (h : (∃ ea c, o = raiseDsi ea c u) ∨ o = absentAddress u ∨ ∃ r, o = .refused r) : UserOut s o := by
  rcases h with ⟨ea, c, rfl⟩ | rfl | ⟨r, rfl⟩
  · exact takeException_userOut ..
  · exact machineCheck_userOut ..
  · exact .refused ..

/-- The check of an access: it succeeds or ends the instruction. -/
theorem userRes_of_cases {α : Type} {s : State} {ea : Word} {r : Res α} {after : α → State}
    (hafter : ∀ m, Keeps s (after m))
    (h : (∃ m, r = .ok m (after m)) ∨ (∃ c, r = .stop (raiseDsi ea c s)) ∨ r = .stop (absentAddress s) ∨
      ∃ q, r = .stop (.refused q)) : UserRes s r := by
  rcases h with ⟨m, rfl⟩ | ⟨c, rfl⟩ | rfl | ⟨q, rfl⟩
  · exact hafter m
  · exact takeException_userOut ..
  · exact machineCheck_userOut ..
  · exact UserOut.refused ..

section
variable (s : State)

theorem touch_keeps (k : Access) (p : Option Word) : Keeps s (s.touch k p) := by
  rw [State.touch_frame]
  rfl

theorem afterStore_keeps (m : Mapped) (bs : List Byte) : Keeps s (s.afterStore m bs) := by
  rw [State.afterStore_frame]
  rfl

theorem storePhys_keeps (m : Mapped) (bs : List Byte) : Keeps s (s.storePhys m bs) := rfl

theorem dataMap_userRes (k : Access) (ea : Word) : UserRes s (s.dataMap k ea) :=
  userRes_of_cases (after := fun _ => s) (fun _ => rfl) (s.dataMap_cases k ea)

theorem dataCheck_userRes (k : Access) (ea : Word) : UserRes s (s.dataCheck k ea) :=
  userRes_of_cases (after := fun _ => s) (fun _ => rfl) (s.dataCheck_cases k ea)

theorem checkPart_userRes (k : Access) (ea : Word) (n : Nat) (al : Bool) : UserRes s (s.checkPart k ea n al) :=
  userRes_of_cases (after := fun m => s.touch k m.pte) (fun _ => touch_keeps ..) (s.checkPart_cases k ea n al)

theorem readParts_userRes (al : Bool) (ps : List (Word × Nat)) : UserRes s (s.readParts al ps) := by
  cases h : s.readParts al ps with
  | ok bs t =>
    obtain ⟨hframe, -⟩ := State.readParts_ok h
    rw [hframe]
    exact Keeps.refl s
  | stop o =>
    obtain ⟨u, -, -, ho⟩ := State.readParts_stop h
    exact accessStop_userOut ho

theorem memRead_userRes (ea : Word) (n : Nat) : UserRes s (s.memRead ea n) :=
  (readParts_userRes ..).bind fun _ _ h => h

theorem memWrite_userRes (ea : Word) (n : Nat) (v : BitVec 64) : UserRes s (s.memWrite ea n v) := by
  cases h : s.memWrite ea n v with
  | ok a t =>
    obtain ⟨hframe, -⟩ := State.memWrite_ok h
    rw [hframe]
    exact Keeps.refl s
  | stop o =>
    obtain ⟨u, -, -, ho⟩ := State.memWrite_stop h
    exact accessStop_userOut ho

theorem mapPair_userRes (k : Access) (ea0 ea1 : Word) (n : Nat) (al : Bool) :
    UserRes s (s.mapPair k ea0 ea1 n al) := by
  rcases s.mapPair_cases k ea0 ea1 n al with ⟨m, h⟩ | ⟨ea, c, h⟩ | h | ⟨r, h⟩ <;> rw [h]
  · exact (touch_keeps s k m.1.pte).trans (touch_keeps ..)
  · exact takeException_userOut ..
  · exact machineCheck_userOut ..
  · exact UserOut.refused ..

theorem loadPair_userRes (ea0 ea1 : Word) (n : Nat) (al : Bool) : UserRes s (s.loadPair ea0 ea1 n al) :=
  (mapPair_userRes ..).bind fun m u h => by
    change Keeps s ((u.afterLoad m.1 n).afterLoad m.2 n)
    rw [State.afterLoad_frame, State.afterLoad_frame]
    exact h

theorem storePair_userRes (ea0 ea1 : Word) (n : Nat) (al : Bool) (v0 v1 : BitVec 64) :
    UserRes s (s.storePair ea0 ea1 n al v0 v1) :=
  (mapPair_userRes ..).bind fun _ _ h => (h.trans (afterStore_keeps ..)).trans (afterStore_keeps ..)

end

/-! ### Integer instructions and branches -/

section
variable (s : State)

theorem arith_keeps (rD : Reg) (r : Word) (ov oe rc : Bool) : Keeps s (s.arith rD r ov oe rc) := by
  cases oe <;> cases rc <;> rfl

theorem logic_keeps (rA : Reg) (r : Word) (rc : Bool) : Keeps s (s.logic rA r rc) := by cases rc <;> rfl

theorem addedCarrying_keeps (rD : Reg) (a b : Word) (c oe rc : Bool) : Keeps s (s.addedCarrying rD a b c oe rc) :=
  arith_keeps (s.setCa (carry32 a b c)) ..

theorem shiftedAlgebraic_keeps (rS rA : Reg) (n : Nat) (rc : Bool) : Keeps s (s.shiftedAlgebraic rS rA n rc) :=
  logic_keeps (s.setCa (shiftRightAlgebraic (s.x rS) n).2) ..

theorem retire_drawn_arith_userOut (rD : Reg) (r : Word) (ov oe rc : Bool) :
    UserOut s (retire (s.drawn.arith rD r ov oe rc)) := retire_userOut (arith_keeps s.drawn ..)

theorem branchIf_userOut (bo : BitVec 5) (bi : CrBit) (target : Word) (lk : Bool) :
    UserOut s (s.branchIf bo bi target lk) := retireTo_userOut rfl

theorem afterXerRead_keeps : Keeps s s.afterXerRead := .ite rfl rfl

/-! ### Loads, stores and caches -/

theorem load_userOut (ea : Word) (n : Nat) (f : BitVec 64 → Word) (rD : Reg) : UserOut s (s.load ea n f rD) :=
  (memRead_userRes ..).finish fun _ _ h => retire_userOut (h.setX ..)

theorem loadUpdate_userOut (ea : Word) (n : Nat) (f : BitVec 64 → Word) (rD rA : Reg) :
    UserOut s (s.loadUpdate ea n f rD rA) :=
  (memRead_userRes ..).finish fun _ _ h => retire_userOut ((h.setX ..).setX ..)

theorem store_userOut (ea : Word) (n : Nat) (v : Word) : UserOut s (s.store ea n v) :=
  (memWrite_userRes ..).finish fun _ _ h => retire_userOut h

theorem storeUpdate_userOut (ea : Word) (n : Nat) (v : Word) (rA : Reg) : UserOut s (s.storeUpdate ea n v rA) :=
  (memWrite_userRes ..).finish fun _ _ h => retire_userOut (h.setX ..)

theorem loadWords_userRes (n : Nat) (r : Reg) (ea : Word) : UserRes s (loadWords n r ea s) := by
  induction n generalizing r ea s with
  | zero => exact Keeps.refl s
  | succ n ih => exact (memRead_userRes ..).bind fun _ _ h => .of_keeps (h.setX ..) (ih ..)

theorem storeWords_userRes (n : Nat) (r : Reg) (ea : Word) : UserRes s (storeWords n r ea s) := by
  induction n generalizing r ea s with
  | zero => exact Keeps.refl s
  | succ n ih => exact (memWrite_userRes ..).bind fun _ _ h => .of_keeps h (ih ..)

theorem readEach_userRes (n : Nat) (ea : Word) : UserRes s (readEach n ea s) := by
  induction n generalizing ea s with
  | zero => exact Keeps.refl s
  | succ n ih => exact (memRead_userRes ..).bind fun _ _ h => (UserRes.of_keeps h (ih ..)).bind fun _ _ h' => h'

theorem writeEach_userRes (bs : List Byte) (ea : Word) : UserRes s (writeEach bs ea s) := by
  induction bs generalizing ea s with
  | nil => exact Keeps.refl s
  | cons b bs ih => exact (memWrite_userRes ..).bind fun _ _ h => .of_keeps h (ih ..)

theorem loadString_userRes (count bytes : Nat) (r : Reg) (ea : Word) :
    UserRes s (loadString count bytes r ea s) := by
  induction count generalizing bytes r ea s with
  | zero => exact Keeps.refl s
  | succ n ih => exact (readEach_userRes ..).bind fun _ _ h => .of_keeps (h.setX ..) (ih ..)

theorem execLswx_userOut (rD rA rB : Reg) : UserOut s (execLswx rD rA rB s) :=
  .ite (retire_userOut rfl) (.ite (.refused ..) ((loadString_userRes ..).finish fun _ _ h => retire_userOut h))

theorem execLwarx_userOut (rD rA rB : Reg) : UserOut s (execLwarx rD rA rB s) :=
  wordAligned_userOut ((checkPart_userRes ..).finish fun _ _ h => .ite (.refused ..) (retire_userOut (h.trans rfl)))

theorem storeConditional_userOut (rS : Reg) (ea : Word) : UserOut s (s.storeConditional rS ea) :=
  (checkPart_userRes ..).finish fun _ _ h => retire_userOut ((h.trans (afterStore_keeps ..)).trans rfl)

theorem execStwcx_userOut (rS rA rB : Reg) : UserOut s (execStwcx rS rA rB s) :=
  wordAligned_userOut ((dataCheck_userRes ..).finish fun _ u h => .of_keeps h
    (.ite (retire_userOut rfl) (.ite (storeConditional_userOut ..)
      (.ite (.of_keeps (u := u.drawn) rfl (storeConditional_userOut ..)) (retire_userOut rfl)))))

theorem externalControl_userOut (i : Instr) (k : Access) (ea : Word) : UserOut s (s.externalControl i k ea) :=
  .ite (takeException_userOut ..) (wordAligned_userOut ((dataCheck_userRes ..).finish fun _ _ _ => .refused ..))

theorem blockOp_userOut {k : Access} {ea : Word} {f : Mapped → State → State} (hf : ∀ m u, Keeps u (f m u)) :
    UserOut s ((s.dataMap k ea).finish fun m u => retire (f m u)) :=
  (dataMap_userRes ..).finish fun m u h => retire_userOut (h.trans (hf m u))

theorem execDcbz_userOut (rA rB : Reg) : UserOut s (execDcbz rA rB s) := by
  refine .ite (takeException_userOut ..) ((dataMap_userRes ..).finish fun m u h => .of_keeps h ?_)
  refine .ite (takeException_userOut ..) (.ite (.refused ..) (.ite (.refused ..) (retire_userOut ?_)))
  exact (touch_keeps u .store m.pte).trans (storePhys_keeps ..)

/-! ### Floating point -/

theorem recordCr1If_keeps (rc : Bool) : Keeps s (s.recordCr1If rc) := by cases rc <;> rfl

end

section
variable {s : State}

theorem finishFp_userOut {u : State} (rc : Bool) (h : Keeps s u) : UserOut s (u.finishFp rc) :=
  .ite (takeException_userOut ..) (retire_userOut (h.trans (recordCr1If_keeps u rc)))

theorem finishMove_userOut {u : State} (rc : Bool) (h : Keeps s u) : UserOut s (u.finishMove rc) :=
  retire_userOut (h.trans (recordCr1If_keeps u rc))

theorem writeS_keeps {u : State} (h : Keeps s u) (frD : FReg) (r : Lane) (draw : BitVec 64) :
    Keeps s (u.writeS frD r draw) := .ite (h.trans rfl) (h.trans rfl)

variable (s)

theorem arithD_userOut (frD : FReg) (rc : Bool) (o : FpOut) : UserOut s (s.arithD frD rc o) :=
  finishFp_userOut rc (.ite rfl rfl)

theorem arithS_userOut (frD : FReg) (rc : Bool) (operands : List Lane) (o : FpOut) :
    UserOut s (s.arithS frD rc operands o) := finishFp_userOut rc (.ite (writeS_keeps rfl ..) rfl)

theorem execFres_userOut (frD frB : FReg) (rc : Bool) : UserOut s (execFres frD frB rc s) :=
  withFp_userOut (finishFp_userOut rc (.ite (writeS_keeps rfl ..) rfl))

theorem execFrsqrte_userOut (frD frB : FReg) (rc : Bool) : UserOut s (execFrsqrte frD frB rc s) :=
  withFp_userOut (finishFp_userOut rc (.ite rfl rfl))

theorem convert_userOut (frD frB : FReg) (rc : Bool) (rn : BitVec 2) : UserOut s (s.convert frD frB rc rn) :=
  finishFp_userOut rc (.ite rfl rfl)

theorem compareLanes_userOut (crfD : CrField) (a b : Lane) (raised : Word) :
    UserOut s (s.compareLanes crfD a b raised) := finishFp_userOut false rfl

theorem arithPair_userOut (frD : FReg) (rc : Bool) (op0 op1 : LaneOp) (mainIs1 : Bool)
    (after : FpOut → Word → Bool → Word) : UserOut s (s.arithPair frD rc op0 op1 mainIs1 after) :=
  finishFp_userOut rc (.ite rfl rfl)

theorem movePair_userOut (frD : FReg) (rc : Bool) (r0 r1 : Lane) (from0 from1 : List Lane) :
    UserOut s (s.movePair frD rc r0 r1 from0 from1) := withPaired_userOut (finishMove_userOut rc rfl)

/-! ### Floating-point and quantized loads and stores -/

theorem updateIf_keeps (update : Bool) (rA : Reg) (ea : Word) : Keeps s (s.updateIf update rA ea) := .ite rfl rfl

theorem setLoadedSingle_keeps (frD : FReg) (w : Word) : Keeps s (s.setLoadedSingle frD w) := .ite rfl rfl

theorem afterImage_keeps (v : Lane) : Keeps s (s.afterImage v) := .ite rfl rfl

theorem readDouble_userRes (ea : Word) : UserRes s (s.readDouble ea) :=
  .ite (memRead_userRes ..) ((readParts_userRes ..).bind fun _ _ h => h)

theorem writeDouble_userRes (ea : Word) (v : Lane) : UserRes s (s.writeDouble ea v) :=
  .ite (memWrite_userRes ..) (storePair_userRes ..)

theorem loadFd_userOut (i : Instr) (update : Bool) (frD : FReg) (rA : Reg) (ea : Word) :
    UserOut s (s.loadFd i update frD rA ea) :=
  withFp_userOut (wordAligned_userOut ((readDouble_userRes ..).finish fun v u h =>
    retire_userOut (h.trans (updateIf_keeps (u.setF0 frD v) ..))))

theorem loadFs_userOut (i : Instr) (update : Bool) (frD : FReg) (rA : Reg) (ea : Word) :
    UserOut s (s.loadFs i update frD rA ea) :=
  withFp_userOut (wordAligned_userOut ((memRead_userRes ..).finish fun _ _ h =>
    retire_userOut ((h.trans (setLoadedSingle_keeps ..)).trans (updateIf_keeps ..))))

theorem storeFd_userOut (i : Instr) (update : Bool) (frS : FReg) (rA : Reg) (ea : Word) :
    UserOut s (s.storeFd i update frS rA ea) :=
  withFp_userOut (wordAligned_userOut ((writeDouble_userRes ..).finish fun _ _ h =>
    retire_userOut (h.trans (updateIf_keeps ..))))

theorem storeFs_userOut (i : Instr) (update : Bool) (frS : FReg) (rA : Reg) (ea : Word) :
    UserOut s (s.storeFs i update frS rA ea) :=
  withFp_userOut (wordAligned_userOut ((UserRes.of_keeps (afterImage_keeps ..) (memWrite_userRes ..)).finish
    fun _ _ h => retire_userOut (h.trans (updateIf_keeps ..))))

theorem readQuantized_userRes (t : QuantType) (scale : BitVec 6) (single : Bool) (ea : Word) :
    UserRes s (s.readQuantized t scale single ea) :=
  .ite ((memRead_userRes ..).bind fun _ _ h => h) ((loadPair_userRes ..).bind fun _ _ h => h)

theorem writeQuantized_userRes (t : QuantType) (scale : BitVec 6) (single : Bool) (ea : Word) (v0 v1 : Lane) :
    UserRes s (s.writeQuantized t scale single ea v0 v1) :=
  .ite (.of_keeps (u := s.drawnBy 2) rfl (memWrite_userRes ..)) (.of_keeps (u := s.drawnBy 2) rfl (storePair_userRes ..))

theorem loadQuantized_userOut (update single : Bool) (i : BitVec 3) (frD : FReg) (rA : Reg) (ea : Word) :
    UserOut s (s.loadQuantized update single i frD rA ea) := by
  refine withQuantized_userOut ?_
  split
  · exact .refused ..
  · exact .ite (.refused ..) ((readQuantized_userRes ..).finish fun v u h =>
      retire_userOut (h.trans (updateIf_keeps ((u.setF0 frD v.1).setF1 frD v.2) ..)))

theorem storeQuantized_userOut (update single : Bool) (i : BitVec 3) (frS : FReg) (rA : Reg) (ea : Word) :
    UserOut s (s.storeQuantized update single i frS rA ea) := by
  refine withQuantized_userOut ?_
  split
  · exact .refused ..
  · exact .ite (.refused ..) ((writeQuantized_userRes ..).finish fun _ _ h =>
      retire_userOut (h.trans (updateIf_keeps ..)))

/-! ### Special-purpose registers -/

/-- The registers a user program writes, and those that nothing writes. -/
def Spr.userWritten : Spr → Bool
  | .xer | .lr | .ctr => true
  | r => r.readOnly

/-- A number that is not privileged names a register that is the user's, or that `mtspr` does not write (R52, R563). -/
theorem userWritten_of_sprOf {part : Part} {n : BitVec 10} {r : Spr} (hn : sprPrivileged n = false)
    (h : sprOf part n = some r) : r.userWritten = true := by
  have hgekko : ∀ e ∈ sprNumbers, e.1.testBit 4 = true ∨ e.2.userWritten = true := by decide
  have hbroadway : ∀ e ∈ broadwayNumbers, e.1.testBit 4 = true ∨ e.2.userWritten = true := by decide
  have hbit : ¬n.toNat.testBit 4 = true := by
    rw [← BitVec.getLsbD, Bool.not_eq_true]
    exact hn
  rcases mem_of_sprOf h with hmem | ⟨-, hmem⟩
  · exact (hgekko _ hmem).resolve_left hbit
  · exact (hbroadway _ hmem).resolve_left hbit

theorem writeSpr_userRes {r : Spr} (h : r.userWritten = true) (v : Word) : UserRes s (s.writeSpr r v) := by
  cases r with
  | xer | lr | ctr => exact Keeps.refl s
  | pvr | ummcr0 | ummcr1 | upmc | usia | hid1 => exact raiseProgram_userOut ..
  | _ => cases h

/-- In user mode only the numbers that are not privileged reach a register (R563). -/
theorem withSpr_userOut {n : BitVec 10} {run : Spr → Out} (hpr : s.msrPr = true)
    (h : ∀ r, r.userWritten = true → UserOut s (run r)) : UserOut s (s.withSpr n run) := by
  unfold State.withSpr
  rw [hpr, Bool.and_true]
  split
  · exact raiseProgram_userOut ..
  · rename_i hn
    split
    · exact h _ (userWritten_of_sprOf (Bool.eq_false_of_not_eq_true hn) ‹_›)
    · exact raiseProgram_userOut ..

theorem execMfspr_userOut (hpr : s.msrPr = true) (rD : Reg) (n : BitVec 10) : UserOut s (execMfspr rD n s) := by
  refine withSpr_userOut s hpr fun r _ => ?_
  split
  · exact retire_userOut rfl
  · exact raiseProgram_userOut ..

theorem execMftb_userOut (rD : Reg) (n : BitVec 10) : UserOut s (execMftb rD n s) :=
  .ite (retire_userOut rfl) (.ite (retire_userOut rfl)
    (.ite (takeException_userOut ..) (takeException_userOut ..)))

/-! ### Every instruction -/

/-- Whatever instruction runs in user mode, it keeps the supervisor's part or leaves user mode. -/
theorem exec_userOut (hpr : s.msrPr = true) (i : Instr) : UserOut s (exec i s) := by
  cases i with
  | add | subf | neg | mulhw | mulhwu | mullw => exact retire_userOut (arith_keeps ..)
  | addc | adde | addic | addic_rc | addme | addze | subfc | subfe | subfic | subfme | subfze =>
    exact retire_userOut (addedCarrying_keeps ..)
  | divw | divwu => exact .ite (retire_drawn_arith_userOut ..) (retire_userOut (arith_keeps ..))
  | and | andc | andi_rc | andis_rc | or | orc | ori | oris | xor | xori | xoris | nand | nor | eqv | slw | srw | rlwimi
  | rlwinm | rlwnm | extsb | extsh | cntlzw => exact retire_userOut (logic_keeps ..)
  | sraw | srawi => exact retire_userOut (shiftedAlgebraic_keeps ..)
  | addi | addis | mulli | cmp | cmpi | cmpl | cmpli | crand | crandc | creqv | crnand | crnor | cror | crorc | crxor
  | mcrf | mtcrf | mfcr | dcbt | dcbtst | sync | isync | eieio => exact retire_userOut rfl
  | mcrxr => exact retire_userOut ((afterXerRead_keeps s).trans rfl)
  | b | bcctr => exact retireTo_userOut rfl
  | bc | bclr => exact branchIf_userOut ..
  | lbz | lbzx | lhz | lhzx | lha | lhax | lhbrx | lwz | lwzx | lwbrx => exact load_userOut ..
  | lbzu | lbzux | lhzu | lhzux | lhau | lhaux | lwzu | lwzux => exact loadUpdate_userOut ..
  | stb | stbx | sth | sthx | sthbrx | stw | stwx | stwbrx => exact store_userOut ..
  | stbu | stbux | sthu | sthux | stwu | stwux => exact storeUpdate_userOut ..
  | lmw => exact wordAligned_userOut ((loadWords_userRes ..).finish fun _ _ h => retire_userOut h)
  | stmw => exact wordAligned_userOut ((storeWords_userRes ..).finish fun _ _ h => retire_userOut h)
  | lswi => exact (loadString_userRes ..).finish fun _ _ h => retire_userOut h
  | lswx => exact execLswx_userOut ..
  | stswi | stswx => exact (writeEach_userRes ..).finish fun _ _ h => retire_userOut h
  | lwarx => exact execLwarx_userOut ..
  | stwcx_rc => exact execStwcx_userOut ..
  | eciwx | ecowx => exact externalControl_userOut ..
  | dcbf | dcbst | icbi => exact blockOp_userOut s fun _ _ => rfl
  | dcbz => exact execDcbz_userOut ..
  | dcbz_l => exact .ite (takeException_userOut ..) (.refused ..)
  | fadd | fsub | fmul | fdiv | fmadd | fmsub | fnmadd | fnmsub => exact withFp_userOut (arithD_userOut ..)
  | fadds | fsubs | fmuls | fdivs | fmadds | fmsubs | fnmadds | fnmsubs | frsp => exact withFp_userOut (arithS_userOut ..)
  | fsqrt => exact .ite (takeException_userOut ..) (withFp_userOut (arithD_userOut ..))
  | fsqrts => exact .ite (takeException_userOut ..) (withFp_userOut (arithS_userOut ..))
  | fres => exact execFres_userOut ..
  | frsqrte => exact execFrsqrte_userOut ..
  | fctiw | fctiwz => exact withFp_userOut (convert_userOut ..)
  | fcmpo | fcmpu => exact withFp_userOut (compareLanes_userOut ..)
  | fabs | fnabs | fneg | fmr | fsel | mffs => exact withFp_userOut (finishMove_userOut _ rfl)
  | lfd | lfdu | lfdx | lfdux => exact loadFd_userOut ..
  | lfs | lfsu | lfsx | lfsux => exact loadFs_userOut ..
  | stfd | stfdu | stfdx | stfdux => exact storeFd_userOut ..
  | stfs | stfsu | stfsx | stfsux => exact storeFs_userOut ..
  | stfiwx => exact withFp_userOut (wordAligned_userOut ((memWrite_userRes ..).finish fun _ _ h => retire_userOut h))
  | mtspr => exact withSpr_userOut s hpr fun r hr => (writeSpr_userRes s hr _).finish fun _ _ h => retire_userOut h
  | mfspr => exact execMfspr_userOut s hpr ..
  | mftb => exact execMftb_userOut ..
  | mcrfs => exact withFp_userOut (retire_userOut rfl)
  | mtfsb0 | mtfsf | mtfsfi => exact withFp_userOut (finishFp_userOut _ rfl)
  | mtfsb1 => exact withFp_userOut (.ite (.refused ..) (finishFp_userOut _ rfl))
  | tlbia => exact .ite (takeException_userOut ..) (privileged_userOut hpr _)
  | dcbi | tlbie | tlbsync | mtsr | mfsr | mtsrin | mfsrin | mfmsr | mtmsr | rfi => exact privileged_userOut hpr _
  | sc => exact takeException_userOut ..
  | tw | twi => exact .ite (takeException_userOut ..) (retire_userOut rfl)
  | psq_l | psq_lu | psq_lx | psq_lux => exact loadQuantized_userOut ..
  | psq_st | psq_stu | psq_stx | psq_stux => exact storeQuantized_userOut ..
  | ps_add | ps_sub | ps_mul | ps_div | ps_madd | ps_madds0 | ps_madds1 | ps_msub | ps_nmadd | ps_nmsub | ps_muls0
  | ps_muls1 | ps_sum0 | ps_sum1 | ps_res | ps_rsqrte => exact withPaired_userOut (arithPair_userOut ..)
  | ps_abs | ps_neg | ps_nabs | ps_mr | ps_sel | ps_merge00 | ps_merge01 | ps_merge10 | ps_merge11 =>
    exact movePair_userOut ..
  | ps_cmpu0 | ps_cmpo0 => exact withPaired_userOut (finishFp_userOut false rfl)
  | ps_cmpu1 | ps_cmpo1 => exact withPaired_userOut (compareLanes_userOut ..)

end

end Sys2Proof.Machine

namespace Sys2Proof.Exceptions

open Sys2Proof.Machine

/-- Settles O60: every instruction that runs in user mode keeps the supervisor's part, or ends in an exception, which
leaves user mode, or in the halt of a machine check. -/
theorem userModeKeepsSupervisorState : Obligations.UserModeKeepsSupervisorState :=
  fun i s t hpr ht hpr' hmode => keepsSupervisor_iff.2 ((exec_userOut s hpr i).next_keeps t ht hpr' hmode)

end Sys2Proof.Exceptions
end

section
/-! PROOFS. The family 60_exceptions.md: the gates of privileged, floating-point, paired-single and optional instructions
(R493, R494, R563, R625, R661, R749, R783, R801). -/

namespace Sys2Proof.Machine

/-! ### Closed gates -/

section
variable {s : State} (hile : s.msrIle = false)
include hile

/-- A privileged instruction in user mode (R801). -/
theorem privileged_of_user (hpr : s.msrPr = true) (run : Out) :
    privileged s run = .next (s.entered .program s.pc 0x00040000) :=
  (if_pos hpr).trans (raiseProgram_of_ile hile .privilegedInstruction)

/-- A privileged number in user mode (R563 (a)). -/
theorem State.withSpr_of_user (hpr : s.msrPr = true) {n : BitVec 10} (hn : n.getLsbD 4 = true) (run : Spr → Out) :
    s.withSpr n run = .next (s.entered .program s.pc 0x00040000) := by
  rw [State.withSpr, sprPrivileged, hn, hpr]
  exact raiseProgram_of_ile hile .privilegedInstruction

/-- A floating-point instruction with MSR[FP] = 0 (R783). -/
theorem withFp_of_off (hfp : s.msrFp = false) (run : Out) :
    withFp s run = .next (s.entered .fpUnavailable s.pc 0) :=
  (if_neg (by simp [hfp])).trans (takeException_of_ile hile)

/-- An instruction whose gate is closed (R661). -/
theorem illegal_of_closed {gate : Bool} (hgate : gate = false) (run : Out) :
    (if gate then run else raiseProgram .illegalInstruction s) = .next (s.entered .program s.pc 0x00080000) :=
  (if_neg (by simp [hgate])).trans (raiseProgram_of_ile hile .illegalInstruction)

end

/-! ### The gate of each instruction -/

theorem exec_of_isScalarOther {i : Instr} (h : isScalarOther i = true) (s : State) :
    ∃ run, exec i s = withFp s run := by
  cases i with
  | fabs | fnabs | fneg | fmr | fsel | fcmpo | fcmpu | lfd | lfdu | lfdx | lfdux | lfs | lfsu | lfsx | lfsux | stfd | stfdu
  | stfdx | stfdux | stfs | stfsu | stfsx | stfsux | stfiwx | mcrfs | mffs | mtfsb0 | mtfsb1 | mtfsf | mtfsfi =>
    exact ⟨_, rfl⟩
  | _ => cases h

/-- A square root is illegal without `HasFsqrt`, in any mode (R493, R494). -/
theorem exec_of_isSquareRoot {i : Instr} (h : isSquareRoot i = true) (s : State) :
    ∃ run, exec i s = if !s.params.hasFsqrt then raiseProgram .illegalInstruction s else withFp s run := by
  cases i with
  | fsqrt | fsqrts => exact ⟨_, rfl⟩
  | _ => cases h

theorem exec_of_scalarArithmetic {i : Instr} (h : (scalarArithmetic i).isSome = true) {s : State}
    (hsqrt : isSquareRoot i = true → s.params.hasFsqrt = true) : ∃ run, exec i s = withFp s run := by
  cases i with
  | fadd | fadds | fsub | fsubs | fmul | fmuls | fdiv | fdivs | fmadd | fmadds | fmsub | fmsubs | fnmadd | fnmadds | fnmsub
  | fnmsubs | fres | frsqrte | frsp | fctiw | fctiwz => exact ⟨_, rfl⟩
  | fsqrt | fsqrts => exact ⟨_, withFsqrt_of_has (hsqrt rfl)⟩
  | _ => cases h

theorem exec_of_isPaired {i : Instr} (h : isPaired i = true) (s : State) : ∃ run, exec i s = withPaired s run := by
  cases i with
  | ps_add | ps_sub | ps_mul | ps_div | ps_madd | ps_madds0 | ps_madds1 | ps_msub | ps_nmadd | ps_nmsub | ps_sum0 | ps_sum1
  | ps_muls0 | ps_muls1 | ps_res | ps_rsqrte | ps_abs | ps_neg | ps_nabs | ps_mr | ps_sel | ps_merge00 | ps_merge01
  | ps_merge10 | ps_merge11 | ps_cmpu0 | ps_cmpo0 | ps_cmpu1 | ps_cmpo1 => exact ⟨_, rfl⟩
  | _ => cases h

theorem exec_of_isQuantized {i : Instr} (h : isQuantized i = true) (s : State) :
    ∃ run, exec i s = withQuantized s run := by
  cases i with
  | psq_l | psq_lu | psq_lx | psq_lux | psq_st | psq_stu | psq_stx | psq_stux => exact ⟨_, rfl⟩
  | _ => cases h

end Sys2Proof.Machine

namespace Sys2Proof.Exceptions

open Sys2Proof.Machine

/-- Settles O9: every one of them looks at MSR[PR] first. -/
theorem privilegedInUserMode : Obligations.PrivilegedInUserMode := by
  intro i s hi htlbia hpr hile
  cases i with
  | mtmsr | mfmsr | dcbi | tlbie | tlbsync | mtsr | mfsr | mtsrin | mfsrin | rfi => exact privileged_of_user hile hpr _
  | tlbia =>
    rw [exec_tlbia, execTlbia, htlbia rfl]
    exact privileged_of_user hile hpr _
  | mtspr | mfspr => exact State.withSpr_of_user hile hpr hi _
  | _ => cases hi

/-- Settles O10: once its own gate is open, each instruction looks at MSR[FP] first. -/
theorem fpUnavailable : Obligations.FpUnavailable := by
  rintro i s hfp hile (⟨hi, hsqrt⟩ | hi | ⟨hi, hpse⟩ | ⟨hi, hpse, hlsqe⟩)
  case inl =>
    obtain ⟨run, hrun⟩ := exec_of_scalarArithmetic hi hsqrt
    exact hrun.trans (withFp_of_off hile hfp run)
  case inr.inl =>
    obtain ⟨run, hrun⟩ := exec_of_isScalarOther hi s
    exact hrun.trans (withFp_of_off hile hfp run)
  case inr.inr.inl =>
    obtain ⟨run, hrun⟩ := exec_of_isPaired hi s
    rw [hrun, withPaired, if_pos hpse]
    exact withFp_of_off hile hfp run
  case inr.inr.inr =>
    obtain ⟨run, hrun⟩ := exec_of_isQuantized hi s
    rw [hrun, withQuantized, hpse, hlsqe]
    exact withFp_of_off hile hfp run

/-- Settles O11: each gate is the first thing its instruction looks at. -/
theorem gatedInstructionsIllegal : Obligations.GatedInstructionsIllegal := by
  rintro i s hile (⟨hi, hpse⟩ | ⟨hi, hgate⟩ | ⟨⟨rA, rB, rfl⟩, hgate⟩ | ⟨hi, hsqrt⟩ | ⟨rfl, htlbia⟩)
  case inl =>
    obtain ⟨run, hrun⟩ := exec_of_isPaired hi s
    exact hrun.trans (illegal_of_closed hile hpse _)
  case inr.inl =>
    obtain ⟨run, hrun⟩ := exec_of_isQuantized hi s
    exact hrun.trans (illegal_of_closed hile (Bool.and_eq_false_iff.2 hgate) _)
  case inr.inr.inl =>
    rw [exec_dcbz_l, execDcbzL, if_pos (by simpa using hgate)]
    exact raiseProgram_of_ile hile .illegalInstruction
  case inr.inr.inr.inl =>
    obtain ⟨run, hrun⟩ := exec_of_isSquareRoot hi s
    rw [hrun, hsqrt]
    exact raiseProgram_of_ile hile .illegalInstruction
  case inr.inr.inr.inr =>
    rw [exec_tlbia, execTlbia, htlbia]
    exact raiseProgram_of_ile hile .illegalInstruction

end Sys2Proof.Exceptions
end

section
/-! PROOFS. The family 60_exceptions.md: the trace exception, the machine check and the asynchronous interrupts (R776,
R777, R782, R784, R786, R790, R791). -/

namespace Sys2Proof.Machine

/-! ### Traced ends (R786) -/

/-- What `untrapped` clears of MSR. -/
theorem State.untrapped_msrSe (s : State) : s.untrapped.msrSe = false :=
  (BitVec.getLsbD_and ..).trans (Bool.and_false _)

theorem State.untrapped_msrBe (s : State) : s.untrapped.msrBe = false :=
  (BitVec.getLsbD_and ..).trans (Bool.and_false _)

/-- An instruction that goes on to `next` untraced from `v`, and is traced from `w`, which is `v` with MSR as it was. -/
theorem retireTo_traced {s v w : State} (hile : s.msrIle = false) (hw : w = { v with msr := s.msr }) {traced : Bool}
    (htraced : traced = true) (next : Word) :
    ∃ u, retireTo false next v = .next u ∧
      retireTo traced next w = .next (({ u with msr := s.msr } : State).entered .trace u.pc 0) := by
  subst hw
  exact ⟨{ v with pc := next }, rfl, (if_pos htraced).trans (takeException_of_ile hile)⟩

section
variable {s : State} (hile : s.msrIle = false)
include hile

/-- An instruction that is not a branch, with MSR[SE] = 1. -/
theorem retire_traced (hse : s.msrSe = true) {v w : State} (hv : v.msr = s.untrapped.msr) (hpc : w.pc = v.pc)
    (hw : w = { v with msr := s.msr }) :
    ∃ u, retire v = .next u ∧ retire w = .next (({ u with msr := s.msr } : State).entered .trace u.pc 0) := by
  have hoff : v.msrSe = false := (congrArg (·.getLsbD 10) hv).trans s.untrapped_msrSe
  have hon : w.msrSe = true := by rw [hw]; exact hse
  rw [retire, hoff, retire, hpc]
  exact retireTo_traced hile hw hon _

/-- A branch, with MSR[SE] or MSR[BE] = 1. -/
theorem retireBranch_traced (htrace : s.msrSe = true ∨ s.msrBe = true) {v w : State} (hv : v.msr = s.untrapped.msr)
    (hw : w = { v with msr := s.msr }) {target : Word} :
    ∃ u, retireBranch target v = .next u ∧
      retireBranch target w = .next (({ u with msr := s.msr } : State).entered .trace u.pc 0) := by
  have hse : v.msrSe = false := (congrArg (·.getLsbD 10) hv).trans s.untrapped_msrSe
  have hbe : v.msrBe = false := (congrArg (·.getLsbD 9) hv).trans s.untrapped_msrBe
  have hon : (w.msrSe || w.msrBe) = true := by rw [hw]; exact Bool.or_eq_true_iff.2 htrace
  rw [retireBranch, hse, hbe, retireBranch]
  exact retireTo_traced hile hw hon target

/-- A branch that only writes LR. -/
theorem retireBranch_linked_traced (htrace : s.msrSe = true ∨ s.msrBe = true) (target : Word) (lk : Bool) :
    ∃ u, retireBranch target { s.untrapped with lr := s.lrAfter lk } = .next u ∧
      retireBranch target { s with lr := s.lrAfter lk } =
        .next (({ u with msr := s.msr } : State).entered .trace u.pc 0) :=
  retireBranch_traced hile htrace (v := { s.untrapped with lr := s.lrAfter lk }) rfl rfl

/-- A branch that counts. -/
theorem State.branchIf_traced (htrace : s.msrSe = true ∨ s.msrBe = true) (bo : BitVec 5) (bi : CrBit) (target : Word)
    (lk : Bool) :
    ∃ u, s.untrapped.branchIf bo bi target lk = .next u ∧
      s.branchIf bo bi target lk = .next (({ u with msr := s.msr } : State).entered .trace u.pc 0) :=
  retireBranch_traced hile htrace (v := { s.untrapped with ctr := s.ctrAfter bo, lr := s.lrAfter lk }) rfl rfl

end

/-! ### Absent addresses (R100, R777) -/

/-- Some of the `n` bytes from a physical address lie nowhere. -/
theorem State.absent_mem_kindsOf {s : State} {pa : Word} {n : Nat}
    (h : ∃ j < n, s.params.kindAt (byteAt pa j) = .absent) : RegionKind.absent ∈ s.kindsOf pa n := by
  obtain ⟨j, hj, habsent⟩ := h
  exact List.mem_map.2 ⟨j, List.mem_range.2 hj, habsent⟩

theorem machineCheck_of_me {s : State} (hme : s.msrMe = true) (hile : s.msrIle = false) (info : Word) :
    machineCheck info s = .next (s.drawn.entered .machineCheck (s.free.setWidth 32) info) :=
  (if_pos hme).trans (takeException_of_ile hile)

theorem machineCheck_halts {s : State} (hme : s.msrMe = false) (info : Word) :
    machineCheck info s = .next { s with mode := .checkstop } := if_neg (by simp [hme])

/-- An instruction or a fetch that ends in the machine check of an absent address. -/
theorem absentAddress_ends {s : State} {o : Out} (h : o = absentAddress s) :
    (s.msrMe = true → s.msrIle = false → ∃ ra, o = .next (s.drawn.entered .machineCheck ra 0x00040000)) ∧
      (s.msrMe = false → o = .next { s with mode := .checkstop }) :=
  ⟨fun hme hile => ⟨_, h.trans (machineCheck_of_me hme hile _)⟩, fun hme => h.trans (machineCheck_halts hme _)⟩

/-- In real mode data addresses are physical ones (R110). -/
theorem State.translate_data_real {s : State} {k : Access} (hk : k ≠ .fetch) (hdr : s.msrDr = false) (ea : Word) :
    s.translate k ea = .mapped (realMode k ea) :=
  State.translate_real ((if_neg hk).trans hdr) ea

section
variable {s : State} {k : Access} {ea : Word} {n : Nat} (hk : k ≠ .fetch) (hdr : s.msrDr = false) (hwatch : s.unwatched)
  (habsent : ∃ j < n, s.params.kindAt (byteAt ea j) = .absent) (hpart : ea.toNat % 4096 + n ≤ 4096)
include hdr hwatch habsent

include hk in
theorem State.checkPart_absent (al : Bool) : s.checkPart k ea n al = .stop (absentAddress s) := by
  have hregion : s.regionCheck k (realMode k ea) n al = .stop (absentAddress s) :=
    if_pos (State.absent_mem_kindsOf habsent)
  rw [State.checkPart, State.mapPart, State.dataCheck_mapped (State.translate_data_real hk hdr ea) hwatch,
    Res.bind_ok, hregion]
  rfl

include hpart

theorem State.load_absent (convert : BitVec 64 → Word) (rD : Reg) : s.load ea n convert rD = absentAddress s := by
  rw [State.load, State.memRead, accessParts_one hpart, State.readParts,
    State.checkPart_absent (by decide) hdr hwatch habsent]
  rfl

theorem State.store_absent (v : Word) : s.store ea n v = absentAddress s := by
  rw [State.store, State.memWrite, accessParts_one hpart, State.writeParts,
    State.checkPart_absent (by decide) hdr hwatch habsent]
  rfl

end

/-- A step whose word lies in part nowhere (R128). -/
theorem step_of_absent {s : State} (hready : s.ready) (hir : s.msrIr = false)
    (habsent : ∃ j < 4, s.params.kindAt (byteAt s.pc j) = .absent) : step s = afterTick (absentAddress s) := by
  have htranslate : s.translate .fetch s.pc = .mapped (realMode .fetch s.pc) :=
    State.translate_real (s := s) (k := .fetch) hir s.pc
  have hmem : RegionKind.absent ∈ s.kindsOf (realMode .fetch s.pc).pa 4 := State.absent_mem_kindsOf habsent
  rw [step_of_ready hready, State.fetch, htranslate]
  dsimp only
  rw [if_pos hmem]
  rfl

/-! ### Asynchronous interrupts (R790) -/

/-- At a boundary an interrupt is what the step does. -/
theorem step_of_interrupt {s : State} {o : Out} (h : s.atBoundary .running) (hint : s.interrupt = some o) :
    step s = afterTick o := by
  obtain ⟨hreset, hmode, hle, hhid4⟩ := h
  simp [step, State.cycle, State.boundary, hreset, hmode, hle, hhid4, hint]

/-- An interrupt taken from `u`, which is the state with its input dropped (R775). -/
theorem step_of_entry {s u : State} {e : Exception} {ra info : Word} (h : s.atBoundary .running)
    (hint : s.interrupt = some (takeException e ra info u)) (hile : u.msrIle = false) :
    step s = .next (u.entered e ra info).ticked := by
  rw [step_of_interrupt h hint, takeException_of_ile hile]
  rfl

/-- A machine check at a boundary is taken or halts the processor (R777). -/
theorem step_of_machineCheck {s u : State} {info : Word} (h : s.atBoundary .running)
    (hint : s.interrupt = some (machineCheck info u)) (hile : u.msrIle = false) :
    (u.msrMe = true → ∃ ra, step s = .next (u.drawn.entered .machineCheck ra info).ticked) ∧
      (u.msrMe = false → step s = .next ({ u with mode := .checkstop } : State).ticked) := by
  rw [step_of_interrupt h hint]
  exact ⟨fun hme => ⟨_, congrArg afterTick (machineCheck_of_me hme hile info)⟩,
    fun hme => congrArg afterTick (machineCheck_halts hme info)⟩

section
variable {s : State} (hmode : s.mode = .running)
include hmode

theorem State.interrupt_machineCheck {c : MachineCheckCause} (hcheck : s.lines.machineCheckIn = some c) :
    s.interrupt =
      some (machineCheck c.info { s with lines := { s.lines with machineCheckIn := none } }) := by
  rw [State.interrupt, hcheck, hmode]

variable (hcheck : s.lines.machineCheckIn = none)
include hcheck

theorem State.interrupt_softReset (hreset : s.lines.softReset = true) :
    s.interrupt =
      some (takeException .systemReset s.pc 0 { s with lines := { s.lines with softReset := false } }) := by
  rw [State.interrupt, hcheck, hmode]
  exact if_pos hreset

variable (hreset : s.lines.softReset = false)
include hreset

/-- With no machine check and no soft reset, what MSR[EE] lets through decides. -/
theorem State.interrupt_maskable :
    s.interrupt =
      if s.msrEe && s.lines.extIrq then some (takeException .externalInterrupt s.pc 0 s)
      else if s.msrEe && s.decPending then some (takeException .decrementer s.pc 0 { s with decPending := false })
      else none := by
  have hrunning : ({ s with mode := .running } : State) = s := by rw [← hmode]
  have hwakes : s.decWakes = true := by rw [State.decWakes, hmode]; rfl
  rw [State.interrupt, hcheck, hrunning, hwakes, Bool.and_true]
  exact if_neg (by simp [hreset])

end

end Sys2Proof.Machine

namespace Sys2Proof.Exceptions

open Sys2Proof.Machine

/-- Settles O14: the untraced run and the traced one differ in MSR alone until they end. -/
theorem traceException : Obligations.TraceException := by
  rintro i s hile (⟨hi, hse⟩ | ⟨hi, htrace⟩)
  case inl =>
    obtain ⟨rD, rA, rB, oe, rc, rfl⟩ | ⟨f, rA, rB, rfl⟩ | ⟨rD, rfl⟩ | rfl := hi
    case inl => cases oe <;> cases rc <;> exact retire_traced hile hse rfl rfl rfl
    all_goals exact retire_traced hile hse rfl rfl rfl
  case inr =>
    obtain ⟨li, aa, lk, rfl⟩ | ⟨bo, bi, bd, aa, lk, rfl⟩ | ⟨bo, bi, lk, rfl⟩ | ⟨bo, bi, lk, rfl⟩ := hi
    · exact retireBranch_linked_traced hile htrace (s.branchTarget aa (liExt li)) lk
    · exact State.branchIf_traced hile htrace bo bi (s.branchTarget aa (bdExt bd)) lk
    · exact State.branchIf_traced hile htrace bo bi (wordTarget s.lr) lk
    · exact retireBranch_linked_traced hile htrace (if s.condOk bo bi then wordTarget s.ctr else s.pc + 4) lk

/-- Settles O18: each access is one part, whose check ends in the machine check of the absent address. -/
theorem machineCheck : Obligations.MachineCheck := by
  refine ⟨fun s rD rA d hdr hwatch => ⟨fun habsent => ?bytes, fun habsent hpage => ?words⟩,
    fun s hready hir habsent => ?fetch, fun s hmode hreset => ?halted⟩
  case bytes =>
    have hpart : (s.eaD rA d).toNat % 4096 + 1 ≤ 4096 := Nat.mod_lt _ (by decide)
    exact ⟨absentAddress_ends (State.load_absent hdr hwatch habsent hpart ..),
      absentAddress_ends (State.store_absent hdr hwatch habsent hpart ..)⟩
  case words =>
    have hpart : (s.eaD rA d).toNat % 4096 + 4 ≤ 4096 := Nat.add_le_add_right hpage 4
    exact ⟨absentAddress_ends (State.load_absent hdr hwatch habsent hpart ..),
      absentAddress_ends (State.store_absent hdr hwatch habsent hpart ..)⟩
  case fetch =>
    obtain ⟨htaken, hhalts⟩ := absentAddress_ends (s := s) rfl
    rw [step_of_absent hready hir habsent]
    refine ⟨fun hme hile => ?_, fun hme => congrArg afterTick (hhalts hme)⟩
    obtain ⟨ra, hra⟩ := htaken hme hile
    exact ⟨ra, congrArg afterTick hra⟩
  case halted => rw [step, State.cycle, hreset, hmode]; rfl

/-- Settles O19: which interrupt is taken, and what its entry leaves once its line is dropped. -/
theorem interruptPriority : Obligations.InterruptPriority := by
  intro s hbound hile
  have ⟨_, hmode, _, _⟩ := hbound
  refine ⟨fun c hc hcheck => ?machineCheck, fun hcheck hreset => ?softReset, fun hcheck hreset hee hext => ?external,
    fun hcheck hreset hee hext hdec => ?decrementer, fun hcheck hreset hnone => ?none⟩
  case machineCheck =>
    have hinfo : c.1.info = c.2 := by
      clear hcheck
      revert c
      decide
    have hint := State.interrupt_machineCheck hmode hcheck
    rw [hinfo] at hint
    obtain ⟨htaken, hhalts⟩ := step_of_machineCheck hbound hint hile
    exact ⟨htaken, fun hme => ⟨_, hhalts hme, rfl, rfl⟩⟩
  case softReset => exact step_of_entry hbound (State.interrupt_softReset hmode hcheck hreset) hile
  all_goals have hint := State.interrupt_maskable hmode hcheck hreset
  case external =>
    rw [hee, hext] at hint
    exact step_of_entry hbound hint hile
  case decrementer =>
    rw [hee, hext, hdec] at hint
    exact step_of_entry hbound hint hile
  case none =>
    obtain hee | ⟨hext, hdec⟩ := hnone
    · rw [hint, hee]
      rfl
    · rw [hint, hext, hdec, Bool.and_false]
      rfl

end Sys2Proof.Exceptions
end

section
/-! PROOFS. The family 49_supplement_unlisted.md: external control and `dcbz_l` (R746, R747, R749). -/

namespace Sys2Proof.Machine

section
variable {s : State} {i : Instr} {k : Access} {ea : Word}

/-- An external control access without its enable (R746, R747, R778). -/
theorem State.externalControl_disabled (hear : (s.acting false .ear).getLsbD 31 = false) (hile : s.msrIle = false)
    {cause : Word} (hcause : 0x00100000 ||| storeBit k = cause) :
    s.externalControl i k ea = .next (({ s with dar := ea, dsisr := cause } : State).entered .dsi s.pc 0) := by
  rw [State.externalControl, hear, hcause]
  exact raiseDsi_of_ile hile ea cause

variable (hear : (s.acting false .ear).getLsbD 31 = true)
include hear

/-- With it the address must be a word's (R780). -/
theorem State.externalControl_misaligned (hile : s.msrIle = false) (hop : opcd (encode i) = 31)
    (hea : ea.toNat % 4 ≠ 0) :
    ∃ t, s.externalControl i k ea = .next t ∧ AlignmentRaised s t i true false ea := by
  rw [State.externalControl, hear]
  exact wordAligned_raised false hile hop rfl hea

/-- An access that passes its checks meets no device. -/
theorem State.externalControl_refused (hk : k ≠ .fetch) (hea : ea.toNat % 4 = 0) (hdr : s.msrDr = false)
    (hwatch : s.unwatched) : s.externalControl i k ea = .refused .externalControl := by
  rw [State.externalControl, hear, State.wordAligned, alignedTo_of_mod hea,
    State.dataCheck_mapped (State.translate_data_real hk hdr ea) hwatch]
  rfl

end

end Sys2Proof.Machine

namespace Sys2Proof.Supplement

open Sys2Proof.Machine Sys2Proof.Laws

/-- Settles O36: the enable is looked at first, then the alignment, then the checks of the access. -/
theorem externalControl : Obligations.ExternalControl := by
  intro r rA rB s ea dsi
  simp only [List.forall_mem_cons, List.not_mem_nil, false_implies, implies_true, and_true]
  refine ⟨fun hear hile => ?disabled, fun hear hea hile => ?misaligned, fun hear hea hdr hwatch => ?refused,
    fun hpse hlce => ?dcbzL⟩
  case disabled =>
    exact ⟨State.externalControl_disabled hear hile (by decide), State.externalControl_disabled hear hile (by decide)⟩
  case misaligned =>
    exact ⟨State.externalControl_misaligned hear hile (PrimaryOpcode.eciwx ..) hea,
      State.externalControl_misaligned hear hile (PrimaryOpcode.ecowx ..) hea⟩
  case refused =>
    exact ⟨State.externalControl_refused hear (by decide) hea hdr hwatch,
      State.externalControl_refused hear (by decide) hea hdr hwatch⟩
  case dcbzL =>
    rw [exec_dcbz_l, execDcbzL, hpse, hlce]
    rfl

end Sys2Proof.Supplement
end

section
/-! PROOFS. The family 48_paired_single.md: the paired moves, merges and select (R684 to R686, R693, R696, R701 to
R704). -/

namespace Sys2Proof.Machine

/-- Single-representable operands leave nothing open (R660). -/
theorem any_not_single_eq_false {reads : List Lane} (h : ∀ v ∈ reads, singleRepresentable v = true) :
    reads.any (fun v => !singleRepresentable v) = false :=
  List.any_eq_false.2 fun v hv => by simp [h v hv]

section
variable (s : State) (frD : FReg) (rc : Bool) (r0 r1 : Lane)

theorem State.writePair_closed (draw0 draw1 : BitVec 64) :
    s.writePair frD r0 r1 false false draw0 draw1 = (s.setF0 frD r0).setF1 frD r1 := rfl

/-- Both lanes written complete the move and change nothing else. -/
theorem setPair_moveEnds (hse : s.msrSe = false) :
    ∃ t, (((s.drawnBy 2).setF0 frD r0).setF1 frD r1).finishMove rc = .next t ∧ FpMoveEnds s t frD rc r0 r1 := by
  have heq := (((s.drawnBy 2).setF0 frD r0).setF1 frD r1).recordCr1If_eq rc
  refine ⟨_, State.finishMove_untraced (s := ((s.drawnBy 2).setF0 frD r0).setF1 frD r1) hse rc, ?_, ?_, ?_,
    fpEnds_recorded rc rfl (fun r hr => ⟨State.f0_setF0_other _ _ hr, State.f1_setF1_other _ _ hr⟩) rfl⟩
  · rw [heq]
    exact State.f0_setF0_same ..
  · rw [heq]
    exact State.f1_setF1_same ..
  · exact State.recordCr1If_fpscr ..

variable {s} in
/-- A paired move from single-representable lanes. -/
theorem movePair_ends (hpse : s.pse = true) (hfp : s.msrFp = true) (hse : s.msrSe = false) {from0 from1 : List Lane}
    (h0 : ∀ v ∈ from0, singleRepresentable v = true) (h1 : ∀ v ∈ from1, singleRepresentable v = true) :
    ∃ t, s.movePair frD rc r0 r1 from0 from1 = .next t ∧ FpMoveEnds s t frD rc r0 r1 := by
  rw [State.movePair, withPaired_of_on hpse hfp, any_not_single_eq_false h0, any_not_single_eq_false h1,
    State.writePair_closed]
  exact setPair_moveEnds s frD rc r0 r1 hse

end

end Sys2Proof.Machine

namespace Sys2Proof.PairedSingle

open Sys2Proof.Machine

/-- Settles O46: each instruction is one paired move; the signs by their bits, the choice by what a number holds. -/
theorem pairedMoves : Obligations.PairedMoves := by
  intro d a b c rc s hpse hfp hse ha hb hc A0 A1 B0 B1 sel gives
  have none_read : ∀ v ∈ ([] : List Lane), singleRepresentable v = true := List.forall_mem_nil _
  have read_a : ∀ v ∈ [s.f0 a], singleRepresentable v = true := List.forall_mem_singleton.2 ha
  have read_b : ∀ v ∈ [s.f0 b], singleRepresentable v = true := List.forall_mem_singleton.2 hb
  have moves := fun r0 r1 {from0 from1} => movePair_ends d rc r0 r1 hpse hfp hse (from0 := from0) (from1 := from1)
  refine ⟨moves _ _ read_b none_read, moves _ _ read_b none_read, ?_, ?_, moves _ _ read_a read_b,
    moves _ _ read_a none_read, moves _ _ none_read read_b, moves _ _ none_read none_read, ?_⟩
  · rw [← withSign_false, ← withSign_false]
    exact moves _ _ read_b none_read
  · rw [← withSign_true, ← withSign_true]
    exact moves _ _ read_b none_read
  · have hselected : singleRepresentable (if selectsFirst (s.f0 a) then s.f0 c else s.f0 b) = true := by
      split
      · exact hc
      · exact hb
    simp only [gives, sel, ← selectsFirst_iff]
    exact moves _ _ (List.forall_mem_cons.2 ⟨ha, List.forall_mem_singleton.2 hselected⟩) none_read

end Sys2Proof.PairedSingle
end

section
/-! PROOFS. The family 48_paired_single.md: paired arithmetic and estimates (R660 to R663, R680 to R683, R687 to R692,
R694, R695, R697 to R700). -/

namespace Sys2Proof.Machine

/-! ### FPSCR after both lanes -/

/-- FPSCR after an operation whose outcome is `o`, with the exception bits that another lane raised too. -/
theorem State.fpStatus_fpscrAfter_raised {s : State} {o : FpOut} (h : o.Coherent s.fpscr) (raised : Word) :
    FpStatus s.fpscr (s.fpscrAfter o raised false) o raised := by
  have hclass : (if o.writes then some o.fprf else none).getD (s.fpscr.extractLsb' 12 5) =
      if o.writes then o.fprf else s.fpscr.extractLsb' 12 5 := by split <;> rfl
  refine ⟨rounded_raised .., (rounded_class ..).trans hclass, rounded_fi .., fun hopen => ?_, fun hw => ?_⟩
  · exact (rounded_fr ..).trans (if_neg (by simp [hopen]))
  · obtain ⟨hfr, hfi, hopen⟩ := h.rounding hw
    exact extractLsb'_frFi ((rounded_fi ..).trans hfi) ((rounded_fr ..).trans ((if_neg (by simp [hopen])).trans hfr))

/-- Of the outcome of an estimate its raised bits do not matter: FPSCR takes those it is given. -/
theorem State.fpscrAfterEstimate_withRaised (s : State) (o : FpOut) (raised : Word) (classOpen fixed : Bool) :
    s.fpscrAfterEstimate o raised classOpen fixed =
      s.fpscrAfterEstimate { o with raised := raised } raised classOpen fixed := by cases fixed <;> rfl

/-- Bits are suppressed together where one of them is. -/
theorem suppressedBy_or (v a b : Word) : suppressedBy v (a ||| b) = (suppressedBy v a || suppressedBy v b) := by
  have hany : ∀ m, decide ((a ||| b) &&& m ≠ 0) = (decide (a &&& m ≠ 0) || decide (b &&& m ≠ 0)) := fun m => by
    rw [BitVec.and_or_distrib_right, ← Bool.decide_or, decide_eq_decide]
    exact (not_congr BitVec.or_eq_zero_iff).trans not_and_or
  rw [suppressedBy, suppressedBy, suppressedBy, hany, hany, Bool.and_or_distrib_left, Bool.and_or_distrib_left]
  ac_rfl

/-- What paired arithmetic makes of FPSCR: computed, with the control bits and the exception bits but XX kept. -/
structure PairAfter (s : State) (after : FpOut → Word → Bool → Word) : Prop where
  computed : ∀ o r c, ∃ v, after o r c = summarize v
  control : ∀ o r c, after o r c &&& 0xFF = s.fpscr &&& 0xFF
  kept : ∀ o r c, s.fpscr &&& 0x9DF80700 &&& ~~~(after o r c) = 0

theorem State.fpscrAfter_pairAfter (s : State) : PairAfter s s.fpscrAfter where
  computed := s.fpscrAfter_eq
  control _ _ _ := rounded_control ..
  kept _ _ _ := not_cleared_mono (by decide) (rounded_kept ..)

theorem State.fpscrAfterEstimate_pairAfter (s : State) (fixed : Bool) :
    PairAfter s (fun o r c => s.fpscrAfterEstimate o r c fixed) where
  computed _ _ _ := s.fpscrAfterEstimate_eq ..
  control o r c := by
    rw [s.fpscrAfterEstimate_withRaised]
    exact s.fpscrAfterEstimate_control { o with raised := r } c fixed
  kept o r c := by
    rw [s.fpscrAfterEstimate_withRaised]
    exact s.fpscrAfterEstimate_kept { o with raised := r } c fixed

/-! ### The end of paired arithmetic -/

/-- `t` is `s` after two lanes were computed: both are written or both stay (R663), and `f` is left in FPSCR. -/
structure PairEnds (s t : State) (frD : FReg) (rc : Bool) (op0 op1 : LaneOp) (f : Word) : Prop where
  ends : FpEnds s t frD rc
  fpscr : t.fpscr = f
  suppressed : (op0.out.writes && op1.out.writes) = false → t.f0 frD = s.f0 frD ∧ t.f1 frD = s.f1 frD
  written : (op0.out.writes && op1.out.writes) = true → op0.opened = false → op1.opened = false →
    t.f0 frD = op0.out.result ∧ t.f1 frD = op1.out.result

/-- The instruction completes and changes only its target, FPSCR and CR1, as every paired arithmetic instruction does. -/
def PairCompletes (s : State) (frD : FReg) (rc : Bool) (o : Out) : Prop :=
  ∃ t, o = .next t ∧ FpEnds s t frD rc ∧ t.fpscrComputed ∧ s.fpscr &&& 0x9DF80700 &&& ~~~t.fpscr = 0

theorem State.laneInMode_ieee {s : State} (hni : niOf s.fpscr = false) (r : BitVec 64) (op : LaneOp) :
    s.laneInMode r op = op.out := by
  rw [State.laneInMode, State.inMode_ieee hni, ite_self]

theorem State.laneOpen_ieee {s : State} (hni : niOf s.fpscr = false) (op : LaneOp) : s.laneOpen op = op.opened := by
  rw [State.laneOpen, hni, Bool.not_false, Bool.or_true, Bool.and_true]

section
variable {s : State} (hfe : s.msrFe = false) (hse : s.msrSe = false) (hni : niOf s.fpscr = false) (frD : FReg)
  (rc : Bool) (op0 op1 : LaneOp) (mainIs1 : Bool) {after : FpOut → Word → Bool → Word} (hafter : PairAfter s after)
include hfe hse hni hafter

/-- Paired arithmetic completes, with FPRF, FR and FI of one lane and the exception bits of both (R663). -/
theorem arithPair_ends : ∃ t, s.arithPair frD rc op0 op1 mainIs1 after = .next t ∧
    PairEnds s t frD rc op0 op1 (after (if mainIs1 then op1.out else op0.out) (op0.out.raised ||| op1.out.raised)
      (op0.opened || op1.opened)) := by
  unfold State.arithPair
  simp only [State.laneInMode_ieee hni, State.laneOpen_ieee hni]
  generalize hf : after (if mainIs1 then op1.out else op0.out) (op0.out.raised ||| op1.out.raised)
    (op0.opened || op1.opened) = f
  have hctl : f &&& 0xFF = s.fpscr &&& 0xFF := hf ▸ hafter.control ..
  cases hw : op0.out.writes && op1.out.writes with
  | false =>
    obtain ⟨t, ht, hends⟩ := targetEnds_of_frame hfe hse frD rc (u := { s.drawnBy 3 with fpscr := f }) rfl
      (fun _ _ => ⟨rfl, rfl⟩) hctl
    exact ⟨t, ht, hends.ends, hends.fpscr, fun _ => ⟨hends.lane0, hends.lane1⟩,
      fun hno => by cases hw.symm.trans hno⟩
  | true =>
    obtain ⟨t, ht, hends⟩ := targetEnds_of_frame hfe hse frD rc
      (u := ({ s.drawnBy 3 with fpscr := f } : State).writePair frD op0.out.result op1.out.result op0.opened
        op1.opened (s.freeAt 1) (s.freeAt 2)) rfl
      (fun q hq => ⟨State.f0_setF0_other _ _ hq, State.f1_setF1_other _ _ hq⟩) hctl
    refine ⟨t, ht, hends.ends, hends.fpscr, fun hno => (by cases hw.symm.trans hno), fun _ h0 h1 => ⟨?_, ?_⟩⟩
    · exact hends.lane0.trans ((State.f0_setF0_same ..).trans (if_neg (by simp [h0])))
    · exact hends.lane1.trans ((State.f1_setF1_same ..).trans (if_neg (by simp [h1])))

theorem arithPair_completes : PairCompletes s frD rc (s.arithPair frD rc op0 op1 mainIs1 after) := by
  obtain ⟨t, ht, hends⟩ := arithPair_ends hfe hse hni frD rc op0 op1 mainIs1 hafter
  obtain ⟨v, hv⟩ := hafter.computed (if mainIs1 then op1.out else op0.out) (op0.out.raised ||| op1.out.raised)
    (op0.opened || op1.opened)
  refine ⟨t, ht, hends.ends, State.fpscrComputed_of_summarize (hends.fpscr.trans hv), ?_⟩
  rw [hends.fpscr]
  exact hafter.kept ..

end

section
variable {s : State} (hpse : s.pse = true) (hfp : s.msrFp = true) (hfe : s.msrFe = false) (hse : s.msrSe = false)
  (hni : niOf s.fpscr = false)
include hpse hfp hfe hse hni

/-- Every paired arithmetic instruction completes and changes nothing else. -/
theorem pairedArithmetic_completes {i : Instr} {frD : FReg} {rc : Bool} (hi : pairedArithmetic i = some (frD, rc)) :
    PairCompletes s frD rc (exec i s) := by
  have gated := fun {run} (h : PairCompletes s frD rc run) =>
    show PairCompletes s frD rc (withPaired s run) from (withPaired_of_on hpse hfp).symm ▸ h
  have lanes := fun op0 op1 mainIs1 =>
    gated (arithPair_completes hfe hse hni frD rc op0 op1 mainIs1 s.fpscrAfter_pairAfter)
  have estimates := fun op0 op1 fixed =>
    gated (arithPair_completes hfe hse hni frD rc op0 op1 false (s.fpscrAfterEstimate_pairAfter fixed))
  cases i with
  | ps_add | ps_sub | ps_mul | ps_div | ps_madd | ps_madds0 | ps_madds1 | ps_msub | ps_nmadd | ps_nmsub | ps_sum0
  | ps_sum1 | ps_muls0 | ps_muls1 =>
    obtain ⟨⟩ := hi
    exact lanes ..
  | ps_res | ps_rsqrte =>
    obtain ⟨⟩ := hi
    exact estimates ..
  | _ => cases hi

end

/-! ### The outcomes of the lanes -/

/-- The two lanes of the target, which are both written or both stay (R663). -/
def PairTarget (s t : State) (d : FReg) (written : Bool) (r0 r1 : Lane) : Prop :=
  if written then t.f0 d = r0 ∧ t.f1 d = r1 else t.f0 d = s.f0 d ∧ t.f1 d = s.f1 d

/-- The instruction completes with these outcomes of its lanes, and lane 0's status. -/
def PairGives (s : State) (d : FReg) (i : Instr) (o0 o1 : FpOut) : Prop :=
  ∃ t, exec i s = .next t ∧ PairTarget s t d (o0.writes && o1.writes) o0.result o1.result ∧
    (o0.writes && o1.writes) = !suppressedBy s.fpscr (o0.raised ||| o1.raised) ∧
    FpStatus s.fpscr t.fpscr o0 (o0.raised ||| o1.raised)

/-- The instruction completes with a sum's outcome and status beside a lane that is copied. -/
def SumGives (s : State) (d : FReg) (i : Instr) (sum : FpOut) (r0 r1 : Lane) : Prop :=
  ∃ t, exec i s = .next t ∧ PairTarget s t d sum.writes r0 r1 ∧ sum.writes = !suppressedBy s.fpscr sum.raised ∧
    FpStatus s.fpscr t.fpscr sum sum.raised

theorem PairEnds.target {s t : State} {d : FReg} {rc : Bool} {op0 op1 : LaneOp} {f : Word}
    (h : PairEnds s t d rc op0 op1 f) (h0 : op0.opened = false) (h1 : op1.opened = false) :
    PairTarget s t d (op0.out.writes && op1.out.writes) op0.out.result op1.out.result := by
  unfold PairTarget
  split
  case isTrue hw => exact h.written hw h0 h1
  case isFalse hw => exact h.suppressed (Bool.eq_false_iff.2 hw)

/-- A copied lane raises nothing and is always written. -/
theorem copyLane_coherent (v : Word) (r : Lane) (opened : Bool) : (copyLane r opened).out.Coherent v :=
  .exact r 0 (suppressedBy_of_none (by decide))

/-- Both lanes are written unless one of them raises an enabled invalid operation or zero divide. -/
theorem writes_and_writes {v : Word} {o0 o1 : FpOut} (h0 : o0.Coherent v) (h1 : o1.Coherent v) :
    (o0.writes && o1.writes) = !suppressedBy v (o0.raised ||| o1.raised) := by
  rw [h0.writes, h1.writes, suppressedBy_or, Bool.not_or]

section
variable {s : State} (hpse : s.pse = true) (hfp : s.msrFp = true) (hfe : s.msrFe = false) (hse : s.msrSe = false)
  (hni : niOf s.fpscr = false) (d : FReg) (rc : Bool) {i : Instr}
include hpse hfp hfe hse hni

/-- Paired arithmetic with no open lane and coherent outcomes. -/
theorem arithPair_closed_ends {op0 op1 : LaneOp} (mainIs1 : Bool) (h0 : op0.opened = false) (h1 : op1.opened = false)
    (hcoh0 : op0.out.Coherent s.fpscr) (hcoh1 : op1.out.Coherent s.fpscr) :
    ∃ t, withPaired s (s.arithPair d rc op0 op1 mainIs1 s.fpscrAfter) = .next t ∧
      PairTarget s t d (op0.out.writes && op1.out.writes) op0.out.result op1.out.result ∧
      FpStatus s.fpscr t.fpscr (if mainIs1 then op1.out else op0.out) (op0.out.raised ||| op1.out.raised) := by
  obtain ⟨t, ht, hends⟩ := arithPair_ends hfe hse hni d rc op0 op1 mainIs1 s.fpscrAfter_pairAfter
  have hmain : (if mainIs1 then op1.out else op0.out).Coherent s.fpscr := by
    split
    · exact hcoh1
    · exact hcoh0
  refine ⟨t, (withPaired_of_on hpse hfp).trans ht, hends.target h0 h1, ?_⟩
  rw [hends.fpscr, h0, h1]
  exact State.fpStatus_fpscrAfter_raised hmain _

/-- An instruction that computes both lanes from single-representable operands. -/
theorem pairGives_of_lanes {o0 o1 : FpOut} (hcoh0 : o0.Coherent s.fpscr) (hcoh1 : o1.Coherent s.fpscr)
    {reads0 reads1 : List Lane} (hreads0 : ∀ v ∈ reads0, singleRepresentable v = true)
    (hreads1 : ∀ v ∈ reads1, singleRepresentable v = true)
    (hi : exec i s = s.arithLanes d rc (laneOp reads0 o0) (laneOp reads1 o1)) : PairGives s d i o0 o1 := by
  obtain ⟨t, ht, htarget, hstatus⟩ := arithPair_closed_ends hpse hfp hfe hse hni d rc (op0 := laneOp reads0 o0)
    (op1 := laneOp reads1 o1) false (any_not_single_eq_false hreads0) (any_not_single_eq_false hreads1) hcoh0 hcoh1
  exact ⟨t, hi.trans ht, htarget, writes_and_writes hcoh0 hcoh1, hstatus⟩

/-- The sum in lane 0 (R697). -/
theorem sumGives_sum0 {sum : FpOut} (hcoh : sum.Coherent s.fpscr) {reads : List Lane} {r : Lane}
    (hreads : ∀ v ∈ reads, singleRepresentable v = true)
    (hi : exec i s = withPaired s (s.arithPair d rc (laneOp reads sum) (copyLane r false) false s.fpscrAfter)) :
    SumGives s d i sum sum.result r := by
  obtain ⟨t, ht, htarget, hstatus⟩ := arithPair_closed_ends hpse hfp hfe hse hni d rc (op0 := laneOp reads sum)
    (op1 := copyLane r false) false (any_not_single_eq_false hreads) rfl hcoh (copyLane_coherent ..)
  have hwrites : (sum.writes && (copyLane r false).out.writes) = sum.writes := Bool.and_true _
  have hraised : sum.raised ||| (copyLane r false).out.raised = sum.raised := BitVec.or_zero
  exact ⟨t, hi.trans ht, hwrites ▸ htarget, hcoh.writes, hraised ▸ hstatus⟩

/-- The sum in lane 1 (R698). -/
theorem sumGives_sum1 {sum : FpOut} (hcoh : sum.Coherent s.fpscr) {reads : List Lane} {r : Lane} {opened : Bool}
    (hreads : ∀ v ∈ reads, singleRepresentable v = true) (hopened : opened = false)
    (hi : exec i s = withPaired s (s.arithPair d rc (copyLane r opened) (laneOp reads sum) true s.fpscrAfter)) :
    SumGives s d i sum r sum.result := by
  obtain ⟨t, ht, htarget, hstatus⟩ := arithPair_closed_ends hpse hfp hfe hse hni d rc (op0 := copyLane r opened)
    (op1 := laneOp reads sum) true hopened (any_not_single_eq_false hreads) (copyLane_coherent ..) hcoh
  have hwrites : ((copyLane r opened).out.writes && sum.writes) = sum.writes := Bool.true_and _
  have hraised : (copyLane r opened).out.raised ||| sum.raised = sum.raised := BitVec.zero_or
  exact ⟨t, hi.trans ht, hwrites ▸ htarget, hcoh.writes, hraised ▸ hstatus⟩

end

/-! ### Estimates -/

/-- The class of a special result does not depend on the precision: it is no number but zero. -/
theorem classOf_estimateSpecial {root : Bool} {x : Lane} {f : Lane × Word} (h : estimateSpecial root x = some f) :
    classOf double f.1 = classOf single f.1 := by
  unfold estimateSpecial at h
  cases hu : unpack x with
  | zero neg =>
    rw [hu] at h
    obtain ⟨⟩ := h
    rw [classOf, classOf, unpack_infinity]
  | inf neg =>
    rw [hu] at h
    obtain ⟨⟩ := h
    split
    · decide
    · rw [classOf, classOf, unpack_layout_zero]
  | finite neg m e =>
    rw [hu] at h
    obtain ⟨-, h⟩ := Option.ite_none_right_eq_some.1 h
    obtain ⟨⟩ := h
    decide
  | nan =>
    rw [hu] at h
    obtain ⟨⟩ := h
    rw [classOf, classOf, unpack_quiet ((isNan_iff x).2 hu)]

/-- A lane of an estimate has the special result where there is one, and is written where there is none. -/
structure Estimate.Describes (fpscr : Word) (root : Bool) (x : Lane) (e : Estimate) : Prop where
  fixed : ∀ f, estimateSpecial root x = some f → e.Fixed fpscr f.1 f.2
  free : estimateSpecial root x = none → e.out.writes = true

/-- The lane raises an exception that is enabled, so neither lane is written. -/
def estimateStops (fpscr : Word) (root : Bool) (x : Lane) : Bool :=
  (estimateSpecial root x).any fun e => suppressedBy fpscr e.2

theorem Estimate.Describes.writes {fpscr : Word} {root : Bool} {x : Lane} {e : Estimate}
    (h : e.Describes fpscr root x) : e.out.writes = !estimateStops fpscr root x := by
  unfold estimateStops
  cases hx : estimateSpecial root x with
  | none => exact h.free hx
  | some f => exact (h.fixed f hx).writes

theorem Estimate.Fixed.describes {fpscr : Word} {root : Bool} {x r : Lane} {e : Estimate} {raised : Word}
    (h : e.Fixed fpscr r raised) (hx : estimateSpecial root x = some (r, raised)) : e.Describes fpscr root x where
  fixed f hf := by
    obtain ⟨⟩ := hx.symm.trans hf
    exact h
  free hno := by cases hx.symm.trans hno

theorem Estimate.Describes.of_writes {fpscr : Word} {root : Bool} {x : Lane} {e : Estimate}
    (hx : estimateSpecial root x = none) (hw : e.out.writes = true) : e.Describes fpscr root x where
  fixed f hf := by cases hx.symm.trans hf
  free _ := hw

theorem fpReciprocal_describes (fpscr : Word) (x : Lane) (draw : BitVec 64) :
    (fpReciprocal fpscr x draw).Describes fpscr false x := by
  cases hu : unpack x with
  | zero neg => exact (fpReciprocal_zero fpscr draw hu).describes (by rw [estimateSpecial, hu])
  | inf neg => exact (fpReciprocal_inf fpscr draw hu).describes (by rw [estimateSpecial, hu]; rfl)
  | nan => exact (fpReciprocal_nan fpscr draw ((isNan_iff x).2 hu)).describes (by rw [estimateSpecial, hu])
  | finite neg m e =>
    have hnone : estimateSpecial false x = none := by rw [estimateSpecial, hu]; rfl
    exact .of_writes hnone (by rw [fpReciprocal, hu]; rfl)

/-- The precision of a root's estimate matters for positive numbers only. -/
theorem fpReciprocalSqrt_precision (p q : Precision) (fpscr : Word) {x : Lane} (estimate : Lane)
    (h : ∀ m e, unpack x ≠ .finite false m e) :
    fpReciprocalSqrt p fpscr x estimate = fpReciprocalSqrt q fpscr x estimate := by
  unfold fpReciprocalSqrt
  cases hu : unpack x with
  | zero | nan => rfl
  | inf neg => cases neg <;> rfl
  | finite neg m e => cases neg with
    | false => exact absurd hu (h m e)
    | true => rfl

theorem fpReciprocalSqrt_describes (fpscr : Word) (x estimate : Lane) :
    (fpReciprocalSqrt single fpscr x estimate).Describes fpscr true x := by
  have hdouble := fun h => fpReciprocalSqrt_precision single double fpscr (x := x) estimate h
  cases hu : unpack x with
  | zero neg =>
    rw [hdouble (by simp [hu])]
    exact (fpReciprocalSqrt_zero fpscr estimate hu).describes (by rw [estimateSpecial, hu])
  | nan =>
    rw [hdouble (by simp [hu])]
    exact (fpReciprocalSqrt_nan fpscr estimate ((isNan_iff x).2 hu)).describes (by rw [estimateSpecial, hu])
  | inf neg =>
    rw [hdouble (by simp [hu])]
    cases neg with
    | false => exact (fpReciprocalSqrt_inf fpscr estimate hu).describes (by rw [estimateSpecial, hu]; rfl)
    | true => exact (fpReciprocalSqrt_negative fpscr estimate (.inl hu)).describes (by rw [estimateSpecial, hu]; rfl)
  | finite neg m e => cases neg with
    | true =>
      rw [hdouble (by simp [hu])]
      exact (fpReciprocalSqrt_negative fpscr estimate (.inr ⟨m, e, hu⟩)).describes (by rw [estimateSpecial, hu]; rfl)
    | false =>
      have hnone : estimateSpecial true x = none := by rw [estimateSpecial, hu]; rfl
      exact .of_writes hnone (by rw [fpReciprocalSqrt, hu]; rfl)

/-- `t` is `s` after the estimates of two lanes that hold `x0` and `x1`. -/
def PairEstimated (s t : State) (d : FReg) (root : Bool) (x0 x1 : Lane) : Prop :=
  (estimateStops s.fpscr root x0 = true ∨ estimateStops s.fpscr root x1 = true →
    t.f0 d = s.f0 d ∧ t.f1 d = s.f1 d) ∧
  (estimateStops s.fpscr root x0 = true → t.fpscr.extractLsb' 12 5 = s.fpscr.extractLsb' 12 5) ∧
  (estimateStops s.fpscr root x0 = false → ∀ e, estimateSpecial root x0 = some e →
    t.fpscr.extractLsb' 12 5 = classOf single e.1) ∧
  (estimateStops s.fpscr root x0 = false → estimateStops s.fpscr root x1 = false →
    (∀ e, estimateSpecial root x0 = some e → t.f0 d = e.1) ∧ ∀ e, estimateSpecial root x1 = some e → t.f1 d = e.1) ∧
  ∀ e0 e1, estimateSpecial root x0 = some e0 → estimateSpecial root x1 = some e1 →
    t.fpscr &&& 0x1DF80700 = (s.fpscr ||| e0.2 ||| e1.2) &&& 0x1DF80700 ∧
    (e0.2 = zxBit → e1.2 = zxBit → t.fpscr.extractLsb' 17 2 = 0)

section
variable {s : State} {root : Bool} {x0 x1 : Lane} {e0 e1 : Estimate} (h0 : e0.Describes s.fpscr root x0)
  (h1 : e1.Describes s.fpscr root x1)
include h0 h1

/-- What the two lanes give, from what the instruction leaves. -/
theorem pairEstimated_of_pairEnds {t : State} {d : FReg} {rc : Bool} {op0 op1 : LaneOp} (hout0 : op0.out = e0.out)
    (hout1 : op1.out = e1.out) (hopen0 : op0.opened = false) (hopen1 : op1.opened = false)
    (h : PairEnds s t d rc op0 op1 (s.fpscrAfterEstimate e0.out (e0.out.raised ||| e1.out.raised) false
      (e0.zeroDivide && e1.zeroDivide))) : PairEstimated s t d root x0 x1 := by
  have hfpscr := h.fpscr
  rw [s.fpscrAfterEstimate_withRaised] at hfpscr
  have hclass := (congrArg (·.extractLsb' 12 5) hfpscr).trans (s.fpscrAfterEstimate_class ..)
  have hwrites : (op0.out.writes && op1.out.writes) =
      (!estimateStops s.fpscr root x0 && !estimateStops s.fpscr root x1) := by
    rw [hout0, hout1, h0.writes, h1.writes]
  refine ⟨fun hstops => h.suppressed ?_, fun hstop => ?_, fun hgoes f hf => ?_, fun hgoes0 hgoes1 => ?_,
    fun f0 f1 hf0 hf1 => ⟨?_, fun hz0 hz1 => ?_⟩⟩
  · obtain hstop | hstop := hstops
    · rw [hwrites, hstop]
      rfl
    · rw [hwrites, hstop, Bool.not_true, Bool.and_false]
  · exact hclass.trans (if_neg (by simp [h0.writes, hstop]))
  · have hw : e0.out.writes = true := by rw [h0.writes, hgoes]; rfl
    rw [← classOf_estimateSpecial hf, ← ((h0.fixed f hf).result hw).2]
    exact hclass.trans (if_pos hw)
  · have hw0 : e0.out.writes = true := by rw [h0.writes, hgoes0]; rfl
    have hw1 : e1.out.writes = true := by rw [h1.writes, hgoes1]; rfl
    obtain ⟨hlane0, hlane1⟩ := h.written (by rw [hwrites, hgoes0, hgoes1]; rfl) hopen0 hopen1
    rw [hlane0, hlane1, hout0, hout1]
    exact ⟨fun f hf => ((h0.fixed f hf).result hw0).1, fun f hf => ((h1.fixed f hf).result hw1).1⟩
  · rw [hfpscr, ← (h0.fixed f0 hf0).raised_eq, ← (h1.fixed f1 hf1).raised_eq, BitVec.or_assoc]
    exact s.fpscrAfterEstimate_exceptions ..
  · obtain ⟨hdivide0, hfrOpen, hfr, hfi⟩ := (h0.fixed f0 hf0).zero hz0
    obtain ⟨hdivide1, -⟩ := (h1.fixed f1 hf1).zero hz1
    rw [hfpscr, hdivide0, hdivide1]
    exact s.fpscrAfterEstimate_frFi { e0.out with raised := e0.out.raised ||| e1.out.raised } false hfrOpen hfr hfi

/-- A paired estimate of single-representable lanes. -/
theorem estimatePair_ends (hpse : s.pse = true) (hfp : s.msrFp = true) (hfe : s.msrFe = false) (hse : s.msrSe = false)
    (hni : niOf s.fpscr = false) (d b : FReg) (rc : Bool) (hb : singleRepresentable (s.f0 b) = true) :
    ∃ t, s.estimatePair d b rc e0 e1 = .next t ∧ PairEstimated s t d root x0 x1 := by
  have hopen0 : (estimateLane [s.f0 b] e0).opened = false := any_not_single_eq_false (List.forall_mem_singleton.2 hb)
  have hopen1 : (estimateLane [] e1).opened = false := rfl
  obtain ⟨t, ht, hends⟩ := arithPair_ends hfe hse hni d rc (estimateLane [s.f0 b] e0) (estimateLane [] e1) false
    (s.fpscrAfterEstimate_pairAfter (e0.zeroDivide && e1.zeroDivide && !niOf s.fpscr))
  refine ⟨t, (withPaired_of_on hpse hfp).trans ht, pairEstimated_of_pairEnds (rc := rc) h0 h1 rfl rfl hopen0 hopen1 ?_⟩
  rw [hopen0, hopen1, hni, Bool.not_false, Bool.and_true] at hends
  exact hends

end

end Sys2Proof.Machine

namespace Sys2Proof.PairedSingle

open Sys2Proof.Machine

/-- Settles O45: the first part by the one end that all 16 instructions share, the second by the outcomes of their
lanes. -/
theorem pairedArithmetic : Obligations.PairedArithmetic := by
  refine ⟨fun i s frD rc hi hpse hfp hfe hse hni => pairedArithmetic_completes hpse hfp hfe hse hni hi, ?_⟩
  intro d a b c rc s hpse hfp hfe hse hni hA hB hC
  have lanes := fun {i o0 o1} => pairGives_of_lanes hpse hfp hfe hse hni d rc (i := i) (o0 := o0) (o1 := o1)
  have none_read : ∀ v ∈ ([] : List Lane), singleRepresentable v = true := List.forall_mem_nil _
  have read_a : ∀ v ∈ [s.f0 a], singleRepresentable v = true := List.forall_mem_singleton.2 hA
  have read_c : ∀ v ∈ [s.f0 c], singleRepresentable v = true := List.forall_mem_singleton.2 hC
  have read_ab : ∀ v ∈ [s.f0 a, s.f0 b], singleRepresentable v = true := by simpa using ⟨hA, hB⟩
  have read_ac : ∀ v ∈ [s.f0 a, s.f0 c], singleRepresentable v = true := by simpa using ⟨hA, hC⟩
  have read_acb : ∀ v ∈ [s.f0 a, s.f0 c, s.f0 b], singleRepresentable v = true := by simpa using ⟨hA, hC, hB⟩
  have closed_c : (!singleRepresentable (s.f0 c)) = false := by rw [hC]; rfl
  have sum := fpAdd_coherent single s.fpscr
  have product := fpMul_coherent single s.fpscr
  have fused := fun x z y => fpMulAdd_coherent single s.fpscr x z y
  refine ⟨lanes (sum ..) (sum ..) read_ab none_read rfl,
    lanes (fpSub_coherent ..) (fpSub_coherent ..) read_ab none_read rfl,
    lanes (fpDiv_coherent ..) (fpDiv_coherent ..) read_ab none_read rfl,
    lanes (product ..) (product ..) read_ac none_read rfl, lanes (product ..) (product ..) read_ac read_c rfl,
    lanes (product ..) (product ..) read_a none_read rfl, lanes (fused ..) (fused ..) read_acb none_read rfl,
    lanes (fused ..) (fused ..) read_acb read_c rfl, lanes (fused ..) (fused ..) read_ab none_read rfl,
    lanes (fused ..) (fused ..) read_acb none_read rfl,
    lanes (fused ..).negated (fused ..).negated read_acb none_read rfl,
    lanes (fused ..).negated (fused ..).negated read_acb none_read rfl,
    sumGives_sum0 hpse hfp hfe hse hni d rc (sum ..) read_a rfl,
    sumGives_sum1 hpse hfp hfe hse hni d rc (sum ..) read_a closed_c rfl, fun root => ?estimates⟩
  case estimates =>
    cases root with
    | false => exact estimatePair_ends (fpReciprocal_describes ..) (fpReciprocal_describes ..) hpse hfp hfe hse hni d b rc hB
    | true =>
      exact estimatePair_ends (fpReciprocalSqrt_describes ..) (fpReciprocalSqrt_describes ..) hpse hfp hfe hse hni d b rc hB

end Sys2Proof.PairedSingle
end
